-- ==== Sys2Proof/Word.lean ====
section
/-! DEFINITION. Words, addresses, lane masks, and the one sparse table type the state is made of. -/
namespace Sys2Proof

/-- A 32-bit word (R15, R17, R72). -/
abbrev Word := BitVec 32
/-- A byte (R3). -/
abbrev Byte := BitVec 8
/-- A 64-bit address, held in a scalar pair (R34). -/
abbrev Addr := BitVec 64
/-- One bit for each lane of a course (R7, R97). -/
abbrev Lanes := BitVec 96

/-- A sparse table in canonical form: keys strictly rising, no entry equal to the default. -/
abbrev Tab (α : Type) := List (Nat × α)

namespace Tab

/-- The entry of a key, the default where none is listed. -/
def get {α : Type} (d : α) : Tab α → Nat → α
  | [], _ => d
  | (k, v) :: t, n => if n = k then v else get d t n

/-- Drop the entries of one key. -/
def erase {α : Type} : Tab α → Nat → Tab α
  | [], _ => []
  | (k, v) :: t, n => if n = k then erase t n else (k, v) :: erase t n

/-- Put an entry before the first larger key. -/
def insert {α : Type} : Tab α → Nat → α → Tab α
  | [], n, x => [(n, x)]
  | (k, v) :: t, n, x => if n < k then (n, x) :: (k, v) :: t else (k, v) :: insert t n x

/-- Write an entry, keeping the canonical form: writing the default removes the entry. -/
def set {α : Type} [DecidableEq α] (d : α) (t : Tab α) (n : Nat) (x : α) : Tab α :=
  if x = d then erase t n else insert (erase t n) n x

/-- Every key of the table is above n. -/
def above {α : Type} (n : Nat) : Tab α → Bool
  | [] => true
  | (k, _) :: _ => n < k

/-- The canonical form. -/
def wf {α : Type} [DecidableEq α] (d : α) : Tab α → Bool
  | [] => true
  | (k, v) :: t => (v ≠ d) && above k t && wf d t

/-- Write a run of consecutive entries. -/
def setList {α : Type} [DecidableEq α] (d : α) : Tab α → Nat → List α → Tab α
  | t, _, [] => t
  | t, n, x :: xs => setList d (set d t n x) (n + 1) xs

/-- Read a run of consecutive entries. -/
def getList {α : Type} (d : α) (t : Tab α) (n : Nat) : Nat → List α
  | 0 => []
  | c + 1 => get d t n :: getList d t (n + 1) c

/-- Drop every entry whose key does not satisfy the test. -/
def keep {α : Type} (p : Nat → Bool) : Tab α → Tab α
  | [] => []
  | (k, v) :: t => if p k then (k, v) :: keep p t else keep p t

end Tab

/-- The lane masks' bit of one lane. -/
abbrev Lanes.has (m : Lanes) (l : Nat) : Bool := m.getLsbD l
/-- The mask of one lane. -/
def Lanes.one (l : Nat) : Lanes := (1#96) <<< l
/-- The lanes of a mask in increasing order (R43). -/
def Lanes.list (m : Lanes) : List Nat := (List.range 96).filter (fun l => m.getLsbD l)
/-- All lanes. -/
def Lanes.all : Lanes := BitVec.allOnes 96
/-- The word of beat b of a lane mask (R17). -/
def Lanes.beat (m : Lanes) (b : Nat) : Word := (m >>> (32 * b)).setWidth 32
/-- A lane mask from its three words, beat 0 first (R34). -/
def Lanes.ofWords (w0 w1 w2 : Word) : Lanes :=
  w0.setWidth 96 ||| (w1.setWidth 96 <<< 32) ||| (w2.setWidth 96 <<< 64)
/-- A lane mask with the word of beat b replaced. -/
def Lanes.setBeat (m : Lanes) (b : Nat) (w : Word) : Lanes :=
  (m &&& ~~~((BitVec.allOnes 32).setWidth 96 <<< (32 * b))) ||| (w.setWidth 96 <<< (32 * b))
/-- The number of set bits. -/
def Lanes.count (m : Lanes) : Nat := m.list.length
/-- The lowest set lane. -/
def Lanes.lowest (m : Lanes) : Option Nat := m.list.head?

/-- The decidable choice of n-th list element, with a default. -/
def nth {α : Type} (d : α) : List α → Nat → α
  | [], _ => d
  | x :: _, 0 => x
  | _ :: t, n + 1 => nth d t n

end Sys2Proof
end

