-- ==== Sys2Proof/Config.lean ====
section
/-! DEFINITION. What the spec leaves open: constants with no body. Every one is a free value (log 4): nothing can be
proved of it, so a statement about the model holds whatever it is. -/
namespace Sys2Proof.Config

/-- Which candidate moves next when the agenda is empty (R99, R213, R380, R402: the spec orders no further). -/
opaque pick : Nat → Nat
/-- Old or new value of a badly spaced read or write, per beat (R89). -/
opaque freeBit : Nat → Nat → Bool
/-- How many steps after an instruction's issue the other path of its course still does not see what it has not completed (R99, R151). -/
opaque lag : Nat → Nat
/-- The step as of which a read of a location in a race returns its value (R219). -/
opaque raced : Nat → Nat → Nat
/-- Bits of a poisoned register (R207). -/
opaque freeWord : Nat → Nat → Word
/-- Bytes left undefined: tile bytes and cells after a storage error (R415, R463). -/
opaque freeByte : Nat → Nat → Byte
/-- The opaque saved context of a partition (R410). -/
opaque ctxImage : Nat → Nat → List Byte
/-- The fabric port of this package that leads to a root switch (R343). -/
opaque rootPort : Nat → Nat
/-- The errors that fence a cluster by their rate (R416). -/
opaque fenceRate : Nat
/-- The size of the context a partition needs (R410, CTXSZ). -/
opaque ctxSize : Nat → Addr
/-- Bytes of a signature of the identity key, by its index (R437, R438). -/
opaque sign : Nat → Nat → Byte
/-- Data a controller or another package answers with where the spec gives no value. -/
opaque outside : Nat → Nat → Byte

end Sys2Proof.Config
end

