-- ==== Sys2Proof/Syntax.lean ====
section
/-! DEFINITION. The instructions and events of spec/opcode_table.json: one constructor a row. An instruction word carries
its decoded operands; an event carries what its agent or the outside gives it. -/
namespace Sys2Proof

/-- The issuing unit of Table 4.10. -/
inductive IssueUnit | course | seq
deriving DecidableEq, Repr

/-- One decoded operand field (R76, R77, R109; Tables 4.3 and 4.5). -/
inductive Opnd
  /-- The instruction does not use the field. -/
  | none
  /-- A direct vector register. -/
  | v (n : Nat)
  /-- An indirect vector register v[sN + off]. -/
  | vi (sN off : Nat)
  /-- A scalar register; also a pair, triple or base by its first register. -/
  | s (n : Nat)
  /-- A small immediate, its six bits. -/
  | imm (bits : BitVec 6)
  /-- The literal word. -/
  | lit (w : Word)
  /-- A register of the named file (jm, q, sh, cb, t, tc, a, k), or a class mask. -/
  | f (n : Nat)
  /-- A displacement of 0 to 255 bytes. -/
  | disp (n : Nat)
  /-- A displacement from the literal word, signed. -/
  | dlit (w : Word)
  /-- A branch offset in words (R109). -/
  | toff (t : BitVec 16)
deriving DecidableEq, Repr

/-- The operands of one instruction: its words, stall count, four fields and modifier (Tables 4.2 and 4.4). -/
structure Opnds where
  words : Nat
  stall : Nat
  d : Opnd
  a : Opnd
  b : Opnd
  c : Opnd
  mod : Nat
deriving DecidableEq, Repr

/-- A fabric packet (Tables 15.3 and 15.4): the header's fields, but for LEN, which its payload gives, and the payload. -/
structure Packet where
  ty : Nat
  dpkg : Nat
  spkg : Nat
  djob : Nat
  tag : Nat
  opc : Nat
  ord : Nat
  cnt : Nat
  ta : Nat
  aux : Nat
  payload : List Byte
deriving DecidableEq, Repr

/-- A PCIe AtomicOp of the host (R425). -/
inductive PcieAtomic | fetchAdd | swap | cas
deriving DecidableEq, Repr

/-- The rows of spec/opcode_table.json: the events first, then the instruction words. -/
inductive Instr
  /-- COMMIT_SECTOR_SEND (R246). -/
  | commitSectorSend (sid : Nat)
  /-- COPY_ROW (R262). -/
  | copyRow (op : Nat)
  /-- GATHER_ROW (R266). -/
  | gatherRow (op : Nat)
  /-- SCATTER_INDEX (R266). -/
  | scatterIndex (op : Nat)
  /-- ENGINE_OP_COMPLETE (R268). -/
  | engineOpComplete (op : Nat)
  /-- TILE_OP_COMPLETE (R281). -/
  | tileOpComplete (cl op : Nat)
  /-- SLOT_PUBLISHED (R297). -/
  | slotPublished (st : Nat)
  /-- SUBSCRIPTION_SLOT_COPY (R298). -/
  | subscriptionSlotCopy (st cl : Nat)
  /-- MMA_EXECUTE (R288). -/
  | mmaExecute (cl : Nat)
  /-- DRAIN_EXECUTE (R289). -/
  | drainExecute (cl : Nat)
  /-- DRAIN_PUSH_RESUME (R289). -/
  | drainPushResume (cl : Nat)
  /-- ACCZ_EXECUTE (R290). -/
  | acczExecute (cl : Nat)
  /-- AMODE_SWITCH (R292). -/
  | amodeSwitch (cl : Nat)
  /-- SLOAD_EXECUTE (R315). -/
  | sloadExecute (cl : Nat)
  /-- SSTORE_EXECUTE (R315). -/
  | sstoreExecute (cl : Nat)
  /-- SZERO_EXECUTE (R315). -/
  | szeroExecute (cl : Nat)
  /-- SEVAL_EXECUTE (R316). -/
  | sevalExecute (cl : Nat)
  /-- SDER_EXECUTE (R317). -/
  | sderExecute (cl : Nat)
  /-- SGRAD_EXECUTE (R318). -/
  | sgradExecute (cl : Nat)
  /-- SREFINE_EXECUTE (R319). -/
  | srefineExecute (cl : Nat)
  /-- RD_PACKET (R325). -/
  | rdPacket (p : Packet)
  /-- WR_PACKET (R335). -/
  | wrPacket (p : Packet)
  /-- WRF_PACKET (R332). -/
  | wrfPacket (p : Packet)
  /-- AT_PACKET (R333). -/
  | atPacket (p : Packet)
  /-- CS_PACKET (R333). -/
  | csPacket (p : Packet)
  /-- FLG_PACKET (R334). -/
  | flgPacket (p : Packet)
  /-- MSG_PACKET (R336). -/
  | msgPacket (p : Packet)
  /-- MCST_PACKET (R341). -/
  | mcstPacket (p : Packet)
  /-- MCRD_PACKET (R342). -/
  | mcrdPacket (p : Packet)
  /-- MCRR_PACKET (R342). -/
  | mcrrPacket (p : Packet)
  /-- NACK_PACKET (R331). -/
  | nackPacket (p : Packet)
  /-- PACKET_DROPPED (R328). -/
  | packetDropped (p : Packet)
  /-- ABSENCE_WINDOW_EXPIRY (R343). -/
  | absenceWindowExpiry (group sq : Nat)
  /-- FLIT_REPLAY (R326). -/
  | flitReplay (port : Nat)
  /-- LINK_DOWN (R326). -/
  | linkDown (port : Nat) (lostPkgs : List Nat)
  /-- P_ACCEPT (R347). -/
  | pAccept (k : Nat)
  /-- PERSIST_DRAIN (R347). -/
  | persistDrain
  /-- WINDLASS_SWEEP (R364). -/
  | windlassSweep (part page : Nat)
  /-- LOCAL_COMMIT (R365). -/
  | localCommit (part : Nat)
  /-- STRIPE_CONTRIBUTION (R367), for a DJOB. -/
  | stripeContribution (djob stripe idx : Nat) (step : Word) (unit : List Byte)
  /-- STRIPE_COMMIT (R367). -/
  | stripeCommit (part : Nat)
  /-- POWER_FAIL (R349). -/
  | powerFail
  /-- HOLDUP_CHARGED (R466). -/
  | holdupCharged
  /-- HOLDUP_LOW (R466). -/
  | holdupLow
  /-- HOLDUP_LOW_TIMEOUT (R466). -/
  | holdupLowTimeout
  /-- NOP_PACKET (R381). -/
  | nopPacket (q : Nat)
  /-- LAUNCH_PACKET (R381). -/
  | launchPacket (q : Nat)
  /-- COPY_PACKET (R382). -/
  | copyPacket (q : Nat)
  /-- SIGNAL_SET (R381). -/
  | signalSet (q : Nat)
  /-- SIGNAL_DEC (R381). -/
  | signalDec (q : Nat)
  /-- SIGNAL_DEC_FAILED (R381). -/
  | signalDecFailed (q : Nat)
  /-- WAIT_PACKET (R381). -/
  | waitPacket (q : Nat)
  /-- CANCEL_PACKET (R381). -/
  | cancelPacket (q : Nat)
  /-- ARM_PACKET (R381). -/
  | armPacket (q : Nat)
  /-- DISARM_PACKET (R381). -/
  | disarmPacket (q : Nat)
  /-- CONCURRENT_ADMIT (R386). -/
  | concurrentAdmit (l : Nat)
  /-- BATCH_HANDOFF (R386). -/
  | batchHandoff (l die : Nat)
  /-- PRIORITY_AGING (R390). -/
  | priorityAging (w : Nat)
  /-- TAB_START (R393). -/
  | tabStart (part cl : Nat)
  /-- TEAM_DISPLACE (R387). -/
  | teamDisplace (tm : Nat)
  /-- LAUNCH_COMPLETE (R26). -/
  | launchComplete (l : Nat)
  /-- CANCEL_COMPLETE (R396). -/
  | cancelComplete (l : Nat)
  /-- REPLY_ARRIVAL (R206). -/
  | replyArrival (tbl ent gen : Nat) (data : List Byte)
  /-- STORE_ACK (R203). -/
  | storeAck (tbl ent gen : Nat)
  /-- REQUEST_TIMEOUT (R206). -/
  | requestTimeout (tbl ent : Nat)
  /-- ILLEGAL_OP (R93). -/
  | illegalOp (o : Opnds)
  /-- PARTY_STOP (R402). -/
  | partyStop (idx : Nat)
  /-- HANDLER_ENTRY (R405). -/
  | handlerEntry (part : Nat)
  /-- PREEMPT_COMPLETE (R410). -/
  | preemptComplete (part : Nat)
  /-- QUEUE_WATCHDOG_EXPIRY (R412). -/
  | queueWatchdogExpiry (q : Nat)
  /-- ARM_WATCHDOG_EXPIRY (R412). -/
  | armWatchdogExpiry (part : Nat)
  /-- WATCHDOG_RESET (R413). -/
  | watchdogReset (part : Nat)
  /-- CLUSTER_FENCE (R416). -/
  | clusterFence (cl : Nat)
  /-- MRTAIL_WRITE (R430). -/
  | mrtailWrite (slots : List (Nat × Byte)) (tail : Nat)
  /-- PART_CFG_QUADS (R434). -/
  | partCfgQuads
  /-- PART_CFG_PTROOT (R185). -/
  | partCfgPtroot
  /-- PART_CFG_SRBASE (R403). -/
  | partCfgSrbase
  /-- PART_CFG_TVEC (R405). -/
  | partCfgTvec
  /-- PART_CFG_CTXBASE (R410). -/
  | partCfgCtxbase
  /-- PART_CFG_TABBASE (R391). -/
  | partCfgTabbase
  /-- PART_CFG_TABN (R391). -/
  | partCfgTabn
  /-- PART_CFG_TABCFG (R392). -/
  | partCfgTabcfg
  /-- PART_CFG_MIGRING (R428). -/
  | partCfgMigring
  /-- PART_CFG_DOMCTL (R323). -/
  | partCfgDomctl
  /-- PART_CFG_NVMEPORTS (R433). -/
  | partCfgNvmeports
  /-- PART_TUNE_MTO (R205). -/
  | partTuneMto
  /-- PART_TUNE_MIGTH (R275). -/
  | partTuneMigth
  /-- PART_TUNE_WDCFG (R412). -/
  | partTuneWdcfg
  /-- QUEUE_CFG (R378). -/
  | queueCfg
  /-- CNT_ALLOC (R375). -/
  | cntAlloc
  /-- CNT_FREE (R375). -/
  | cntFree
  /-- STREAM_CFG (R295). -/
  | streamCfg
  /-- GROUP_CFG (R432). -/
  | groupCfg
  /-- PREEMPT (R410). -/
  | preempt
  /-- RESTORE (R410). -/
  | restore
  /-- RESET (R413). -/
  | reset
  /-- MBOX_ANSWER (R409). -/
  | mboxAnswer
  /-- NVME_SUBMIT (R433). -/
  | nvmeSubmit
  /-- NVME_COMPLETION (R433). -/
  | nvmeCompletion (port : Nat) (entry : List Byte) (dma : List (Nat × Byte))
  /-- ATTEST (R438). -/
  | attest
  /-- EVICT_DONE (R429). -/
  | evictDone
  /-- FRAME_EXT_SET (R362). -/
  | frameExtSet
  /-- FRAME_EXT_CLEAR (R362). -/
  | frameExtClear
  /-- HOST_BAR2_WRITE (R426). -/
  | hostBar2Write (off : Nat) (bytes : List Byte)
  /-- HOST_BAR2_READ (R426). -/
  | hostBar2Read (off n : Nat)
  /-- HBEAT (R437). -/
  | hbeat
  /-- BOOT (R436). -/
  | boot (fwOk : Bool) (badClusters : List Nat)
  /-- EJECT_N (R441). -/
  | ejectN (level : Bool)
  /-- EVICT_REQUEST (R441). -/
  | evictRequest
  /-- EVICT_WITHDRAW (R442). -/
  | evictWithdraw
  /-- EVICT_READY (R441). -/
  | evictReady
  /-- EVICT_TIMEOUT (R441). -/
  | evictTimeout
  /-- FRU_READ (R439). -/
  | fruRead
  /-- REPL_CLEAR (R440). -/
  | replClear
  /-- HOST_BAR2_ATOMICOP (R425). -/
  | hostBar2Atomicop (off : Nat) (op : PcieAtomic) (bytes64 : Bool) (x y : Nat)
  /-- DISPLACED_TEAM_RESTORE (R387). -/
  | displacedTeamRestore (tm : Nat)
  /-- NOP_32 (R121). -/
  | nop32 (o : Opnds)
  /-- NOP (R121). -/
  | nop (o : Opnds)
  /-- BRA (R111). -/
  | bra (o : Opnds)
  /-- BRC (R112). -/
  | brc (o : Opnds)
  /-- BRD (R113). -/
  | brd (o : Opnds)
  /-- BRX_32 (R114). -/
  | brx32 (o : Opnds)
  /-- BRX (R114). -/
  | brx (o : Opnds)
  /-- JOIN_32 (R103). -/
  | join32 (o : Opnds)
  /-- JOIN (R103). -/
  | join (o : Opnds)
  /-- JARV_32 (R115). -/
  | jarv32 (o : Opnds)
  /-- JARV (R115). -/
  | jarv (o : Opnds)
  /-- CALL (R117). -/
  | call (o : Opnds)
  /-- CALLX_32 (R117). -/
  | callx32 (o : Opnds)
  /-- CALLX (R117). -/
  | callx (o : Opnds)
  /-- RET_32 (R118). -/
  | ret32 (o : Opnds)
  /-- RET (R118). -/
  | ret (o : Opnds)
  /-- EXIT_32 (R119). -/
  | exit32 (o : Opnds)
  /-- EXIT (R119). -/
  | exit (o : Opnds)
  /-- LOOP (R120). -/
  | loop (o : Opnds)
  /-- YIELD_32 (R121). -/
  | yield32 (o : Opnds)
  /-- YIELD (R121). -/
  | yield (o : Opnds)
  /-- MAND_32 (R122). -/
  | mand32 (o : Opnds)
  /-- MAND (R122). -/
  | mand (o : Opnds)
  /-- MOR_32 (R122). -/
  | mor32 (o : Opnds)
  /-- MOR (R122). -/
  | mor (o : Opnds)
  /-- MXOR_32 (R122). -/
  | mxor32 (o : Opnds)
  /-- MXOR (R122). -/
  | mxor (o : Opnds)
  /-- MNOT_32 (R122). -/
  | mnot32 (o : Opnds)
  /-- MNOT (R122). -/
  | mnot (o : Opnds)
  /-- MANDN_32 (R122). -/
  | mandn32 (o : Opnds)
  /-- MANDN (R122). -/
  | mandn (o : Opnds)
  /-- MSET_32 (R123). -/
  | mset32 (o : Opnds)
  /-- MSET (R123). -/
  | mset (o : Opnds)
  /-- MFFS_32 (R123). -/
  | mffs32 (o : Opnds)
  /-- MFFS (R123). -/
  | mffs (o : Opnds)
  /-- VOTE_32 (R124). -/
  | vote32 (o : Opnds)
  /-- VOTE (R124). -/
  | vote (o : Opnds)
  /-- RJMV_32 (R125). -/
  | rjmv32 (o : Opnds)
  /-- RJMV (R125). -/
  | rjmv (o : Opnds)
  /-- JMLD (R125). -/
  | jmld (o : Opnds)
  /-- JMST_32 (R125). -/
  | jmst32 (o : Opnds)
  /-- JMST (R125). -/
  | jmst (o : Opnds)
  /-- IADD_32 (R132). -/
  | iadd32 (o : Opnds)
  /-- IADD (R132). -/
  | iadd (o : Opnds)
  /-- ISUB_32 (R132). -/
  | isub32 (o : Opnds)
  /-- ISUB (R132). -/
  | isub (o : Opnds)
  /-- IMUL24_32 (R133). -/
  | imul2432 (o : Opnds)
  /-- IMUL24 (R133). -/
  | imul24 (o : Opnds)
  /-- IMAD24 (R133). -/
  | imad24 (o : Opnds)
  /-- IMUL32_32 (R134). -/
  | imul3232 (o : Opnds)
  /-- IMUL32 (R134). -/
  | imul32 (o : Opnds)
  /-- IMULH32_32 (R134). -/
  | imulh3232 (o : Opnds)
  /-- IMULH32 (R134). -/
  | imulh32 (o : Opnds)
  /-- IMIN_32 (R135). -/
  | imin32 (o : Opnds)
  /-- IMIN (R135). -/
  | imin (o : Opnds)
  /-- IMAX_32 (R135). -/
  | imax32 (o : Opnds)
  /-- IMAX (R135). -/
  | imax (o : Opnds)
  /-- ICMP_32 (R136). -/
  | icmp32 (o : Opnds)
  /-- ICMP (R136). -/
  | icmp (o : Opnds)
  /-- AND_32 (R137). -/
  | and32 (o : Opnds)
  /-- AND (R137). -/
  | and (o : Opnds)
  /-- OR_32 (R137). -/
  | or32 (o : Opnds)
  /-- OR (R137). -/
  | or (o : Opnds)
  /-- XOR_32 (R137). -/
  | xor32 (o : Opnds)
  /-- XOR (R137). -/
  | xor (o : Opnds)
  /-- SHL_32 (R137). -/
  | shl32 (o : Opnds)
  /-- SHL (R137). -/
  | shl (o : Opnds)
  /-- SHR_32 (R137). -/
  | shr32 (o : Opnds)
  /-- SHR (R137). -/
  | shr (o : Opnds)
  /-- SAR_32 (R137). -/
  | sar32 (o : Opnds)
  /-- SAR (R137). -/
  | sar (o : Opnds)
  /-- ROT_32 (R137). -/
  | rot32 (o : Opnds)
  /-- ROT (R137). -/
  | rot (o : Opnds)
  /-- BFX (R138). -/
  | bfx (o : Opnds)
  /-- BFI (R138). -/
  | bfi (o : Opnds)
  /-- POPC_32 (R139). -/
  | popc32 (o : Opnds)
  /-- POPC (R139). -/
  | popc (o : Opnds)
  /-- CLZ_32 (R139). -/
  | clz32 (o : Opnds)
  /-- CLZ (R139). -/
  | clz (o : Opnds)
  /-- SEL (R140). -/
  | sel (o : Opnds)
  /-- MOV_32 (R141). -/
  | mov32 (o : Opnds)
  /-- MOV (R141). -/
  | mov (o : Opnds)
  /-- MOVI (R141). -/
  | movi (o : Opnds)
  /-- ADDR (R142). -/
  | addr (o : Opnds)
  /-- CVTI (R143). -/
  | cvti (o : Opnds)
  /-- CRC_32 (R144). -/
  | crc32 (o : Opnds)
  /-- CRC (R144). -/
  | crc (o : Opnds)
  /-- FADD_32 (R152). -/
  | fadd32 (o : Opnds)
  /-- FADD (R152). -/
  | fadd (o : Opnds)
  /-- FSUB_32 (R152). -/
  | fsub32 (o : Opnds)
  /-- FSUB (R152). -/
  | fsub (o : Opnds)
  /-- FMUL_32 (R152). -/
  | fmul32 (o : Opnds)
  /-- FMUL (R152). -/
  | fmul (o : Opnds)
  /-- FFMA (R152). -/
  | ffma (o : Opnds)
  /-- FMIN_32 (R153). -/
  | fmin32 (o : Opnds)
  /-- FMIN (R153). -/
  | fmin (o : Opnds)
  /-- FMAX_32 (R153). -/
  | fmax32 (o : Opnds)
  /-- FMAX (R153). -/
  | fmax (o : Opnds)
  /-- FCMP_32 (R154). -/
  | fcmp32 (o : Opnds)
  /-- FCMP (R154). -/
  | fcmp (o : Opnds)
  /-- FCLASS_32 (R155). -/
  | fclass32 (o : Opnds)
  /-- FCLASS (R155). -/
  | fclass (o : Opnds)
  /-- FSGN_32 (R156). -/
  | fsgn32 (o : Opnds)
  /-- FSGN (R156). -/
  | fsgn (o : Opnds)
  /-- FRCP_32 (R157). -/
  | frcp32 (o : Opnds)
  /-- FRCP (R157). -/
  | frcp (o : Opnds)
  /-- FRSQ_32 (R157). -/
  | frsq32 (o : Opnds)
  /-- FRSQ (R157). -/
  | frsq (o : Opnds)
  /-- FSQRT_32 (R157). -/
  | fsqrt32 (o : Opnds)
  /-- FSQRT (R157). -/
  | fsqrt (o : Opnds)
  /-- FEXP2_32 (R157). -/
  | fexp232 (o : Opnds)
  /-- FEXP2 (R157). -/
  | fexp2 (o : Opnds)
  /-- FLOG2_32 (R157). -/
  | flog232 (o : Opnds)
  /-- FLOG2 (R157). -/
  | flog2 (o : Opnds)
  /-- FSIN_32 (R157). -/
  | fsin32 (o : Opnds)
  /-- FSIN (R157). -/
  | fsin (o : Opnds)
  /-- FCOS_32 (R157). -/
  | fcos32 (o : Opnds)
  /-- FCOS (R157). -/
  | fcos (o : Opnds)
  /-- FCVT (R158). -/
  | fcvt (o : Opnds)
  /-- BXPACK (R160). -/
  | bxpack (o : Opnds)
  /-- BXUNPK (R161). -/
  | bxunpk (o : Opnds)
  /-- CADD_32 (R162). -/
  | cadd32 (o : Opnds)
  /-- CADD (R162). -/
  | cadd (o : Opnds)
  /-- CSPLIT_32 (R162). -/
  | csplit32 (o : Opnds)
  /-- CSPLIT (R162). -/
  | csplit (o : Opnds)
  /-- CJOIN_32 (R162). -/
  | cjoin32 (o : Opnds)
  /-- CJOIN (R162). -/
  | cjoin (o : Opnds)
  /-- UPDM (R164). -/
  | updm (o : Opnds)
  /-- FSETRM_32 (R159). -/
  | fsetrm32 (o : Opnds)
  /-- FSETRM (R159). -/
  | fsetrm (o : Opnds)
  /-- FGETRM_32 (R159). -/
  | fgetrm32 (o : Opnds)
  /-- FGETRM (R159). -/
  | fgetrm (o : Opnds)
  /-- FFLAG_32 (R151). -/
  | fflag32 (o : Opnds)
  /-- FFLAG (R151). -/
  | fflag (o : Opnds)
  /-- XGET_32 (R172). -/
  | xget32 (o : Opnds)
  /-- XGET (R172). -/
  | xget (o : Opnds)
  /-- XPUT_32 (R172). -/
  | xput32 (o : Opnds)
  /-- XPUT (R172). -/
  | xput (o : Opnds)
  /-- SHFL_32 (R173). -/
  | shfl32 (o : Opnds)
  /-- SHFL (R173). -/
  | shfl (o : Opnds)
  /-- BCAST_32 (R174). -/
  | bcast32 (o : Opnds)
  /-- BCAST (R174). -/
  | bcast (o : Opnds)
  /-- RED_32 (R175). -/
  | red32 (o : Opnds)
  /-- RED (R175). -/
  | red (o : Opnds)
  /-- SCAN_32 (R175). -/
  | scan32 (o : Opnds)
  /-- SCAN (R175). -/
  | scan (o : Opnds)
  /-- COMPACT_32 (R176). -/
  | compact32 (o : Opnds)
  /-- COMPACT (R176). -/
  | compact (o : Opnds)
  /-- EXPAND_32 (R176). -/
  | expand32 (o : Opnds)
  /-- EXPAND (R176). -/
  | expand (o : Opnds)
  /-- MATCH_32 (R177). -/
  | matchLanes32 (o : Opnds)
  /-- MATCH (R177). -/
  | matchLanes (o : Opnds)
  /-- VIDX_32 (R178). -/
  | vidx32 (o : Opnds)
  /-- VIDX (R178). -/
  | vidx (o : Opnds)
  /-- LREAD_32 (R174). -/
  | lread32 (o : Opnds)
  /-- LREAD (R174). -/
  | lread (o : Opnds)
  /-- LWRITE (R174). -/
  | lwrite (o : Opnds)
  /-- LD (R192). -/
  | ld (o : Opnds)
  /-- ST (R192). -/
  | st (o : Opnds)
  /-- LDS_32 (R193). -/
  | lds32 (o : Opnds)
  /-- LDS (R193). -/
  | lds (o : Opnds)
  /-- STS_32 (R193). -/
  | sts32 (o : Opnds)
  /-- STS (R193). -/
  | sts (o : Opnds)
  /-- LDB (R192). -/
  | ldb (o : Opnds)
  /-- STB (R192). -/
  | stb (o : Opnds)
  /-- STASH (R195). -/
  | stash (o : Opnds)
  /-- ATOM (R196). -/
  | atom (o : Opnds)
  /-- ATOMS (R197). -/
  | atoms (o : Opnds)
  /-- CAS (R197). -/
  | cas (o : Opnds)
  /-- CASS (R197). -/
  | cass (o : Opnds)
  /-- PREF (R200). -/
  | pref (o : Opnds)
  /-- PINV (R202). -/
  | pinv (o : Opnds)
  /-- PWB (R202). -/
  | pwb (o : Opnds)
  /-- XLT (R201). -/
  | xlt (o : Opnds)
  /-- STZ (R200). -/
  | stz (o : Opnds)
  /-- FENCE (R223). -/
  | fence (o : Opnds)
  /-- FENCE_X (R224). -/
  | fenceX (o : Opnds)
  /-- OUTRD_32 (R225). -/
  | outrd32 (o : Opnds)
  /-- OUTRD (R225). -/
  | outrd (o : Opnds)
  /-- BAR_32 (R227). -/
  | bar32 (o : Opnds)
  /-- BAR (R227). -/
  | bar (o : Opnds)
  /-- BARA_32 (R227). -/
  | bara32 (o : Opnds)
  /-- BARA (R227). -/
  | bara (o : Opnds)
  /-- BARW_32 (R227). -/
  | barw32 (o : Opnds)
  /-- BARW (R227). -/
  | barw (o : Opnds)
  /-- BARI (R227). -/
  | bari (o : Opnds)
  /-- BARQ_32 (R227). -/
  | barq32 (o : Opnds)
  /-- BARQ (R227). -/
  | barq (o : Opnds)
  /-- TRY (R245). -/
  | tryRegion (o : Opnds)
  /-- COMMIT_32 (R246). -/
  | commit32 (o : Opnds)
  /-- COMMIT (R246). -/
  | commit (o : Opnds)
  /-- ABORT_32 (R247). -/
  | abort32 (o : Opnds)
  /-- ABORT (R247). -/
  | abort (o : Opnds)
  /-- TRYST_32 (R249). -/
  | tryst32 (o : Opnds)
  /-- TRYST (R249). -/
  | tryst (o : Opnds)
  /-- TRYADDR_32 (R249). -/
  | tryaddr32 (o : Opnds)
  /-- TRYADDR (R249). -/
  | tryaddr (o : Opnds)
  /-- TRYDROP_32 (R248). -/
  | trydrop32 (o : Opnds)
  /-- TRYDROP (R248). -/
  | trydrop (o : Opnds)
  /-- SHLD (R260). -/
  | shld (o : Opnds)
  /-- SHSET (R261). -/
  | shset (o : Opnds)
  /-- SHST (R260). -/
  | shst (o : Opnds)
  /-- COPY (R262). -/
  | copy (o : Opnds)
  /-- GATHER (R266). -/
  | gather (o : Opnds)
  /-- SCATTER (R266). -/
  | scatter (o : Opnds)
  /-- CBINIT_32 (R269). -/
  | cbinit32 (o : Opnds)
  /-- CBINIT (R269). -/
  | cbinit (o : Opnds)
  /-- CBWAIT_32 (R269). -/
  | cbwait32 (o : Opnds)
  /-- CBWAIT (R269). -/
  | cbwait (o : Opnds)
  /-- CBPOLL_32 (R269). -/
  | cbpoll32 (o : Opnds)
  /-- CBPOLL (R269). -/
  | cbpoll (o : Opnds)
  /-- QBIND (R272). -/
  | qbind (o : Opnds)
  /-- QBIND_FREE (R272). -/
  | qbindFree (o : Opnds)
  /-- QSTAT_32 (R274). -/
  | qstat32 (o : Opnds)
  /-- QSTAT (R274). -/
  | qstat (o : Opnds)
  /-- PGACC (R276). -/
  | pgacc (o : Opnds)
  /-- MOVTC_ (R282). -/
  | movtc (o : Opnds)
  /-- RDTC_32 (R282). -/
  | rdtc32 (o : Opnds)
  /-- RDTC (R282). -/
  | rdtc (o : Opnds)
  /-- TZERO_32 (R293). -/
  | tzero32 (o : Opnds)
  /-- TZERO (R293). -/
  | tzero (o : Opnds)
  /-- TFILL (R293). -/
  | tfill (o : Opnds)
  /-- TLOAD_32 (R293). -/
  | tload32 (o : Opnds)
  /-- TLOAD (R293). -/
  | tload (o : Opnds)
  /-- TSTORE_32 (R293). -/
  | tstore32 (o : Opnds)
  /-- TSTORE (R293). -/
  | tstore (o : Opnds)
  /-- TMOV_32 (R293). -/
  | tmov32 (o : Opnds)
  /-- TMOV (R293). -/
  | tmov (o : Opnds)
  /-- TXPOSE_32 (R293). -/
  | txpose32 (o : Opnds)
  /-- TXPOSE (R293). -/
  | txpose (o : Opnds)
  /-- MMA (R288). -/
  | mma (o : Opnds)
  /-- DRAIN (R289). -/
  | drain (o : Opnds)
  /-- ACCZ_32 (R290). -/
  | accz32 (o : Opnds)
  /-- ACCZ (R290). -/
  | accz (o : Opnds)
  /-- RQPOP_32 (R291). -/
  | rqpop32 (o : Opnds)
  /-- RQPOP (R291). -/
  | rqpop (o : Opnds)
  /-- AMODE_32 (R292). -/
  | amode32 (o : Opnds)
  /-- AMODE (R292). -/
  | amode (o : Opnds)
  /-- AWAIT_32 (R292). -/
  | await32 (o : Opnds)
  /-- AWAIT (R292). -/
  | await (o : Opnds)
  /-- SPUB (R297). -/
  | spub (o : Opnds)
  /-- SSUB (R298). -/
  | ssub (o : Opnds)
  /-- SSUB_OPEN (R298). -/
  | ssubOpen (o : Opnds)
  /-- SSUB_CLOSE (R298). -/
  | ssubClose (o : Opnds)
  /-- SSUB_COPY (R298). -/
  | ssubCopy (o : Opnds)
  /-- SREL (R298). -/
  | srel (o : Opnds)
  /-- SSTAT_32 (R299). -/
  | sstat32 (o : Opnds)
  /-- SSTAT (R299). -/
  | sstat (o : Opnds)
  /-- KSET (R313). -/
  | kset (o : Opnds)
  /-- KSET_MAP (R313). -/
  | ksetMap (o : Opnds)
  /-- KGET_32 (R314). -/
  | kget32 (o : Opnds)
  /-- KGET (R314). -/
  | kget (o : Opnds)
  /-- SLOAD_32 (R315). -/
  | sload32 (o : Opnds)
  /-- SLOAD (R315). -/
  | sload (o : Opnds)
  /-- SSTORE_32 (R315). -/
  | sstore32 (o : Opnds)
  /-- SSTORE (R315). -/
  | sstore (o : Opnds)
  /-- SZERO_32 (R315). -/
  | szero32 (o : Opnds)
  /-- SZERO (R315). -/
  | szero (o : Opnds)
  /-- SEVAL_32 (R316). -/
  | seval32 (o : Opnds)
  /-- SEVAL (R316). -/
  | seval (o : Opnds)
  /-- SDER_32 (R317). -/
  | sder32 (o : Opnds)
  /-- SDER (R317). -/
  | sder (o : Opnds)
  /-- SGRAD_32 (R318). -/
  | sgrad32 (o : Opnds)
  /-- SGRAD (R318). -/
  | sgrad (o : Opnds)
  /-- SREFINE_32 (R319). -/
  | srefine32 (o : Opnds)
  /-- SREFINE (R319). -/
  | srefine (o : Opnds)
  /-- LDR (R331). -/
  | ldr (o : Opnds)
  /-- STF (R332). -/
  | stf (o : Opnds)
  /-- ATOMR (R333). -/
  | atomr (o : Opnds)
  /-- CASR (R333). -/
  | casr (o : Opnds)
  /-- FLAGW (R334). -/
  | flagw (o : Opnds)
  /-- MSG (R336). -/
  | msg (o : Opnds)
  /-- MSGQ_32 (R337). -/
  | msgq32 (o : Opnds)
  /-- MSGQ (R337). -/
  | msgq (o : Opnds)
  /-- MCST (R341). -/
  | mcst (o : Opnds)
  /-- MCRED (R342). -/
  | mcred (o : Opnds)
  /-- GRPQ_32 (R338). -/
  | grpq32 (o : Opnds)
  /-- GRPQ (R338). -/
  | grpq (o : Opnds)
  /-- PST (R352). -/
  | pst (o : Opnds)
  /-- PBAR_32 (R353). -/
  | pbar32 (o : Opnds)
  /-- PBAR (R353). -/
  | pbar (o : Opnds)
  /-- PBAR_WAIT_PKG (R353). -/
  | pbarWaitPkg (o : Opnds)
  /-- PBAR_WAIT_STRIPE (R353). -/
  | pbarWaitStripe (o : Opnds)
  /-- PFLUSH_32 (R355). -/
  | pflush32 (o : Opnds)
  /-- PFLUSH (R355). -/
  | pflush (o : Opnds)
  /-- PQST_32 (R355). -/
  | pqst32 (o : Opnds)
  /-- PQST (R355). -/
  | pqst (o : Opnds)
  /-- STEPSET_32 (R356). -/
  | stepset32 (o : Opnds)
  /-- STEPSET (R356). -/
  | stepset (o : Opnds)
  /-- STEPRD_32 (R356). -/
  | steprd32 (o : Opnds)
  /-- STEPRD (R356). -/
  | steprd (o : Opnds)
  /-- SNAP_TAKE (R363). -/
  | snapTake (o : Opnds)
  /-- SNAP_RESTORE (R369). -/
  | snapRestore (o : Opnds)
  /-- SNAP_FREEZE (R369). -/
  | snapFreeze (o : Opnds)
  /-- SNAP_THAW (R369). -/
  | snapThaw (o : Opnds)
  /-- SNAP_REBUILD (R369). -/
  | snapRebuild (o : Opnds)
  /-- SNAP_DELTA (R369). -/
  | snapDelta (o : Opnds)
  /-- SNAPST_32 (R370). -/
  | snapst32 (o : Opnds)
  /-- SNAPST (R370). -/
  | snapst (o : Opnds)
  /-- LAUNCH (R398). -/
  | launch (o : Opnds)
  /-- CANCEL_32 (R398). -/
  | cancel32 (o : Opnds)
  /-- CANCEL (R396). -/
  | cancel (o : Opnds)
  /-- CNTRD_32 (R398). -/
  | cntrd32 (o : Opnds)
  /-- CNTRD (R398). -/
  | cntrd (o : Opnds)
  /-- TABNEW (R398). -/
  | tabnew (o : Opnds)
  /-- TABDEC (R398). -/
  | tabdec (o : Opnds)
  /-- TABST_32 (R398). -/
  | tabst32 (o : Opnds)
  /-- TABST (R398). -/
  | tabst (o : Opnds)
  /-- ARM (R394). -/
  | arm (o : Opnds)
  /-- DISARM_32 (R398). -/
  | disarm32 (o : Opnds)
  /-- DISARM (R398). -/
  | disarm (o : Opnds)
  /-- TRAP_32 (R419). -/
  | trap32 (o : Opnds)
  /-- TRAP (R419). -/
  | trap (o : Opnds)
  /-- RTE_32 (R407). -/
  | rte32 (o : Opnds)
  /-- RTE (R407). -/
  | rte (o : Opnds)
  /-- RTE_SKIP (R407). -/
  | rteSkip (o : Opnds)
  /-- RTE_ENDC (R407). -/
  | rteEndc (o : Opnds)
  /-- RTE_ENDP (R407). -/
  | rteEndp (o : Opnds)
  /-- BRKP_32 (R419). -/
  | brkp32 (o : Opnds)
  /-- BRKP (R419). -/
  | brkp (o : Opnds)
  /-- SYSRD (R418). -/
  | sysrd (o : Opnds)
  /-- SYSWR_MODE (R418). -/
  | syswrMode (o : Opnds)
  /-- SYSWR_XCONF (R170). -/
  | syswrXconf (o : Opnds)
  /-- SYSWR_MBOXO (R409). -/
  | syswrMboxo (o : Opnds)
  /-- SYSWR_MBOXST (R409). -/
  | syswrMboxst (o : Opnds)
  /-- SYSWR_OTHER (R418). -/
  | syswrOther (o : Opnds)
  /-- HALTP_32 (R419). -/
  | haltp32 (o : Opnds)
  /-- HALTP (R419). -/
  | haltp (o : Opnds)
  /-- STOPRD (R420). -/
  | stoprd (o : Opnds)
  /-- EVTRD_32 (R421). -/
  | evtrd32 (o : Opnds)
  /-- EVTRD (R421). -/
  | evtrd (o : Opnds)
  /-- CYCLE_32 (R422). -/
  | cycle32 (o : Opnds)
  /-- CYCLE (R422). -/
  | cycle (o : Opnds)
deriving DecidableEq, Repr

end Sys2Proof
end

