-- ==== Sys2Proof/Machine/State.lean ====
section
/-! DEFINITION. The state of one T96-P package as plain data, the reasons a step stops, and the state after reset.
Tables are `Tab`s: an entry that is not listed holds the default. -/
namespace Sys2Proof.Machine

/-- A register the scoreboards guard (R84 to R89). -/
inductive Reg
  /-- Vector register of the course. -/
  | v (n : Nat)
  /-- Scalar register. -/
  | s (n : Nat)
  /-- Shape register (SHLD has variable latency). -/
  | sh (n : Nat)
deriving DecidableEq, Repr

/-- A pending fixed-latency write of a path: the register, the slot from which it is complete, and the old value (R85, R89). -/
structure Pend where
  reg : Reg
  due : Nat
  old : Tab Word
  /-- A later write of the register through the other path has overtaken it (R99). -/
  passed : Bool
  /-- The number of the step that issued it, from which the other path's view of it is reckoned (R99). -/
  born : Nat
  /-- A variable-latency write of the register has waited for it (R87): it counts for the spacing of R85 alone. -/
  done : Bool
deriving DecidableEq, Repr

/-- The flags of an instruction of a path that may not have completed: the slot from which it has, none for one of variable latency, the flags it
sets, those of them that nothing else is sure to have set, and the number of its step (R151). -/
structure FlagPend where
  due : Option Nat
  w : Word
  doubt : Word
  born : Nat
deriving DecidableEq, Repr

/-- What an instruction that has begun to wait holds: the clock from which it waits at a blocked page (R202), a BAR's old phase (R229), the
last entry a PFLUSH waits for (R355), that its first effect is made (R202, R291), or that the Windlass's writes are on their way (R369). -/
inductive Waiting
  | since (clock : Nat)
  | bar (phase : Nat)
  | flush (upTo : Nat)
  | begun
  | hub
deriving DecidableEq, Repr

/-- One path of a course, or the one stream of a sequencer (Table 5.1). -/
structure Path where
  /-- The model's name of the path, by which its requests are known. -/
  id : Nat
  pc : Addr
  em : Lanes
  /-- Which of the mask words s61 to s63 are poisoned (R207). -/
  emp : List Nat
  own : Lanes
  owe : Option Nat
  /-- The block it is in: header address and fetched words (R83). -/
  hdr : Addr
  blk : List Word
  /-- Issue slots counted by R85 and the pending fixed-latency writes. -/
  slot : Nat
  pend : List Pend
  /-- The flags of the path's instructions that may not have completed (R151). -/
  fl : List FlagPend
  /-- Its instruction has begun to wait. -/
  wait : Option Waiting
  /-- The path has yet to enter the header at its pc (R455, R462). -/
  entry : Bool
  /-- That entry is checked against open joins (R104, R455). -/
  check : Bool
  /-- Its instruction waited at issue at the path's last turn (R402). -/
  held : Bool
deriving DecidableEq, Repr

/-- A rejoin record (Table 5.2); JR keeps the block of the JOIN at which the first path parked. -/
structure Join where
  mask : Lanes
  jv : Bool
  ja : Lanes
  jh : Addr
  jr : Option (Addr × Addr × List Word)
  jp : Option Nat
  jseq : Nat
deriving DecidableEq, Repr

/-- A closed rejoin record. -/
def Join.zero : Join := ⟨0, false, 0, 0, none, none, 0⟩

/-- An entry of the return stack (R117). -/
structure Ret where
  link : Addr
  lanes : Lanes
deriving DecidableEq, Repr

/-- The control state a region checkpoints and a handler saves (R232, R405). -/
structure Ctl where
  p0 : Option Path
  p1 : Option Path
  arms : List Path
  jm : Tab Join
  rstk : List Ret
  lr : Tab Addr
deriving DecidableEq, Repr

/-- An entry of the speculation buffer (R234): a 32-byte sector of system physical memory. -/
structure Sector where
  addr : Nat
  /-- The virtual address by which it was first reached. -/
  va : Nat
  readers : Lanes
  writer : Option Nat
  bytes : Tab (Option Byte)
  /-- Order of the sector's first buffered store (R246). -/
  ord : Nat
deriving DecidableEq, Repr

/-- An open try region (R232, R234). -/
structure Region where
  ctl : Ctl
  emt : Lanes
  own : Lanes
  k : Nat
  j : Nat
  scal : Tab Word
  sp : Tab Bool
  target : Addr
  buf : List Sector
  ord : Nat
  /-- An EXT write was seen (R238, R240). -/
  ext : Bool
deriving DecidableEq, Repr

/-- An abort that waits for the course's replies (R239): code, fault code, fault address. -/
structure AbortReq where
  code : Nat
  fcode : Nat
  addr : Addr
deriving DecidableEq, Repr

/-- The hidden save area of a handler (R405), and the event it handles. -/
structure Saved where
  ctl : Ctl
  s : Tab Word
  sp : Tab Bool
  idx : Nat
  seq : Nat
  pc : Addr
  /-- The stream and path slot that trapped, none where the event is not an instruction's own. -/
  who : Option (Nat × Nat)
  /-- The path that issued a request whose fault came late, and the block it was in (R206, R407). -/
  back : Option (Nat × Addr)
deriving DecidableEq, Repr

/-- A queue register's binding (R272). -/
structure Bind where
  hq : Nat
  reg : Nat
deriving DecidableEq, Repr

/-- A request's tag: table, entry, generation (R203). -/
structure Tag where
  tbl : Nat
  ent : Nat
  gen : Nat
deriving DecidableEq, Repr

/-- One stream: a course in its slot, or a sequencer's stream. -/
structure Stream where
  part : Nat
  team : Nat
  launch : Nat
  /-- Course index in the team. -/
  idx : Nat
  /-- Allocation in vector registers, .regs and .tryreserve (R15, R231). -/
  alloc : Nat
  rg : Nat
  nsh : Nat
  /-- The launch's system attribute. -/
  sys : Bool
  /-- The tab that runs here and its word at +24 at the start (TABST). -/
  tab : Option Nat
  tabw : Word
  live : Lanes
  p0 : Option Path
  p1 : Option Path
  arms : List Path
  jm : Tab Join
  lr : Tab Addr
  rstk : List Ret
  lost : Word
  /-- Vector registers by 96 * register + lane, scalars by number, and their poison bits (R207). -/
  v : Tab Word
  vp : Tab Bool
  s : Tab Word
  sp : Tab Bool
  q : Tab (Option Bind)
  sh : Tab (BitVec 512)
  /-- Completion barriers: Table 12.5. -/
  cb : Tab Word
  mode : Word
  fpflags : Word
  xconf : Word
  msgst : Word
  step : Word
  tryst : Word
  tryaddr : Addr
  abortm : Lanes
  tr : Option Region
  abort : Option AbortReq
  /-- Registers that hold an uncorrectable error (R415). -/
  hwue : List Reg
  hnd : Option Saved
  /-- Outstanding counter (R203). -/
  outst : Nat
  /-- Acquires whose replies have not returned (R215). -/
  acq : List Tag
  /-- What happens before the stream's next access: by stream, its accesses issued before that step (R216); and those that precede it only
  through a synchronisation whose scope does not cover both parties (R218). -/
  know : Tab Nat
  taint : Tab Nat
  /-- PBAR epoch, and the highest unwaited P tag (R353). -/
  pepoch : Nat
  ptag : Option Word
  /-- The path slot whose instruction holds the whole course (R353, R369). -/
  hold : Option Nat
  /-- Stopped by its own event, the halt line or pre-emption. -/
  stopped : Bool
  /-- EXIT of a sequencer was issued, or the last lane left (R119, R254). -/
  ended : Bool
  /-- Next path identity. -/
  nid : Nat
deriving DecidableEq, Repr

/-- A barrier of a team (R226). -/
structure Bar where
  exp : Nat
  cnt : Nat
  ph : Word
  /-- What happens before the arrivals of the present phase, and before the release of those that are over (R216). -/
  arr : Tab Nat
  rel : Tab Nat
deriving DecidableEq, Repr

/-- A launch descriptor's fields (Table 17.5). -/
structure Desc where
  code : Addr
  seqk : Addr
  gx : Nat
  gy : Nat
  gz : Nat
  courses : Nat
  prog : Nat
  regs : Nat
  tryres : Nat
  win : Nat
  idemp : Bool
  sys : Bool
  pri : Nat
  args : Addr
  cnt : Nat
deriving DecidableEq, Repr

/-- How a launch entered (Table of R390, R395). -/
inductive Road
  | host (q : Nat)
  | device (pri : Nat)
  | arm (entry slot : Nat) (s1 : Word)
  | tab (i : Nat)
deriving DecidableEq, Repr

/-- A launch that waits or runs (R386). -/
structure Launch where
  desc : Desc
  part : Nat
  road : Road
  /-- Next team index to hand out, teams running, teams to start again with their restart counts (R389). -/
  next : Nat
  running : Nat
  redo : List (Nat × Nat)
  failed : Bool
  cancelled : Bool
deriving DecidableEq, Repr

/-- Where one piece of a reply goes. -/
inductive Dst
  | none
  /-- One lane of a vector register, by memory type (Table 9.5). -/
  | v (r lane ty : Nat)
  /-- One lane of n consecutive vector registers, but for the first skip of them. -/
  | vs (r lane n skip : Nat)
  | s (r ty : Nat)
  | sp (r : Nat)
  | sh (r : Nat)
deriving DecidableEq, Repr

/-- What a request does at its home port, per piece. -/
inductive MemOp
  | read (n : Nat)
  | write (bs : List Byte)
  /-- ATOM operation of Table 9.7 under a captured mode. -/
  | atom (op : Nat) (x : Word) (mode : Word)
  | cas (e x : Word)
  | cas64 (e x : Addr)
deriving DecidableEq, Repr

/-- One piece of a request: lane, virtual address, physical address, operation, destination, and bytes that a speculation buffer
gives in place of memory's (R234). -/
structure Piece where
  lane : Nat
  va : Nat
  spa : Nat
  op : MemOp
  dst : Dst
  fix : Tab (Option Byte)
deriving DecidableEq, Repr

/-- The kinds of outstanding requests (R203, R206, R331, R348). -/
inductive ReqKind | load | store | atomic | persist | remoteLoad | remoteStore | remoteAtomic | message
deriving DecidableEq, Repr

/-- An allocated entry of an outstanding-transaction table (R203). -/
structure Entry where
  sid : Nat
  path : Nat
  pc : Addr
  /-- The block in which its instruction stands (R407). -/
  hdr : Addr
  kind : ReqKind
  part : Nat
  issued : Nat
  pieces : List Piece
  /-- Issued in a try region; issued by a handler; result to be discarded. -/
  inTry : Bool
  inHnd : Bool
  drop : Bool
  /-- Its stream has left its slot. -/
  gone : Bool
  /-- The bound registers it writes: hardware queue, register, reserved queue entry (R273). -/
  q : List (Nat × Nat × Nat)
  /-- The launch whose completion waits for it (R396), and the team of its stream. -/
  launch : Nat
  team : Nat
  /-- The number of the step that issued it. -/
  born : Nat
  /-- The requester timeout that governs it, in clocks (Table 19.2). -/
  limit : Nat
  /-- A fabric request to SELF: the partition it reaches (R324). -/
  loop : Option Nat
  /-- Its team was killed (R208). -/
  killed : Bool
deriving DecidableEq, Repr

/-- The header of a die-to-die packet (Table 15.2). -/
structure DieHeader where
  ty : Nat
  len : Nat
  src : Nat
  tag : Nat
  ord : Nat
  opc : Nat
  addr : Nat
deriving DecidableEq, Repr

/-- A die-to-die packet: its header and its payload of LEN units of 16 bytes (R327). -/
structure DiePacket where
  hdr : DieHeader
  payload : List Byte
deriving DecidableEq, Repr

/-- A requester in a die-to-die header (Table 15.2): SRC, and TAG. -/
structure Sender where
  src : Nat
  tag : Nat
deriving DecidableEq, Repr

/-- A request on its way to its home port (R213): one cluster, one home port, performed in list order. -/
structure Req where
  tag : Tag
  cluster : Nat
  home : Nat
  part : Nat
  pieces : List Piece
  done : Bool
  data : List (List Byte)
  /-- An uncorrectable error met the request (R208). -/
  ue : Bool
  /-- Its entry is still allocated to it; an orphan may still be performed (R461). -/
  live : Bool
  /-- The instruction that made it, by the number of its step; 0 for a sector of the drain stage (R464). -/
  ins : Nat
  /-- The die-to-die packets that carry it (R327). -/
  pkts : List DiePacket
  /-- Its stream, the number of the step from which it counts, and the ORD of an ordered form, else 0 (R215). -/
  sid : Nat
  born : Nat
  ord : Nat
  /-- What happened before it at its issue, and what did so only through such a synchronisation as R218 names. -/
  know : Tab Nat
  taint : Tab Nat
deriving DecidableEq, Repr

/-- A release that has been performed: its party, its scope, and what happened before it (R216). -/
structure RelMark where
  sid : Nat
  team : Nat
  scope : Nat
  know : Tab Nat
deriving DecidableEq, Repr

/-- A write that a stream has performed: its bytes, the stream, the number of its step. -/
structure WriteMark where
  spa : Nat
  n : Nat
  sid : Nat
  born : Nat
deriving DecidableEq, Repr

/-- A committed sector in the drain stage, until its store request is acknowledged (R246, R457). -/
structure Drain where
  sid : Nat
  part : Nat
  cluster : Nat
  addr : Nat
  bytes : Tab (Option Byte)
  pc : Addr
  va : Nat
  /-- The tag of its store request once that is sent. -/
  tag : Option Tag
  launch : Nat
  /-- Its stream has left its slot. -/
  gone : Bool
  /-- The team of its stream, whether that was killed, and the number of its step. -/
  team : Nat
  killed : Bool
  born : Nat
deriving DecidableEq, Repr

/-- A shape's fields (Table 12.2). -/
structure Shape where
  base : Nat
  elem : Nat
  rank : Nat
  d0 : Nat
  d1 : Nat
  d2 : Nat
  d3 : Nat
  t1 : Nat
  t2 : Nat
  t3 : Nat
  fill : Word
deriving DecidableEq, Repr

/-- The kinds of engine operation (R251, R339). -/
inductive EngKind
  | copy (mode : Nat) (res : Option Nat)
  | gather
  | scatter (add : Bool)
  | mcst
  | mcred
deriving DecidableEq, Repr

/-- A collective descriptor (Table 15.8). -/
structure Coll where
  group : Nat
  rop : Nat
  sfmt : Nat
  dfmt : Nat
  count : Nat
  src : Nat
  dst : Nat
  flag : Nat
  res : Nat
deriving DecidableEq, Repr

/-- Pages translated at issue: the page number of a virtual page and of its frame (R294). -/
abbrev Pages := List (Nat × Nat)

/-- A unit that an engine is writing: the physical runs still to be written, the bytes for them, and the pages of its translation. -/
structure Moving where
  runs : List (Nat × Nat)
  data : List Byte
  pages : Pages
deriving DecidableEq, Repr

/-- An engine operation and its progress (R252, R265, R267). -/
structure EngOp where
  kind : EngKind
  die : Nat
  part : Nat
  /-- Issuing stream, none for a ring's COPY packet (R382), and its team. -/
  sid : Option Nat
  team : Option Nat
  pc : Addr
  em : Lanes
  cb : Nat
  a : Shape
  b : Shape
  c : Shape
  coll : Coll
  mode : Word
  tag : Option Word
  /-- The unit it is in, a row or an index (R263, R267), the elements of it that are done, and the index read for it. -/
  unit : Nat
  off : Nat
  idx : Nat
  /-- Elements moved or added so far, and whether the operation stands at a boundary at which it stops (R265, R267). -/
  moved : Nat
  atUnit : Bool
  /-- All units written. -/
  done : Bool
  /-- Its team was killed: it ends at its next boundary (R254). -/
  cut : Bool
  /-- A collective has left the package; its sequence number (R345, R449); a multicast's answers: member index and code, 0 for an
  acknowledgement (R341). -/
  started : Bool
  seq : Nat
  ans : List (Nat × Nat)
  stopped : Bool
  /-- A ring's COPY: queue and counter (R382). -/
  ring : Option (Nat × Nat)
  /-- Persist entries handed on and not yet accepted, and the PBAR epoch of its issue (R353, R451). -/
  pleft : Nat
  epoch : Nat
  /-- A collective's pages, translated at issue (R339). -/
  pages : Pages
  /-- The unit it writes, checked, translated and read as a whole as it began (R262, R263, R267). -/
  moving : Option Moving
  launch : Nat
  /-- The clock at which the requests of its unit issued, and the timeout that governs them (R206). -/
  since : Nat
  limit : Nat
deriving DecidableEq, Repr

/-- A knot register (Table 14.1). -/
structure Knot where
  x0 : Word
  h : Word
  ih : Word
  ctl : Word
deriving DecidableEq, Repr

/-- A chain record (R287). -/
structure Chain where
  opened : Bool
  key : List Byte
  m : Nat
  n : Nat
deriving DecidableEq, Repr

/-- What a row of the array reads at issue: its knot register (R307). -/
abbrev RowKnots := List Knot

/-- A command of the array command queue (R280). -/
inductive Cmd
  | mma (d a b m n k fmt : Nat) (skip : Bool) (mode : Word)
  | drain (a : Nat) (tile : Option Nat) (hq : Option Nat) (df : Nat) (rq keep : Bool) (m n rowsc colsc tens : Nat) (pages : Pages)
      (mode : Word)
  | accz (a : Nat) (all : Bool)
  | amode (spline : Bool)
  | sload (sh : Shape) (pages : Pages)
  | sstore (sh : Shape) (pages : Pages)
  | szero
  | seval (d a : Nat) (tcd tca : Word) (acc : Bool) (rows : RowKnots) (mode : Word)
  | sder (d a b : Nat) (tcd tca tcb : Word) (acc : Bool) (rows : RowKnots) (mode : Word)
  | sgrad (sh : Shape) (a b : Nat) (tca tcb : Word) (rows : RowKnots) (pages : Pages) (mode : Word)
  | srefine (k g : Nat) (rmap : Tab Nat) (mode : Word)
deriving DecidableEq, Repr

/-- A queued command: its place in the stream's issue order, its clock and pc, whether the array has begun it, the adds an SGRAD has
made, and a DRAIN's results that wait to be pushed (R289, R318). -/
structure CmdSt where
  cmd : Cmd
  stamp : Nat
  issued : Nat
  pc : Addr
  begun : Bool
  unit : Nat
  qpush : List (List Word)
  rqpush : List Word
deriving DecidableEq, Repr

/-- A tile-port operation (R281, R293, R297, R298). -/
inductive TileOp
  | zero (d : Nat)
  | fill (d : Nat) (w : Word)
  | mov (d a : Nat)
  | xpose (d a : Nat) (tca : Word)
  | load (d : Nat) (sh : Shape) (base : Nat) (pages : Pages)
  | loadq (d h base len got : Nat)
  | store (a : Nat) (sh : Shape) (base : Nat) (pages : Pages)
  | ssub (d st slot : Nat)
  | spub (st a : Nat)
deriving DecidableEq, Repr

/-- An issued tile-port operation with its place in the issue order. -/
structure TileSt where
  stamp : Nat
  op : TileOp
  pc : Addr
deriving DecidableEq, Repr

/-- An entry of a hardware queue: its name, the requests that still fill it, and its 96 words (R273). -/
structure QEnt where
  id : Nat
  left : Nat
  words : List Word
  /-- An uncorrectable error struck it (R415). -/
  bad : Bool
deriving DecidableEq, Repr

/-- A cluster's sequencer-side and array state (Table 1.4). -/
structure Cluster where
  /-- Tile bytes by 32768 * tile + byte. -/
  t : Tab Byte
  tc : Tab Word
  chains : Tab Chain
  /-- Issue-side mode and the array's mode: true for spline (R292). -/
  mode : Bool
  amode : Bool
  /-- Cell bytes by 64 * (128 * row + column) + byte (R18). -/
  cells : Tab Byte
  cq : List CmdSt
  /-- Array commands and tile-port operations issued so far (R281). -/
  nstamp : Nat
  rq : List Word
  /-- Hardware queues by number: entries of 96 words, oldest first. -/
  hq : Tab (List QEnt)
  nqe : Nat
  k : Tab Knot
  rmap : Tab Nat
  port : List TileSt
  loss : Word
  /-- Tiles and cells that hold an uncorrectable error (R415). -/
  tue : List Nat
  cue : List Nat
  fenced : Bool
  /-- An HW_UE was raised for its storage; errors corrected in it (R416). -/
  hwerr : Bool
  ceN : Nat
  /-- The array is stopped by the halt line or pre-emption. -/
  stopped : Bool
deriving DecidableEq, Repr

/-- The saved context of a displaced team (Table 17.6): its courses' streams in order, its sequencer's stream and cluster, and the
window's bytes that are not 0. -/
structure Displaced where
  courses : List Stream
  seq : Option (Stream × Cluster)
  win : Tab Byte
deriving DecidableEq, Repr

/-- A started team (R386). -/
structure Team where
  part : Nat
  launch : Nat
  index : Nat
  cluster : Nat
  /-- Streams of its courses that have not retired, by course index. -/
  courses : List Nat
  /-- The course slots with their register allocations, which it holds until it retires as a whole (R26); a killed team's sequencer too. -/
  slots : List (Nat × Nat)
  ncourses : Nat
  seq : Bool
  /-- Window: first 64 KiB unit in the die's cistern, units (R184). -/
  wbase : Nat
  wsize : Nat
  bars : Tab Bar
  restarts : Nat
  killed : Bool
  cancelled : Bool
  displaced : Option Displaced
deriving DecidableEq, Repr

/-- A stream subscription of a cluster (R296, R298). -/
structure Sub where
  cluster : Nat
  ri : Nat
  w : Nat
  /-- A copy subscription's box and the number of its next slot, the sequencer's team and the pc that opened it (R298). -/
  copy : Option (Shape × Nat)
  /-- The slot that the copy engines are writing. -/
  moving : Option Moving
  team : Nat
  pc : Addr
deriving DecidableEq, Repr

/-- A slot that a publisher fills (R297): its stream, pc and tc word, a course's box with its pages or, once the tile port has read
them, a sequencer's bytes. -/
structure Pub where
  sid : Nat
  launch : Nat
  pc : Addr
  tc : Word
  box : Option (Shape × Pages)
  bytes : Option (List Byte)
deriving DecidableEq, Repr

/-- A stream table entry and the distributor's hidden state (R295, R296). -/
structure StrmEnt where
  reg : BitVec 64
  wi : Nat
  tcs : Tab Word
  subs : List Sub
  pending : Option Pub
deriving DecidableEq, Repr

/-- A hardware queue of the host rings (R378, R379). -/
structure HQ where
  ring : Addr
  log2 : Nat
  pri : Nat
  part : Nat
  st : Nat
  err : Nat
  en : Bool
  head : Nat
  /-- The counter a WAIT holds on. -/
  waiting : Option Nat
  /-- Counters of handed-on packets that are not complete, for the watchdog (R412). -/
  open_ : List Nat
  timer : Nat
  /-- A QUEUE_CFG has named its partition (R378). -/
  owned : Bool
deriving DecidableEq, Repr

/-- The record an entry carries into the record unit (R358, R360): 0 local or 1 stripe, its KIND, step and slot. -/
structure Mark where
  which : Nat
  kind : Nat
  step : Nat
  slot : Nat
deriving DecidableEq, Repr

/-- A request of class P that waits at the hub or is held by a PBAR (R348, R353). -/
structure PReq where
  tag : Option Tag
  sid : Option Nat
  cluster : Nat
  /-- Requests of one run are accepted in order: an UPDM's, or the Windlass's (R453, R364). -/
  run : Nat
  epoch : Nat
  part : Nat
  step : Option Word
  spa : Nat
  /-- The virtual address it was translated from; none for the Windlass's own. -/
  va : Option Nat
  bytes : List (Nat × Byte)
  /-- The engine operation that handed it on. -/
  op : Option Nat
  mark : Option Mark
  live : Bool
  launch : Nat
deriving DecidableEq, Repr

/-- An accepted entry of the persist queue (R347). -/
structure PEnt where
  seq : Nat
  part : Nat
  sid : Option Nat
  step : Option Word
  spa : Nat
  bytes : List (Nat × Byte)
  launch : Nat
deriving DecidableEq, Repr

/-- A region entry of a snapshot descriptor (Table 16.4). -/
structure SRegion where
  kind : Nat
  base : Nat
  xbase : Nat
  len : Nat
deriving DecidableEq, Repr

/-- A snapshot descriptor (Table 16.3) with its bytes. -/
structure SDesc where
  pos : Nat
  rgid : Nat
  img : Nat
  z : Nat
  par : Nat
  pz : Nat
  memb : List Nat
  regs : List SRegion
  raw : List Byte
deriving DecidableEq, Repr

/-- The snapshot state of a partition (R363 to R370). -/
structure Snap where
  /-- 0 idle, 1 capturing, 2 encoding stripes, 3 failed. -/
  st : Nat
  err : Nat
  frz : Bool
  fslot : Nat
  step : Nat
  slot : Nat
  desc : Option SDesc
  /-- Uncaptured pages: region and 64 KiB page. -/
  left : List (Nat × Nat)
  /-- Bytes of the regions as step S left them, where a later-tagged entry has drained over them (R364). -/
  old : Tab (Option Byte)
  /-- Steps of the valid local and stripe records, by slot (R360). -/
  loc : Tab (Option Nat)
  str : Tab (Option Nat)
  /-- Alone in its recovery group at the TAKE (R452). -/
  alone : Bool
  /-- Parity units being formed here: the stripe, the data indices so far, the bytes (R367). -/
  contrib : List (Nat × List Nat × List Byte)
  /-- This package's data units: those sent and those acknowledged, by stripe and parity (R367). -/
  sent : List (Nat × Nat)
  acked : List (Nat × Nat)
  /-- Positions of other members that hold a valid stripe record, with its step (R367). -/
  peers : List (Nat × Nat)
  /-- SCM pages written since the current snapshot's commit. -/
  dirty : List Nat
  /-- The commit record has been handed on. -/
  recorded : Bool
deriving DecidableEq, Repr

/-- An event at the arbiter (R401, R408), with what its record needs (Table 18.3). -/
structure Event where
  seq : Nat
  /-- Record index of the party. -/
  idx : Nat
  /-- The stream whose course handles it; none halts for good. -/
  sid : Option Nat
  cause : Nat
  pc : Addr
  addr : Addr
  aux : Word
  em : Lanes
  flags : Nat
  handled : Bool
  /-- The stream and path slot of a precise trap. -/
  who : Option (Nat × Nat)
  /-- The path that issued a request whose fault came late, and its block (R206, R407). -/
  back : Option (Nat × Addr)
  /-- The party's own cycle counter at its stop (R404, R422). -/
  cyc : Nat
  /-- A sequencer's event, or one attributed to a sequencer (R405). -/
  bySeq : Bool
deriving DecidableEq, Repr

/-- An armed launch's entry (R394). -/
structure ArmEnt where
  tag : Nat
  standing : Bool
  pri : Nat
  nb : Nat
  desc : Addr
  abuf : Addr
  busy : List Nat
deriving DecidableEq, Repr

/-- A partition's registers and tables. -/
structure Part where
  quads : BitVec 16
  ptroot : Addr
  srbase : Addr
  tvec : Addr
  ctxbase : Addr
  tabbase : Addr
  tabn : Nat
  tabcfg : Addr
  migring : Addr
  domctl : Addr
  nvmeports : Nat
  mto : Word
  migth : Word
  wdcfg : Word
  mboxo : Addr
  mboxi : Addr
  mboxst : Word
  pstepmax : Word
  seq : Word
  halted : Bool
  perm : Bool
  firstSeq : Nat
  events : List Event
  /-- The stream that runs a handler. -/
  handler : Option Nat
  /-- Staged stop records of the most recent halt: 16 words each (R404, R420). -/
  stage : Tab (List Word)
  /-- Parties that have stopped for the present halt (record indices). -/
  stoppedAt : List Nat
  /-- Each stopped party's own cycle counter at its stop (R404). -/
  stopClk : Tab Nat
  /-- Collective engines that had started operations as the halt began, with the pc of one: each completes them and then writes its record (R402,
  R404). -/
  owing : List (Nat × Addr)
  lateReply : Word
  entryRetired : Word
  cntUnder : Word
  tabUnder : Word
  ceCount : Word
  halts : Word
  res : Tab Bool
  arms : Tab (Option ArmEnt)
  ready : Tab (List Nat)
  gate : List Nat
  owner : Tab Nat
  /-- Pages a PWB blocks: first address and log of the size (R202). -/
  blocks : List (Nat × Nat)
  /-- Translations kept past a change of the tables, by page (R188). -/
  tlb : Tab (Option (BitVec 64))
  /-- 0 running, 1 pre-emption requested, 2 saved: the contexts stay where they are (R410, log 43). -/
  pre : Nat
  migwi : Nat
  /-- Counters of launches that arms have fired and that are not complete, and the arm watchdog (R412). -/
  awopen : List Nat
  awd : Nat
  snap : Snap
  /-- A watchdog resets the partition; AUX of its records (R413). -/
  wdreset : Option Nat
deriving DecidableEq, Repr

/-- A switch group entry (R338). -/
structure Group where
  djob : Nat
  members : List Nat
  ato : Nat
  root : Nat
deriving DecidableEq, Repr

/-- A member's contribution to a reduction (R342). -/
structure Contrib where
  pkg : Nat
  djob : Nat
  rop : Nat
  sfmt : Nat
  dfmt : Nat
  count : Nat
  data : List Byte
deriving DecidableEq, Repr

/-- A sequence open at the root switch (R342, R343): its contributions by member index. -/
structure SwSeq where
  group : Nat
  seq : Nat
  first : Nat
  contribs : List (Nat × Contrib)
deriving DecidableEq, Repr

/-- What the Windlass sends to another package of its recovery group (R367, R369): a data unit to the holder of a parity, an
acknowledgement of one, or the answer to a read of a unit of a snapshot, none where it is not frozen here. Each goes to the members that serve the DJOB it names. -/
inductive GroupMsg
  | unit (pkg djob stripe parity idx step : Nat) (bytes : List Byte)
  | ack (pkg djob stripe parity step : Nat)
  | answer (pkg : Nat) (bytes : Option (List Byte))
deriving DecidableEq, Repr

/-- What another package of the recovery group sends (R367, R369): its acknowledgement of a data unit, news of its valid stripe record,
that it does not answer for the partition's DJOB (R452), or a read of a unit of this package's slot, or parity slot, for a snapshot. -/
inductive PeerMsg
  | ack (stripe parity step : Nat)
  | record (pos step : Nat)
  | noJob (pos : Nat)
  | read (pkg step unit : Nat) (parity : Bool)
deriving DecidableEq, Repr

/-- An NVMe command posted and not completed (R433). -/
structure Nvme where
  port : Nat
  slot : Nat
  part : Nat
  entry : List Byte
deriving DecidableEq, Repr

/-- A firmware image: whether its signature verifies, SHAKE256 of the key it was signed with, its version, and its own SHAKE256 (R436 to R438). -/
structure Image where
  sigOk : Bool
  key : BitVec 256
  version : Nat
  hash : BitVec 256
deriving DecidableEq, Repr

/-- Table 19.4. -/
inductive EvState | run | req | drain | ready | failed
deriving DecidableEq, Repr

/-- A storage error from outside. Uncorrectable (R415): a memory granule, a register, a cell, a tile, the oldest entry of a hardware
queue, an entry of the persist queue, a reply or the k-th outbound or inbound request in the gateway's reorder buffers (R329); or a single-bit
error that is corrected and counted for a partition (R208), in the storage of a cluster or elsewhere. -/
inductive Upset
  | mem (granule : Nat)
  | reg (sid : Nat) (r : Reg)
  | cell (cl n : Nat)
  | tile (cl n : Nat)
  | queue (cl h : Nat)
  | persist (k : Nat)
  | gateway (tbl ent : Nat)
  | request (outbound : Bool) (k : Nat)
  | corrected (p : Nat)
  | correctedIn (cl p : Nat)
deriving DecidableEq, Repr

/-- What moves in one step: a path's turn, an event of the opcode table (of a unit, of the clock, or an input from outside), a
request's turn at its home port, the passing of time, a storage error, an island that is gated or restored, or traffic of a recovery
group. -/
inductive Move
  /-- The path of a stream issues its next instruction. -/
  | run (sid path : Nat)
  /-- An event of the opcode table. -/
  | ev (i : Instr)
  /-- The k-th request on its way is performed at its home port (R213). -/
  | perform (k : Nat)
  /-- Time passes. -/
  | tick (n : Nat)
  /-- A storage error strikes. -/
  | upset (u : Upset)
  /-- The Wellhead gates an island, or restores it (R12, R434, R435). -/
  | island (n : Nat) (on : Bool)
  /-- A partition's Windlass sends its next data unit (R367). -/
  | unit (p : Nat)
  /-- A message of another package of the recovery group arrives for a DJOB. -/
  | peer (djob : Nat) (m : PeerMsg)
  /-- The k-th packet of the gateway leaves for another package (R329). -/
  | depart (k : Nat)
  /-- The root switch passes on a group entry that another member's driver has set, or its removal (R338, R432). -/
  | group (g : Nat) (e : Option Group)
  /-- The host reads BAR0 (R425, R430), or asks for the configuration space (R436). -/
  | bar0Read (off n : Nat)
  | configRead
  /-- The kernel grants an HBM frame to a partition's controllers, or takes it back (R433). -/
  | grant (p frame : Nat) (on : Bool)
  /-- The driver retires an HBM frame after an uncorrectable error (R416). -/
  | retire (frame : Nat)
deriving DecidableEq, Repr

/-- The machine. -/
structure State where
  clock : Nat
  fresh : Nat
  agenda : List Move
  cur : Nat × Nat
  mem : Tab Byte
  ue : List Nat
  acc : Tab Nat
  ext : Tab Bool
  streams : Tab (Option Stream)
  teams : Tab (Option Team)
  launches : Tab (Option Launch)
  nlaunch : Nat
  nteam : Nat
  clusters : Tab Cluster
  strm : Tab StrmEnt
  ott : Tab (Option Entry)
  ottGen : Tab (Nat × Nat)
  reqs : List Req
  /-- The die-to-die packets that the last step has sent, in order (R327). -/
  wire : List DiePacket
  /-- The releases that stand in memory, by address; the writes of streams that have been performed; and the bytes that a step has changed: its
  number, the address and the byte before (R216 to R219). -/
  relw : Tab (Option RelMark)
  wlog : List WriteMark
  past : List (Nat × Nat × Byte)
  drains : List Drain
  eops : Tab (Option EngOp)
  neop : Nat
  parts : Tab Part
  ctr : Tab (BitVec 64)
  queues : Tab HQ
  /-- The dispatcher's queues (R390): decisions waited, levels risen, and the queue last served at each priority. -/
  aging : Tab Nat
  raised : Tab Nat
  served : Tab Nat
  /-- The queues that are left in the current parse step of each Psaltery core, in their order (R384). -/
  psteps : Tab (List Nat)
  pq : List PEnt
  pwait : List PReq
  pseq : Nat
  huok : Bool
  /-- The clock at which HUOK last fell, or the SCM island last came up (R466). -/
  lowClk : Nat
  power : Bool
  /-- Islands that are gated (R12), and the clock at which each last left reset, from which its cores count (R422). -/
  gated : List Nat
  since : Tab Nat
  groups : Tab (Option Group)
  gcopy : Tab (Option Group)
  gseq : Tab Nat
  sw : List SwSeq
  /-- Sequences closed: group, sequence, and the lowest absent index (R343). -/
  swClosed : List (Nat × Nat × Nat)
  swLate : Nat
  /-- The gateway's packets: those sent, those that wait here, and those of trains that are not whole yet (R329, log 20). -/
  fout : List Packet
  fin : List Packet
  rx : List Packet
  /-- Packets that have left the package. -/
  gone : List Packet
  /-- What the Windlass has sent to other packages of a recovery group (R367). -/
  wout : List GroupMsg
  /-- Fabric ports reported down to the Wellhead (R326). -/
  links : List Nat
  absent : List Nat
  routes : Bool
  pktDrop : Word
  msix : List Nat
  bar0 : Tab Byte
  mrtail : Nat
  mrhead : Nat
  hostrd : List (List Byte)
  /-- Configuration requests answered: Request Retry Status or not (R436). -/
  cfgAns : List Bool
  bstat : Nat
  /-- Boot is complete (R436). -/
  booted : Bool
  /-- The fuses: SHAKE256 of the firmware public key, and the minimum version; the two images, and SHAKE256 of those that boot has loaded. -/
  fuseKey : BitVec 256
  fuseVer : Nat
  flash : List Image
  images : List (BitVec 256)
  /-- Power-downs of islands refused with BUSY (R435). -/
  pdBusy : Nat
  hbeat : Nat
  nvme : List Nvme
  /-- HBM frames granted to a partition's controllers, and DMA answered Unsupported Request (R433). -/
  grants : List (Nat × Nat)
  ur : Nat
  evst : EvState
  evDone : List Nat
  evStart : Nat
  ejectN : Bool
  fru : Tab Byte
  fruLog : List (List Byte)
  repl : BitVec 8
  nret : Nat
deriving DecidableEq, Repr

/-- Why a step stops. -/
inductive Fault
  /-- Raised by an instruction word when no stream issues it: the current stream or path is not resident. Safe: the hardware
  issues no instruction there. -/
  | noIssuer
deriving DecidableEq, Repr

/-- Why an instruction is refused. -/
inductive Refusal
  /-- Raised by an arm of the dispatcher for an instruction that has no meaning yet. Safe: the machine stops. -/
  | notModelled (mnemonic : String)
deriving DecidableEq, Repr

/-- A closed chain (R287). -/
def Chain.zero : Chain := ⟨false, [], 0, 0⟩
/-- A knot register of zeros (R306). -/
def Knot.zero : Knot := ⟨0, 0, 0, 0⟩

/-- A cluster after reset (R279; bytes without a stated value by log 1). -/
def Cluster.zero : Cluster :=
  { t := [], tc := [], chains := [], mode := false, amode := false, cells := [], cq := [], nstamp := 0, rq := [], hq := [], nqe := 0,
    k := [], rmap := [], port := [], loss := 0, tue := [], cue := [], fenced := false, hwerr := false, ceN := 0, stopped := false }

/-- A stream table entry after reset (Table 13.5). -/
def StrmEnt.zero : StrmEnt := ⟨0, 0, [], [], none⟩

/-- A hardware queue after reset (Table 17.2). -/
def HQ.zero : HQ := ⟨0, 0, 0, 0, 0, 0, false, 0, none, [], 0, false⟩

/-- An idle snapshot state (Table 16.7). -/
def Snap.zero : Snap := ⟨0, 0, false, 0, 0, 0, none, [], [], [], [], false, [], [], [], [], [], false⟩

/-- A partition after reset (Tables 9.9, 12.7, 15.1, 17.8a, 18.5, 18.8a; R356, R403; the others by log 1). -/
def Part.zero : Part :=
  { quads := 0, ptroot := 0, srbase := 0, tvec := 0, ctxbase := 0, tabbase := 0, tabn := 0, tabcfg := 0, migring := 0,
    domctl := 0, nvmeports := 0, mto := 24, migth := 0, wdcfg := 28, mboxo := 0, mboxi := 0, mboxst := 0, pstepmax := 0,
    seq := 0, halted := false, perm := false, firstSeq := 0, events := [], handler := none, stage := [], stoppedAt := [], stopClk := [], owing := [],
    lateReply := 0, entryRetired := 0, cntUnder := 0, tabUnder := 0, ceCount := 0, halts := 0, res := [], arms := [],
    ready := [], gate := [], owner := [], blocks := [], tlb := [], pre := 0, migwi := 0, awopen := [], awd := 0,
    snap := Snap.zero, wdreset := none }

/-- The FRU EEPROM with two copies of a record of VER 1 and FORM 2 whose other fields are zero, each with its CRC (Table 19.3, log 41). -/
def fruBlank : Tab Byte :=
  [(0, 1), (1, 2), (76, 5), (77, 214), (78, 64), (79, 77), (128, 1), (129, 2), (204, 5), (205, 214), (206, 64), (207, 77)]

/-- The package right after reset: no work resident, every table empty, boot complete (logs 1 to 5). -/
def State.reset : State :=
  { clock := 0, fresh := 0, agenda := [], cur := (0, 0), mem := [], ue := [], acc := [], ext := [], streams := [],
    teams := [], launches := [], nlaunch := 0, nteam := 0, clusters := [], strm := [], ott := [], ottGen := [], reqs := [], wire := [], relw := [], wlog := [], past := [],
    drains := [], eops := [], neop := 0, parts := [], ctr := [], queues := [], aging := [], raised := [], served := [], psteps := [], pq := [], pwait := [], pseq := 0,
    huok := false, lowClk := 0, power := true, gated := [], since := [], groups := [], gcopy := [], gseq := [], sw := [], swClosed := [], swLate := 0, fout := [],
    fin := [], rx := [], gone := [], wout := [], links := [], absent := [], routes := true, pktDrop := 0, msix := [], bar0 := [], mrtail := 0, mrhead := 0,
    hostrd := [], cfgAns := [], bstat := 5, booted := true, fuseKey := 0, fuseVer := 0, flash := [⟨true, 0, 0, 0⟩, ⟨true, 0, 0, 0⟩], images := [0, 0],
    pdBusy := 0, hbeat := 0, nvme := [], grants := [], ur := 0, evst := .run, evDone := [], evStart := 0,
    ejectN := false, fru := fruBlank, fruLog := [], repl := 0, nret := 0 }

end Sys2Proof.Machine
end

