-- ==== Sys2Proof/Machine/Access.lean ====
section
/-! DEFINITION. Reading and writing the parts of the state by name: streams, paths, registers, bytes. -/
namespace Sys2Proof.Machine

/-- Bits [lo + n - 1 : lo] of a number. -/
def bits (x lo n : Nat) : Nat := x / 2 ^ lo % 2 ^ n

/-- A word of a number. -/
def wd (n : Nat) : Word := BitVec.ofNat 32 n

/-- Sign extension of a 32-bit word to 64 bits. -/
def sext64 (w : Word) : Addr := w.signExtend 64

/-- Zero extension of a 32-bit word to 64 bits. -/
def zext64 (w : Word) : Addr := w.setWidth 64

/-- The n little-endian bytes of a number (R3). -/
def bytesOf (x : Nat) : Nat → List Byte
  | 0 => []
  | n + 1 => BitVec.ofNat 8 x :: bytesOf (x / 256) n

/-- The number of little-endian bytes (R3). -/
def ofBytes : List Byte → Nat
  | [] => 0
  | b :: t => b.toNat + 256 * ofBytes t

/-- The bytes [off, off + n) of a list as a number. -/
def leAt (bs : List Byte) (off n : Nat) : Nat := ofBytes ((bs.drop off).take n)

/-- Split a list into pieces of n. -/
def chunks {α : Type} (n : Nat) : Nat → List α → List (List α)
  | 0, _ => []
  | f + 1, l => if l.isEmpty then [] else l.take n :: chunks n f (l.drop n)

/-- Words of a byte list. -/
def wordsOf (bs : List Byte) : List Word := (chunks 4 bs.length bs).map (fun c => wd (ofBytes c))

/-- Bytes of a word list. -/
def bytesOfWords (ws : List Word) : List Byte := ws.flatMap (fun w => bytesOf w.toNat 4)

/-- A fold over a list with the accumulator first. -/
def across {α β : Type} (l : List α) (f : α → β → β) (b : β) : β := l.foldl (fun acc x => f x acc) b

/-- Replace the n-th element. -/
def setNth {α : Type} : List α → Nat → α → List α
  | [], _, _ => []
  | _ :: t, 0, y => y :: t
  | x :: t, n + 1, y => x :: setNth t n y

/-- Remove the n-th element. -/
def dropNth {α : Type} : List α → Nat → List α
  | [], _ => []
  | _ :: t, 0 => t
  | x :: t, n + 1 => x :: dropNth t n

namespace State

/-- The stream of an id: a resident course or a running sequencer. -/
def stream? (s : State) (sid : Nat) : Option Stream := Tab.get none s.streams sid
/-- Write a stream. -/
def setStream (s : State) (sid : Nat) (t : Stream) : State := { s with streams := Tab.set none s.streams sid (some t) }
/-- Remove a stream. -/
def dropStream (s : State) (sid : Nat) : State := { s with streams := Tab.set none s.streams sid none }
/-- Change a stream that is resident. -/
def modStream (s : State) (sid : Nat) (f : Stream → Stream) : State :=
  match s.stream? sid with
  | some t => s.setStream sid (f t)
  | none => s
/-- A partition. -/
def part (s : State) (p : Nat) : Part := Tab.get Part.zero s.parts p
/-- Write a partition. -/
def setPart (s : State) (p : Nat) (x : Part) : State := { s with parts := Tab.set Part.zero s.parts p x }
/-- Change a partition. -/
def modPart (s : State) (p : Nat) (f : Part → Part) : State := s.setPart p (f (s.part p))
/-- A cluster. -/
def cluster (s : State) (c : Nat) : Cluster := Tab.get Cluster.zero s.clusters c
/-- Write a cluster. -/
def setCluster (s : State) (c : Nat) (x : Cluster) : State := { s with clusters := Tab.set Cluster.zero s.clusters c x }
/-- Change a cluster. -/
def modCluster (s : State) (c : Nat) (f : Cluster → Cluster) : State := s.setCluster c (f (s.cluster c))
/-- A team. -/
def team? (s : State) (t : Nat) : Option Team := Tab.get none s.teams t
/-- Write or remove a team. -/
def setTeam (s : State) (t : Nat) (x : Option Team) : State := { s with teams := Tab.set none s.teams t x }
/-- A launch. -/
def launch? (s : State) (l : Nat) : Option Launch := Tab.get none s.launches l
/-- Write or remove a launch. -/
def setLaunch (s : State) (l : Nat) (x : Option Launch) : State := { s with launches := Tab.set none s.launches l x }
/-- A hardware queue of the host rings. -/
def queue (s : State) (q : Nat) : HQ := Tab.get HQ.zero s.queues q
/-- Write a hardware queue. -/
def setQueue (s : State) (q : Nat) (x : HQ) : State := { s with queues := Tab.set HQ.zero s.queues q x }
/-- An engine operation. -/
def eop? (s : State) (n : Nat) : Option EngOp := Tab.get none s.eops n
/-- Write or remove an engine operation. -/
def setEop (s : State) (n : Nat) (x : Option EngOp) : State := { s with eops := Tab.set none s.eops n x }
/-- A stream table entry, numbered 64 * die + stream. -/
def strmEnt (s : State) (n : Nat) : StrmEnt := Tab.get StrmEnt.zero s.strm n
/-- Write a stream table entry. -/
def setStrm (s : State) (n : Nat) (x : StrmEnt) : State := { s with strm := Tab.set StrmEnt.zero s.strm n x }
/-- A completion counter. -/
def counter (s : State) (c : Nat) : BitVec 64 := Tab.get 0 s.ctr c
/-- Write a completion counter. -/
def setCounter (s : State) (c : Nat) (x : BitVec 64) : State := { s with ctr := Tab.set 0 s.ctr c x }
/-- What a byte of memory that nothing has written reads as (log 2). -/
def emptyByte : Byte := 0
/-- A byte of memory by system physical address. -/
def byteAt (s : State) (a : Nat) : Byte := Tab.get emptyByte s.mem a
/-- n bytes of memory. -/
def readMem (s : State) (a n : Nat) : List Byte := Tab.getList emptyByte s.mem a n
/-- Write bytes to memory. -/
def writeMem (s : State) (a : Nat) (bs : List Byte) : State := { s with mem := Tab.setList emptyByte s.mem a bs }
/-- Raise an MSI-X vector (R427). -/
def raiseMsix (s : State) (v : Nat) : State := { s with msix := s.msix ++ [v] }

end State

/-- The sequencers' stream ids begin here (Table 18.2). -/
def seqBase : Nat := 12288
/-- The stream is a sequencer's. -/
def isSeq (sid : Nat) : Bool := seqBase ≤ sid
/-- The cluster of a stream. -/
def clusterOf (sid : Nat) : Nat := if isSeq sid then sid - seqBase else sid / 64
/-- The compute die of a cluster (R13). -/
def dieOf (cl : Nat) : Nat := cl / 48
/-- The quadrant's bit of a cluster in QUADS (R13, Table 19.2c). -/
def quadOf (cl : Nat) : Nat := 4 * (cl / 48) + cl % 48 / 12
/-- An island is powered and not gated (R12): quadrants 0 to 15, fabric and cistern of die d 16 + d, hub cores 20 and 21, SCM 22, Wellhead
23. -/
def islandUp (s : State) (n : Nat) : Bool := s.power && !s.gated.contains n
/-- The islands a cluster works in are up: its quadrant's and its die's. -/
def clusterUp (s : State) (cl : Nat) : Bool := islandUp s (quadOf cl) && islandUp s (16 + dieOf cl)
/-- The partition that owns a cluster. -/
def ownerOf (s : State) (cl : Nat) : Option Nat := (List.range 8).find? (fun p => (s.part p).quads.getLsbD (quadOf cl))
/-- The requester timeout in clocks (Table 9.9). -/
def timeoutOf (s : State) (p : Nat) : Nat := 2 ^ min 30 (max 12 (bits (s.part p).mto.toNat 0 5))
/-- The issuing unit of a stream. -/
def unitOf (sid : Nat) : IssueUnit := if isSeq sid then .seq else .course

/-- The path in a slot. -/
def Stream.path? (t : Stream) (k : Nat) : Option Path := if k = 0 then t.p0 else t.p1
/-- Put a path, or none, into a slot. -/
def Stream.setPath (t : Stream) (k : Nat) (p : Option Path) : Stream := if k = 0 then { t with p0 := p } else { t with p1 := p }
/-- A rejoin record. -/
def Stream.join (t : Stream) (n : Nat) : Join := Tab.get Join.zero t.jm n
/-- Write a rejoin record. -/
def Stream.setJoin (t : Stream) (n : Nat) (j : Join) : Stream := { t with jm := Tab.set Join.zero t.jm n j }
/-- A lane of a vector register. -/
def Stream.vAt (t : Stream) (r l : Nat) : Word := Tab.get 0 t.v (96 * r + l)
/-- A raw scalar register; s0 reads as zero (R17). -/
def Stream.sAt (t : Stream) (n : Nat) : Word := if n = 0 then 0 else Tab.get 0 t.s n
/-- A scalar pair (R34). -/
def Stream.pairAt (t : Stream) (n : Nat) : Addr := t.sAt (n + 1) ++ t.sAt n
/-- A shape register. -/
def Stream.shAt (t : Stream) (n : Nat) : BitVec 512 := Tab.get 0 t.sh n
/-- A completion barrier's status word. -/
def Stream.cbAt (t : Stream) (n : Nat) : Word := Tab.get 0 t.cb n
/-- A queue register's binding. -/
def Stream.qAt (t : Stream) (n : Nat) : Option Bind := Tab.get none t.q n
/-- The link register of a lane. -/
def Stream.lrAt (t : Stream) (l : Nat) : Addr := Tab.get 0 t.lr l
/-- The path slots in use, in order. -/
def Stream.pathSlots (t : Stream) : List Nat := (if t.p0.isSome then [0] else []) ++ (if t.p1.isSome then [1] else [])
/-- The course holds two paths or a pending arm (R227, R245). -/
def Stream.divided (t : Stream) : Bool := (t.p0.isSome && t.p1.isSome) || !t.arms.isEmpty
/-- The issuing context is inside an open region (Table 11.4); a handler's is not, though its course may keep one (log 33). -/
def Stream.inTry (t : Stream) : Bool := t.tr.isSome && t.hnd.isNone
/-- DEPTH of TRYST. -/
def Stream.depth (t : Stream) : Nat := bits t.tryst.toNat 8 3
/-- SCHK (R88). -/
def Stream.schk (t : Stream) : Bool := t.mode.getLsbD 8

/-- A write of one register: a lane of a vector register, or a scalar. -/
inductive Wr
  | v (r lane : Nat) (w : Word)
  | s (n : Nat) (w : Word)
deriving DecidableEq, Repr

/-- Write a lane of a vector register; a write clears poison (R207). -/
def Stream.putV (t : Stream) (r l : Nat) (w : Word) : Stream :=
  { t with v := Tab.set 0 t.v (96 * r + l) w, vp := Tab.set false t.vp (96 * r + l) false }

/-- What a write of an EM word stores: the bits within OWN, and outside ABORTM while a region is open (R97, R237). -/
def emWrite (t : Stream) (p : Path) (b : Nat) (w : Word) : Lanes :=
  let m := (p.em.setBeat b w) &&& p.own
  if t.inTry then m &&& ~~~t.abortm else m

/-- Write a scalar of a stream through a path: s0 discards, s61 to s63 of a course are the path's EM (R17, R97). -/
def Stream.putS (t : Stream) (seq : Bool) (k n : Nat) (w : Word) : Stream :=
  if n = 0 then t
  else if !seq && 61 ≤ n then
    match t.path? k with
    | some p => t.setPath k (some { p with em := emWrite t p (n - 61) w, emp := p.emp.filter (fun i => i ≠ n) })
    | none => t
  else { t with s := Tab.set 0 t.s n w, sp := Tab.set false t.sp n false }

/-- Apply one register write. -/
def Stream.put (t : Stream) (seq : Bool) (k : Nat) : Wr → Stream
  | .v r l w => t.putV r l w
  | .s n w => t.putS seq k n w

/-- Apply register writes in order. -/
def Stream.putAll (t : Stream) (seq : Bool) (k : Nat) (ws : List Wr) : Stream := ws.foldl (fun t w => t.put seq k w) t

/-- The writes of a pair (R34). -/
def wrPair (n : Nat) (x : Addr) : List Wr := [.s n (x.setWidth 32), .s (n + 1) ((x >>> 32).setWidth 32)]
/-- The writes of a mask triple (R34). -/
def wrTriple (n : Nat) (m : Lanes) : List Wr := [.s n (m.beat 0), .s (n + 1) (m.beat 1), .s (n + 2) (m.beat 2)]
/-- The writes of a vector register in the lanes of a mask. -/
def wrVec (r : Nat) (m : Lanes) (f : Nat → Word) : List Wr := m.list.map (fun l => .v r l (f l))

/-- Packets are sent over die-to-die links (R327). -/
def State.onWire (s : State) (ps : List DiePacket) : State := { s with wire := s.wire ++ ps }

end Sys2Proof.Machine
end

