-- ==== Sys2Proof/Machine/Flags.lean ====
section
/-! DEFINITION. Exact numbers, the one rounding into FP32, FP16 and BF16, and the exception flags (R47 to R71, R149, R150, R459). -/
namespace Sys2Proof.Machine

/-- The exception flags of Table 7.2. -/
def flNV : Word := 1
def flDZ : Word := 2
def flOF : Word := 4
def flUF : Word := 8
def flNX : Word := 16
def flSAT : Word := 32

/-- A float format: exponent and fraction bits (Table 3.1). -/
structure Fmt where
  eb : Nat
  fb : Nat
deriving DecidableEq, Repr

def f32 : Fmt := ⟨8, 23⟩
def f16 : Fmt := ⟨5, 10⟩
def bf16 : Fmt := ⟨8, 7⟩
/-- The format of a modifier (R147). -/
def fmtOf (m : Nat) : Fmt := if m = 1 then f16 else if m = 2 then bf16 else f32
/-- The exponent bias. -/
def Fmt.bias (f : Fmt) : Int := 2 ^ (f.eb - 1) - 1
/-- The place of the sign bit. -/
def Fmt.sb (f : Fmt) : Nat := f.eb + f.fb
/-- The bits of an infinity without its sign. -/
def Fmt.infBits (f : Fmt) : Nat := (2 ^ f.eb - 1) * 2 ^ f.fb
/-- The canonical quiet NaN (R48). -/
def Fmt.qnan (f : Fmt) : Nat := f.infBits + 2 ^ (f.fb - 1)
/-- A sign bit. -/
def Fmt.sign (f : Fmt) (neg : Bool) : Nat := if neg then 2 ^ f.sb else 0

/-- An exact value: finite (-1)^neg * m * 2^e, an infinity, or a NaN; bad marks one that sets NV. -/
inductive Num
  | fin (neg : Bool) (m : Nat) (e : Int)
  | inf (neg : Bool)
  | nan (bad : Bool)
deriving DecidableEq, Repr

/-- RM, FTZ and DAZ of a captured mode (Table 3.2). -/
def rmOf (mode : Word) : Nat := bits mode.toNat 0 2
def ftzOf (mode : Word) : Bool := mode.getLsbD 2
def dazOf (mode : Word) : Bool := mode.getLsbD 3

/-- The value of a source of a format (R47, R53, R150). -/
def Fmt.num (f : Fmt) (daz : Bool) (w : Nat) : Num :=
  let neg := bits w f.sb 1 = 1
  let ex := bits w f.fb f.eb
  let fr := bits w 0 f.fb
  if ex = 2 ^ f.eb - 1 then (if fr = 0 then .inf neg else .nan (decide (fr < 2 ^ (f.fb - 1))))
  else if ex = 0 then .fin neg (if daz then 0 else fr) (1 - f.bias - f.fb)
  else .fin neg (fr + 2 ^ f.fb) ((ex : Int) - f.bias - f.fb)

/-- m * 2^e, with a remainder below 2^e if sticky, as a whole number of 2^q, and whether that is inexact. -/
def quant (rm : Nat) (neg : Bool) (m : Nat) (e q : Int) (sticky : Bool) : Nat × Bool :=
  if q ≤ e then (m * 2 ^ (e - q).toNat, sticky)
  else
    let sh := (q - e).toNat
    let k := m / 2 ^ sh
    let r := m % 2 ^ sh
    let inexact := r ≠ 0 || sticky
    let up := match rm with
      | 0 => 2 ^ (sh - 1) < r || (r = 2 ^ (sh - 1) && (sticky || k % 2 = 1))
      | 1 => false
      | 2 => neg && inexact
      | _ => !neg && inexact
    (if up then k + 1 else k, inexact)

/-- Round a finite value once into a format; an overflow and FTZ as R49 and R55 say. OF is set too where RTZ rounds to the largest finite
value (Table 7.2). UF's "tiny after rounding" is that of the result rounded with an unbounded exponent (DESIGN CHOICE, log 66). -/
def Fmt.roundFin (f : Fmt) (rm : Nat) (ftz : Bool) (neg : Bool) (m : Nat) (e : Int) (sticky : Bool) : Nat × Word :=
  if m = 0 then (f.sign neg, 0)
  else
    let emin : Int := 1 - f.bias
    let top : Int := e + m.log2
    let q : Int := max top emin - f.fb
    let (k0, inexact) := quant rm neg m e q sticky
    let k := if 2 ^ (f.fb + 1) ≤ k0 then k0 / 2 else k0
    let qe : Int := if 2 ^ (f.fb + 1) ≤ k0 then q + 1 else q
    let nx : Word := if inexact then flNX else 0
    let free := (quant rm neg m e (top - f.fb) sticky).1
    let tiny := decide (top + (if 2 ^ (f.fb + 1) ≤ free then 1 else 0) < emin)
    let uf : Word := if inexact && tiny then flUF else 0
    if k < 2 ^ f.fb then
      if ftz && k ≠ 0 then (f.sign neg, nx ||| flUF ||| flNX) else (f.sign neg + k, nx ||| uf)
    else
      let be : Int := qe + f.fb + f.bias
      if (2 ^ f.eb : Int) - 2 < be then
        let inf := rm = 0 || (rm = 2 && neg) || (rm = 3 && !neg)
        (f.sign neg + (if inf then f.infBits else f.infBits - 1), nx ||| flOF ||| flNX)
      else
        let w := be.toNat * 2 ^ f.fb + (k - 2 ^ f.fb)
        (f.sign neg + w, nx ||| uf ||| (if rm = 1 && inexact && w = f.infBits - 1 then flOF else 0))

/-- Round a value into a format: the bits and the flags (R48, R49). -/
def Fmt.round (f : Fmt) (rm : Nat) (ftz : Bool) : Num → Nat × Word
  | .nan bad => (f.qnan, if bad then flNV else 0)
  | .inf neg => (f.sign neg + f.infBits, 0)
  | .fin neg m e => f.roundFin rm ftz neg m e false

/-- RNE into a format under a captured mode, without flags (R44, R54). -/
def Fmt.rne (f : Fmt) (mode : Word) (x : Num) : Nat := (f.round 0 (ftzOf mode) x).1

/-- The value with its sign changed. -/
def Num.neg : Num → Num
  | .fin n m e => .fin (!n) m e
  | .inf n => .inf (!n)
  | x => x

/-- The value is a NaN. -/
def Num.isNan : Num → Bool
  | .nan _ => true
  | _ => false
/-- The value is finite. -/
def Num.isFin : Num → Bool
  | .fin _ _ _ => true
  | _ => false
/-- The sign. -/
def Num.isNeg : Num → Bool
  | .fin n _ _ => n
  | .inf n => n
  | .nan _ => false
/-- The value is a zero. -/
def Num.isZero : Num → Bool
  | .fin _ m _ => m = 0
  | _ => false
/-- The exponent of a finite value. -/
def Num.ex : Num → Int
  | .fin _ _ e => e
  | _ => 0
/-- A finite value as a whole number of 2^e, for an e not above its own exponent. -/
def Num.units (e : Int) : Num → Int
  | .fin n m x => (if n then -1 else 1) * (m * 2 ^ (x - e).toNat : Nat)
  | _ => 0

/-- The exact sum, formed with no intermediate rounding; the sign of a zero by R152 and R459. -/
def sumNum (rdn : Bool) (xs : List Num) : Num :=
  if xs.any Num.isNan then .nan (xs.any (fun x => x = .nan true))
  else if xs.any (fun x => x = .inf true) && xs.any (fun x => x = .inf false) then .nan true
  else if xs.any (fun x => x = .inf true) then .inf true
  else if xs.any (fun x => x = .inf false) then .inf false
  else
    let e := xs.foldl (fun m x => min m x.ex) 0
    let t := xs.foldl (fun a x => a + x.units e) (0 : Int)
    if t = 0 then .fin (xs.all (fun x => x.isNeg && x.isZero) || (rdn && !xs.all (fun x => !x.isNeg && x.isZero))) 0 0
    else .fin (decide (t < 0)) t.natAbs e

/-- The exact product (R69, R152). -/
def mulNum (x y : Num) : Num :=
  match x, y with
  | .nan a, .nan b => .nan (a || b)
  | .nan a, _ => .nan a
  | _, .nan b => .nan b
  | .fin a m e, .fin b n f => .fin (a != b) (m * n) (e + f)
  | x, y => if x.isZero || y.isZero then .nan true else .inf (x.isNeg != y.isNeg)

/-- x < y for values that are no NaN; -0 equals +0. -/
def Num.less (x y : Num) : Bool :=
  match x, y with
  | .inf true, .inf true => false
  | .inf true, _ => true
  | _, .inf true => false
  | .inf false, _ => false
  | _, .inf false => true
  | x, y => let e := min x.ex y.ex; decide (x.units e < y.units e)

/-- The exact quotient of two finite values rounded once by RNE; the division of UPDM (R164). -/
def Fmt.quotient (f : Fmt) (ftz : Bool) (x y : Num) : Nat × Word :=
  match x, y with
  | .nan a, .nan b => (f.qnan, if a || b then flNV else 0)
  | .nan a, _ => (f.qnan, if a then flNV else 0)
  | _, .nan b => (f.qnan, if b then flNV else 0)
  | .inf _, .inf _ => (f.qnan, flNV)
  | .inf a, y => (f.sign (a != y.isNeg) + f.infBits, 0)
  | x, .inf b => (f.sign (x.isNeg != b), 0)
  | .fin a m e, .fin b n g =>
    if n = 0 then (if m = 0 then (f.qnan, flNV) else (f.sign (a != b) + f.infBits, flDZ))
    else
      let k := f.fb + 4 + n.log2
      f.roundFin 0 ftz (a != b) (m * 2 ^ k / n) (e - g - k) (m * 2 ^ k % n ≠ 0)

/-- Bits of the integer square root from bit n - 1 down. -/
def isqrtFrom (x : Nat) : Nat → Nat → Nat
  | 0, r => r
  | n + 1, r => isqrtFrom x n (if (r + 2 ^ n) * (r + 2 ^ n) ≤ x then r + 2 ^ n else r)
/-- The integer square root. -/
def isqrt (x : Nat) : Nat := isqrtFrom x (x.log2 / 2 + 1) 0

/-- The exact square root of a non-negative finite value rounded once by RNE. -/
def Fmt.sqrt (f : Fmt) (ftz : Bool) (m : Nat) (e : Int) : Nat × Word :=
  let m2 := if e % 2 = 0 then m else 2 * m
  let e2 := if e % 2 = 0 then e else e - 1
  let x := m2 * 2 ^ 64
  let r := isqrt x
  f.roundFin 0 ftz false r (e2 / 2 - 32) (r * r ≠ x)

/-- The reciprocal square root of a positive finite value rounded once by RNE. -/
def Fmt.rsqrt (f : Fmt) (ftz : Bool) (m : Nat) (e : Int) : Nat × Word :=
  let m2 := if e % 2 = 0 then m else 2 * m
  let e2 := if e % 2 = 0 then e else e - 1
  let x := 2 ^ 128 / m2
  let r := isqrt x
  f.roundFin 0 ftz false r (-(e2 / 2) - 64) (r * r ≠ x || 2 ^ 128 % m2 ≠ 0)

-- Transcendental functions: fixed point with p fraction bits, far beyond any rounding boundary of FP32 (log 12)

/-- Terms z^(2k+1) / (2k+1) of the inverse hyperbolic tangent, or of the inverse tangent with alternating signs. -/
def atanTerms (alt : Bool) (p : Nat) (z2 : Nat) : Nat → Nat → Nat → Bool → Int
  | 0, _, _, _ => 0
  | n + 1, t, k, plus =>
    (if plus then Int.ofNat (t / k) else -(Int.ofNat (t / k))) + atanTerms alt p z2 n (t * z2 / 2 ^ p) (k + 2) (if alt then !plus else true)

/-- The natural logarithm of 2. -/
def ln2Fix (p : Nat) : Nat := (2 * atanTerms false p (2 ^ p / 9) p (2 ^ p / 3) 1 true).toNat

/-- Pi by Machin's formula. -/
def piFix (p : Nat) : Nat :=
  (16 * atanTerms true p (2 ^ p / 25) p (2 ^ p / 5) 1 true - 4 * atanTerms true p (2 ^ p / 57121) p (2 ^ p / 239) 1 true).toNat

/-- The sum of t * x^k / k! from a term on. -/
def expTerms (p x : Nat) : Nat → Nat → Nat → Nat
  | 0, _, _ => 0
  | n + 1, t, k => t + expTerms p x n (t * x / 2 ^ p / (k + 1)) (k + 1)

/-- Alternating terms of the sine and cosine from a term on. -/
def trigTerms (p : Nat) (x2 : Int) : Nat → Int → Nat → Int
  | 0, _, _ => 0
  | n + 1, t, k => t + trigTerms p x2 n (-(t * x2 / 2 ^ p) / ((k + 1) * (k + 2) : Nat)) (k + 2)

/-- 2^x of a finite value (R157). -/
def exp2Num (ftz : Bool) (neg : Bool) (m : Nat) (e : Int) : Nat × Word :=
  let p : Nat := 192
  if m = 0 then f32.roundFin 0 ftz false 1 0 false
  else if 9 ≤ e + m.log2 then (if neg then f32.roundFin 0 ftz false 1 (-400) true else f32.roundFin 0 ftz false 1 400 false)
  else
    let x : Int := (if neg then -1 else 1) * ((m * 2 ^ (e + p).toNat : Nat) : Int)
    let n := x / 2 ^ p
    let fr := (x % 2 ^ p).toNat
    if fr = 0 then f32.roundFin 0 ftz false 1 n false
    else f32.roundFin 0 ftz false (expTerms p (fr * ln2Fix p / 2 ^ p) 60 (2 ^ p) 0) (n - p) true

/-- log2 of a positive finite value (R157). -/
def log2Num (ftz : Bool) (m : Nat) (e : Int) : Nat × Word :=
  let p : Nat := 224
  let k := m.log2
  let n : Int := e + k
  if m = 2 ^ k then f32.round 0 ftz (.fin (decide (n < 0)) n.natAbs 0)
  else
    let z := (m - 2 ^ k) * 2 ^ p / (m + 2 ^ k)
    let ln := 2 * atanTerms false p (z * z / 2 ^ p) 80 z 1 true
    let t := n * 2 ^ p + ln * 2 ^ p / (ln2Fix p : Int)
    f32.roundFin 0 ftz (decide (t < 0)) t.natAbs (-(p : Int)) true

/-- The sine, or the cosine, of a finite value in radians (R157). -/
def trigNum (cosine ftz : Bool) (neg : Bool) (m : Nat) (e : Int) : Nat × Word :=
  let p : Nat := 512
  if m = 0 then (if cosine then f32.roundFin 0 ftz false 1 0 false else (f32.sign neg, 0))
  else
    let x := m * 2 ^ (e + p).toNat
    let h := piFix (p + 8) / 512
    let q := (2 * x + h) / (2 * h)
    let r : Int := (x : Int) - ((q * h : Nat) : Int)
    let r2 := r * r / 2 ^ p
    let quad := (q + (if cosine then 1 else 0)) % 4
    let v := if quad % 2 = 0 then trigTerms p r2 60 r 1 else trigTerms p r2 60 (2 ^ p) 0
    let v := if 2 ≤ quad then -v else v
    let v := if neg && !cosine then -v else v
    f32.roundFin 0 ftz (decide (v < 0)) v.natAbs (-(p : Int)) true

/-- Round to an integer and saturate (R52): the value and the flags of R149. -/
def toIntNum (rm : Nat) (lo hi : Int) : Num → Int × Word
  | .nan _ => (0, flNV)
  | .inf neg => (if neg then lo else hi, flSAT)
  | .fin neg m e =>
    let (k, inexact) := quant rm neg m e 0 false
    let v : Int := if neg then -(k : Int) else k
    let nx : Word := if inexact then flNX else 0
    if v < lo then (lo, nx ||| flSAT) else if hi < v then (hi, nx ||| flSAT) else (v, nx)

/-- An exact integer as a value. -/
def Num.ofInt (i : Int) : Num := .fin (decide (i < 0)) i.natAbs 0

/-- A CB32 word from its exact sum (R63): flags NV and OF only (R150). -/
def splitCb (mode : Word) (s : Num) : Word × Word :=
  let (v, fl) := bf16.round 0 (ftzOf mode) s
  let x := bf16.num false v
  if x.isFin then
    let (e, fl2) := bf16.round 0 (ftzOf mode) (sumNum false [s, x.neg])
    (wd (v * 65536 + e), (fl ||| fl2) &&& 5)
  else (wd (v * 65536), fl &&& 5)

/-- The two halves of a CB32 word as values, value first (R63). -/
def cbNums (daz : Bool) (w : Word) : List Num := [bf16.num daz (w.toNat / 65536), bf16.num daz (w.toNat % 65536)]

/-- CADD (R63, R162): x is an exact value. -/
def caddWord (mode : Word) (w : Word) (x : Num) : Word × Word := splitCb mode (sumNum false (cbNums (dazOf mode) w ++ [x]))

/-- The parameters of a BX format: magnitude bits and f (Table 3.3). -/
def bxBits (bx4 : Bool) : Nat := if bx4 then 2 else 6
def bxF (bx4 : Bool) : Int := if bx4 then 1 else 5

/-- The value of a BX element under its two exponents (R58, R59). -/
def bxNum (bx4 : Bool) (el e0 e1 : Nat) : Num :=
  let n := bxBits bx4
  let ex := if bits el n 1 = 1 then e1 else e0
  if ex = 255 then .nan false
  else if bits el 0 n = 0 then .fin false 0 0
  else .fin (bits el (n + 1) 1 = 1) (bits el 0 n) ((ex : Int) - 127 - bxF bx4)

/-- One element of a packed block (R61): x is |xk| and its sign. -/
def bxElement (bx4 : Bool) (e0 e1 : Nat) (x : Num) : Nat :=
  let n := bxBits bx4
  let abs : Num := match x with
    | .fin _ m e => .fin false m e
    | y => y
  let unit (ex : Nat) : Int := (ex : Int) - 127 - bxF bx4
  let mag (ex : Nat) : Nat := match abs with
    | .fin _ m e => min (2 ^ n - 1) (quant 0 false m e (unit ex) false).1
    | _ => 0
  let e := min (min abs.ex (unit e0)) (unit e1)
  let err (ex : Nat) : Nat := (abs.units e - (Num.fin false (mag ex) (unit ex)).units e).natAbs
  let sel1 := !decide (err e0 < err e1)
  let m := if sel1 then mag e1 else mag e0
  (if x.isNeg && m ≠ 0 then 2 ^ (n + 1) else 0) + (if sel1 then 2 ^ n else 0) + m

/-- A packed block: its elements, E0 and E1 (R61, R62). -/
def bxPack (bx4 : Bool) (d : Nat) (xs : List Num) : List Nat × Nat × Nat :=
  if xs.all Num.isFin then
    let tops := xs.filterMap (fun x => match x with
      | .fin _ m e => if m = 0 then none else some (e + (m.log2 : Int))
      | _ => none)
    let e1 : Nat := match tops with
      | [] => 0
      | t :: ts => (ts.foldl max t + 127).toNat
    let e0 := e1 - d
    (xs.map (bxElement bx4 e0 e1), e0, e1)
  else (xs.map (fun _ => 2 ^ bxBits bx4), 255, 255)

/-- The FP32 value an element unpacks to (R161). -/
def bxUnpack (mode : Word) (bx4 : Bool) (el e0 e1 : Nat) : Word := wd (f32.rne mode (bxNum bx4 el e0 e1))

end Sys2Proof.Machine
end

