-- ==== Sys2Proof/Machine/Encoding.lean ====
section
/-! DEFINITION. The encoding tables of the spec: issue points (Table 4.10), the forms, operand slots and latencies of every
opcode (Tables 4.8, 5.4, 6.1, 7.1, 8.2, 9.4, 10.3, 11.7, 12.3, 13.7, 14.3, 15.5, 16.1, 17.11, 18.10, 18.11). -/
namespace Sys2Proof.Machine

/-- The register files a field of kind 0 may name (R74, R79). -/
inductive FileName | jm | q | sh | cb | t | tc | acc | k
deriving DecidableEq, Repr

/-- How many registers a named file holds (R79, R301, R312). -/
def FileName.size : FileName → Nat
  | .jm => 8 | .q => 16 | .sh => 16 | .cb => 8 | .t => 16 | .tc => 16 | .acc => 16 | .k => 8

/-- What one operand field admits. -/
inductive Slot
  /-- The field must be zero (R79). -/
  | zero
  /-- Vector, scalar, immediate or literal, as the flags say; a scalar is even if asked, at most top, width registers wide. -/
  | gen (v s i l : Bool) (even : Bool) (top width : Nat)
  /-- A register of a named file, kind 0, never indirect. -/
  | file (f : FileName)
  /-- A class mask of FENCE.X (R222). -/
  | classes
  /-- The literal word, the field being 0x80 and nothing else (Table 5.4). -/
  | exactLit
  /-- A displacement (R76). -/
  | disp
  /-- The TOFF bits [15:8] in B (R109). -/
  | toffHi
  /-- The TOFF bits [7:0] in C (R109). -/
  | toffLo
deriving DecidableEq, Repr

namespace Slot
def vec : Slot := .gen true false false false false 0 1
def sc : Slot := .gen false true false false false 63 1
def reg : Slot := .gen true true false false false 63 1
def src : Slot := .gen true true true true false 63 1
def uni : Slot := .gen false true true true false 63 1
def scImm : Slot := .gen false true true false false 63 1
def immLit : Slot := .gen false false true true false 0 1
def litOnly : Slot := .gen false false false true false 0 1
def triple : Slot := .gen false true false false false 61 3
def triple58 : Slot := .gen false true false false false 58 3
def pair : Slot := .gen false true false false true 62 2
def vecPair : Slot := .gen true true false false true 62 2
def pairImm : Slot := .gen false true true true true 62 2
def offV : Slot := .gen true true false false false 63 1
def vecS0 : Slot := .gen true true false false false 0 1
def s0 : Slot := .gen false true false false false 0 1
end Slot

/-- One row of an encoding table: the KIND values of the 32-bit form, whether the longer forms exist, the four slots, whether D
is read, D is written and B is written, and the fixed latency (0 for variable latency or no write). -/
structure Row where
  k32 : List Nat
  f64 : Bool
  f96 : Bool
  d : Slot
  a : Slot
  b : Slot
  c : Slot
  dr : Bool
  dw : Bool
  bw : Bool
  lat : Nat
deriving DecidableEq, Repr

/-- The issue points of Table 4.10. -/
inductive IssuePt | course | seq | both
deriving DecidableEq, Repr

/-- The issue point of an assigned opcode, none for a dash of Table 4.10. -/
def issuePt (op : Nat) : Option IssuePt :=
  if op ≤ 0x17 then
    some (if op ∈ [0x03, 0x05, 0x06] ∨ 0x0C ≤ op then .course else .both)
  else if op < 0x20 then none
  else if op ≤ 0x39 then some .both
  else if op < 0x40 then none
  else if op ≤ 0x59 then some (if 0x51 ≤ op ∧ op ≤ 0x56 then .course else .both)
  else if op < 0x60 then none
  else if op ≤ 0x6B then some .course
  else if op < 0x70 then none
  else if op ≤ 0x7F then some (if op ∈ [0x72, 0x73, 0x78, 0x7A] then .both else .course)
  else if op ≤ 0x87 then some (if op ≤ 0x82 then .both else .course)
  else if op < 0x90 then none
  else if op ≤ 0x95 then some .course
  else if op < 0x98 then none
  else if op ≤ 0xA3 then some (if op ≤ 0xA0 then .both else .course)
  else if op < 0xA8 then none
  else if op ≤ 0xB9 then some (if op ∈ [0xB6, 0xB8, 0xB9] then .both else .seq)
  else if op < 0xC0 then none
  else if op ≤ 0xC8 then some .seq
  else if op < 0xCC then none
  else if op ≤ 0xD5 then some .course
  else if op < 0xD8 then none
  else if op ≤ 0xDF then some .course
  else if op < 0xE4 then none
  else if op ≤ 0xEB then some .course
  else if op < 0xF0 then none
  else if op ≤ 0xF8 then some (if op ∈ [0xF1, 0xF5, 0xF6] then .course else .both)
  else none

/-- Whether the unit may issue the opcode (R91). -/
def IssuePt.admits : IssuePt → IssueUnit → Bool
  | .both, _ => true
  | .course, .course => true
  | .seq, .seq => true
  | _, _ => false

/-- The scope field of the memory class (R190): code 7, or a scope without its ordering bit, is undefined. -/
def scopeOk (mod : Nat) : Bool := mod / 32 ≤ 6 && (mod / 32 = 0 || mod / 16 % 2 = 1)

/-- The scope field of the remote class (R330): an ordering bit takes scope 5 or 6 only. -/
def scopeRemoteOk (mod : Nat) : Bool :=
  if mod / 16 % 2 = 1 then mod / 32 = 5 || mod / 32 = 6 else mod / 32 = 0

/-- The width in 32-bit registers of a special register, none where Table 18.11 lists no such number. -/
def sysWidth (n : Nat) : Option Nat :=
  if n ∈ [0x00, 0x01, 0x02, 0x05, 0x06, 0x07, 0x20, 0x21, 0x28] then some 1
  else if n ∈ [0x03, 0x22, 0x23, 0x24, 0x25, 0x26, 0x27] then some 2
  else if n = 0x04 then some 3
  else none

/-- The slot of a special register's operand (R418). -/
def sysSlot (w : Nat) : Slot := if w = 1 then .sc else if w = 2 then .pair else .triple

/-- A row with no written register. -/
def rw0 (k32 : List Nat) (f96 : Bool) (d a b c : Slot) : Row := ⟨k32, true, f96, d, a, b, c, false, false, false, 0⟩
/-- A row that writes D. -/
def rwD (k32 : List Nat) (f96 : Bool) (d a b c : Slot) (lat : Nat) : Row := ⟨k32, true, f96, d, a, b, c, false, true, false, lat⟩
/-- A row that reads and writes D. -/
def rwRD (k32 : List Nat) (f96 : Bool) (d a b c : Slot) (lat : Nat) : Row := ⟨k32, true, f96, d, a, b, c, true, true, false, lat⟩
/-- A row that reads D. -/
def rwR (k32 : List Nat) (f96 : Bool) (d a b c : Slot) : Row := ⟨k32, true, f96, d, a, b, c, true, false, false, 0⟩

/-- A row only for some modifiers. -/
def onMod (ok : Bool) (r : Row) : Option Row := if ok then some r else none

/-- Table 5.4. -/
def rowControl (u : IssueUnit) (op mod : Nat) : Option Row :=
  match op with
  | 0x00 => onMod (mod = 0) (rw0 [0] false .zero .zero .zero .zero)
  | 0x01 => onMod (mod = 0) (rw0 [] false .zero .zero .toffHi .toffLo)
  | 0x02 => match u with
    | .course => onMod (mod ≤ 2) (rw0 [] false .zero .triple .toffHi .toffLo)
    | .seq => onMod (mod = 3 || mod = 4) (rw0 [] false .zero .sc .toffHi .toffLo)
  | 0x03 => onMod (mod = 0) ⟨[], false, true, .file .jm, .triple, .exactLit, .zero, false, true, false, 0⟩
  | 0x04 => onMod (mod = 0) (rw0 [2] false .zero .pair .zero .zero)
  | 0x05 => onMod (mod = 0) (rw0 [0] false .zero (.file .jm) .zero .zero)
  | 0x06 => onMod (mod = 0) (rwD [0] false (.file .jm) .vec .zero .zero 0)
  | 0x07 => onMod (mod = 0) (rw0 [] false .zero .zero .toffHi .toffLo)
  | 0x08 => onMod (mod = 0) (rw0 [2] false .zero .pair .zero .zero)
  | 0x09 => onMod (mod = 0) (rw0 [0] false .zero .zero .zero .zero)
  | 0x0A => onMod (mod = 0) (rw0 [0] false .zero .zero .zero .zero)
  | 0x0B => onMod (mod = 0) (rwRD [] false .sc .zero .toffHi .toffLo 1)
  | 0x0C => onMod (mod = 0) (rw0 [0] false .zero .zero .zero .zero)
  | 0x0D => onMod (mod = 0) (rwD [2] false .triple .triple .triple .zero 1)
  | 0x0E => onMod (mod = 0) (rwD [2] false .triple .triple .triple .zero 1)
  | 0x0F => onMod (mod = 0) (rwD [2] false .triple .triple .triple .zero 1)
  | 0x10 => onMod (mod = 0) (rwD [2] false .triple .triple .zero .zero 1)
  | 0x11 => onMod (mod = 0) (rwD [2] false .triple .triple .triple .zero 1)
  | 0x12 => onMod (mod = 0) (rwD [2] true .triple .uni .uni .zero 1)
  | 0x13 => onMod (mod = 0) (rwD [2] false .sc .triple .zero .zero 1)
  | 0x14 => onMod (mod ≤ 2) (rwD [2] false .sc .triple .zero .zero 3)
  | 0x15 => onMod (mod = 0) (rwD [0] false (.file .jm) (.file .jm) .zero .zero 1)
  | 0x16 => onMod (mod = 0) (rwD [] false (.file .jm) .triple .zero .zero 1)
  | 0x17 => onMod (mod = 0) (rwD [3] false .triple (.file .jm) .zero .zero 1)
  | _ => none

/-- The KIND values of the two-source arithmetic of Tables 6.1 and 7.1. -/
def kArith : List Nat := [0, 1, 2]

/-- Table 6.1. -/
def rowInteger (op mod : Nat) : Option Row :=
  let bin (ok : Bool) (lat : Nat) := onMod ok (rwD kArith true .reg .src .src .zero lat)
  match op with
  | 0x20 => if mod = 3 then some (rwD [] true .pair .pair .pairImm .zero 1) else bin (mod ≤ 2) 1
  | 0x21 => if mod = 3 then some (rwD [] true .pair .pair .pairImm .zero 1) else bin (mod ≤ 2) 1
  | 0x22 => bin (mod ≤ 1) 2
  | 0x23 => onMod (mod ≤ 1) (rwD [] true .reg .src .src .src 2)
  | 0x24 => bin (mod = 0) 5
  | 0x25 => bin (mod ≤ 1) 5
  | 0x26 => bin (mod ≤ 1) 1
  | 0x27 => bin (mod ≤ 1) 1
  | 0x28 => onMod (mod ≤ 9) (rwD [2, 3] true .sc .src .src .zero 1)
  | 0x29 => bin (mod = 0) 1
  | 0x2A => bin (mod = 0) 1
  | 0x2B => bin (mod = 0) 1
  | 0x2C => bin (mod = 0) 1
  | 0x2D => bin (mod = 0) 1
  | 0x2E => bin (mod = 0) 1
  | 0x2F => bin (mod ≤ 1) 1
  | 0x30 => onMod (mod ≤ 1) (rwD [] true .reg .src .src .src 1)
  | 0x31 => onMod (mod = 0) (rwRD [] true .reg .src .src .src 1)
  | 0x32 => onMod (mod = 0) (rwD kArith true .reg .src .zero .zero 1)
  | 0x33 => onMod (mod = 0) (rwD kArith true .reg .src .zero .zero 1)
  | 0x34 => onMod (mod = 0) (rwD [] true .reg .sc .src .src 1)
  | 0x35 => onMod (mod = 0) (rwD kArith true .reg .reg .zero .zero 1)
  | 0x36 => onMod (mod = 0) (rwD [] true .reg .immLit .zero .zero 1)
  | 0x37 => onMod (mod < 8) (rwD [] true .vecPair .vecPair .src .src 1)
  | 0x38 => onMod (mod < 128 && mod / 8 % 8 ≤ 5 && mod % 8 ≤ 5) (rwD [] true .reg .src .zero .zero 1)
  | 0x39 => onMod (mod < 6) (rwD kArith true .reg .src .src .zero 2)
  | _ => none

/-- Table 7.1. -/
def rowFloat (op mod : Nat) : Option Row :=
  let un (k : List Nat) (ok : Bool) (lat : Nat) := onMod ok (rwD k true .reg .src .zero .zero lat)
  let bin (ok : Bool) := onMod ok (rwD kArith true .reg .src .src .zero 5)
  match op with
  | 0x40 => bin (mod ≤ 2)
  | 0x41 => bin (mod ≤ 2)
  | 0x42 => bin (mod ≤ 2)
  | 0x43 => onMod (mod ≤ 2) (rwD [] true .reg .src .src .src 5)
  | 0x44 => bin (mod ≤ 2)
  | 0x45 => bin (mod ≤ 2)
  | 0x46 => onMod (mod < 24) (rwD [2, 3] true .sc .src .src .zero 5)
  | 0x47 => un [0, 2] (mod ≤ 2) 5
  | 0x48 => onMod (mod < 12) (rwD kArith true .reg .src (if mod % 4 < 2 then .zero else .src) .zero 1)
  | 0x49 => un [0, 2] (mod = 0) 0
  | 0x4A => un [0, 2] (mod = 0) 0
  | 0x4B => un [0, 2] (mod = 0) 0
  | 0x4C => un [0, 2] (mod = 0) 0
  | 0x4D => un [0, 2] (mod = 0) 0
  | 0x4E => un [0, 2] (mod = 0) 0
  | 0x4F => un [0, 2] (mod = 0) 0
  | 0x50 => un [] (mod / 16 ≤ 8 && mod % 16 ≤ 8 && (mod / 16 < 3 || mod % 16 < 3)) 5
  | 0x51 => onMod (mod < 16) ⟨[], true, true, .vec, .vec, .triple58, .zero, false, true, true, 0⟩
  | 0x52 => onMod (mod ≤ 1) (rwD [] true .vec .vec .triple .zero 0)
  | 0x53 => onMod (mod ≤ 1) (rwD [0, 1] true .vec .vec .src .zero 5)
  | 0x54 => onMod (mod = 0) (rwD [0] true .vec .vec .zero .zero 5)
  | 0x55 => onMod (mod = 0) (rwD [0] true .vec .vec .zero .zero 5)
  | 0x56 => onMod (mod ≤ 1) (rwR [] true .vec .pair .vec .zero)
  | 0x57 => onMod (mod = 0) (rw0 [2] true .zero .uni .zero .zero)
  | 0x58 => onMod (mod = 0) (rwD [2] false .sc .zero .zero .zero 1)
  | 0x59 => onMod (mod ≤ 1) (rwD [2] false .sc .zero .zero .zero 1)
  | _ => none

/-- Table 8.2. -/
def rowCross (op mod : Nat) : Option Row :=
  match op with
  | 0x60 => onMod (mod = 0) (rwD [0, 1] true .vec .vec .src .zero 6)
  | 0x61 => onMod (mod = 0) (rwD [0, 1] true .vec .vec .src .zero 6)
  | 0x62 => onMod (mod ≤ 2) (rwD [1] true .vec .vec .uni .zero 6)
  | 0x63 => onMod (mod = 0) (rwD [1] true .vec .vec .uni .zero 6)
  | 0x64 => onMod (mod ≤ 10) (rwD [0, 3] true .reg .vec .zero .zero 6)
  | 0x65 => onMod (mod < 32 && mod % 16 ≤ 10) (rwD [0] true .vec .vec .zero .zero 6)
  | 0x66 => onMod (mod = 0) (rwD [1] true .vec .vec .triple .zero 6)
  | 0x67 => onMod (mod = 0) (rwD [1] true .vec .vec .triple .zero 6)
  | 0x68 => onMod (mod ≤ 2) (rwD [0] true .vec .vec .zero .zero 6)
  | 0x69 => onMod (mod = 0) (rwD [0] true .vec .zero .zero .zero 1)
  | 0x6A => onMod (mod = 0) (rwD [3] true .sc .vec .uni .zero 6)
  | 0x6B => onMod (mod = 0) (rwD [] true .vec .uni .uni .zero 6)
  | _ => none

/-- Table 9.4. -/
def rowMemory (op mod : Nat) : Option Row :=
  let sd : Slot := if mod % 16 = 9 then .pair else .sc
  match op with
  | 0x70 => onMod (mod % 16 ≤ 8 && scopeOk mod) (rwD [] true .vec .pair .offV .disp 0)
  | 0x71 => onMod (mod % 16 ≤ 8 && scopeOk mod) (rwR [] true .vec .pair .offV .disp)
  | 0x72 => onMod (mod % 16 ≤ 9 && scopeOk mod) (rwD [2] true sd .pair .sc .disp 0)
  | 0x73 => onMod (mod % 16 ≤ 9 && scopeOk mod) (rwR [2] true sd .pair .sc .disp)
  | 0x74 => onMod ((mod % 16 = 1 || mod % 16 = 2) && scopeOk mod) (rwD [] true .vec .pair .offV .disp 0)
  | 0x75 => onMod ((mod % 16 = 1 || mod % 16 = 2) && scopeOk mod) (rwR [] true .vec .pair .offV .disp)
  | 0x76 => onMod (mod = 0) (rwR [] true .vec .pair .s0 .disp)
  | 0x77 => onMod (mod % 16 ≤ 9 && scopeOk mod) (rwD [] true .vecS0 .pair .offV .src 0)
  | 0x78 => onMod (mod % 16 ≤ 9 && scopeOk mod) (rwD [] true .sc .pair .sc .sc 0)
  | 0x79 => onMod (mod % 16 = 0 && scopeOk mod) (rwRD [] true .vec .pair .offV .src 0)
  | 0x7A => onMod (mod % 16 ≤ 1 && scopeOk mod)
      (rwRD [] false (if mod % 2 = 1 then .pair else .sc) .pair .sc (if mod % 2 = 1 then .pair else .sc) 0)
  | 0x7B => onMod (mod = 0) (rw0 [] true .zero .pair .offV .disp)
  | 0x7C => match mod with
    | 0 => some (rw0 [] true .zero .pair .sc .disp)
    | 1 => some (rw0 [] false .zero .zero .zero .zero)
    | _ => none
  | 0x7D => onMod (mod = 0) (rw0 [] true .zero .pair .sc .disp)
  | 0x7E => onMod (mod ≤ 1) (rwD [] true .pair .pair .sc .disp 0)
  | 0x7F => onMod (mod = 0) (rw0 [] true .zero .pair .sc .disp)
  | _ => none

/-- Tables 10.3 and 11.7. -/
def rowOrder (op mod : Nat) : Option Row :=
  match op with
  | 0x80 => onMod (mod / 32 ≤ 6 && mod / 4 % 8 = 0 && mod % 4 ≤ 2) (rw0 [] false .zero .zero .zero .zero)
  | 0x81 => onMod (mod / 32 ≤ 6 && mod % 32 = 0) (rw0 [] false .classes .classes .zero .zero)
  | 0x82 => onMod (mod = 0) (rwD [2] false .sc .zero .zero .zero 0)
  | 0x83 => onMod (mod = 0) (rw0 [2] false .zero .scImm .zero .zero)
  | 0x84 => onMod (mod = 0) (rwD [2] false .sc .scImm .zero .zero 0)
  | 0x85 => onMod (mod = 0) (rw0 [2] false .zero .scImm .sc .zero)
  | 0x86 => onMod (mod = 0) (rw0 [] true .zero .scImm .uni .zero)
  | 0x87 => onMod (mod = 0) (rwD [2] false .sc .scImm .zero .zero 0)
  | 0x90 => onMod (mod = 0) (rw0 [] false .zero .zero .toffHi .toffLo)
  | 0x91 => onMod (mod = 0) (rw0 [0] false .zero .zero .zero .zero)
  | 0x92 => onMod (mod = 0) (rw0 [2] true .zero .uni .zero .zero)
  | 0x93 => onMod (mod ≤ 1) (rwD [2] false (if mod = 1 then .triple else .sc) .zero .zero .zero 0)
  | 0x94 => onMod (mod = 0) (rwD [2] false .pair .zero .zero .zero 0)
  | 0x95 => onMod (mod = 0) (rw0 [2] false .zero .triple .zero .zero)
  | _ => none

/-- Table 12.3. -/
def rowAsync (op mod : Nat) : Option Row :=
  match op with
  | 0x98 => onMod (mod = 0) (rwD [] true (.file .sh) .pair .sc .disp 0)
  | 0x99 => onMod (mod ≤ 10 || mod = 16 || (19 ≤ mod && mod ≤ 25))
      (rwRD [] true (.file .sh) (if mod = 0 then .pair else .uni) .zero .zero 1)
  | 0x9A => onMod (mod = 0) (rwR [] true (.file .sh) .pair .sc .disp)
  | 0x9B => onMod (mod < 8 && mod % 4 ≤ 2 && mod ≠ 6)
      (rwD [] true (.file .cb) (.file .sh) (.file .sh) (if mod / 4 = 1 then .uni else .zero) 0)
  | 0x9C => onMod (mod = 0) (rwD [] false (.file .cb) (.file .sh) (.file .sh) (.file .sh) 0)
  | 0x9D => onMod (mod ≤ 1) (rwD [] false (.file .cb) (.file .sh) (.file .sh) (.file .sh) 0)
  | 0x9E => onMod (mod = 0) (rwD [0] false (.file .cb) .zero .zero .zero 0)
  | 0x9F => onMod (mod = 0) (rwD [3] false .sc (.file .cb) .zero .zero 0)
  | 0xA0 => onMod (mod = 0) (rwD [3] false .sc (.file .cb) .zero .zero 0)
  | 0xA1 => match mod with
    | 0 => some (rw0 [] true (.file .q) .vec .uni .zero)
    | 1 => some (rw0 [] false (.file .q) .zero .zero .zero)
    | _ => none
  | 0xA2 => onMod (mod = 0) (rwD [3] false .sc (.file .q) .zero .zero 0)
  | 0xA3 => onMod (mod ≤ 1) (rwD [] true .sc .pair .sc .disp 0)
  | _ => none

/-- Tables 13.7 and 14.3. -/
def rowArray (u : IssueUnit) (op mod : Nat) : Option Row :=
  let q (t : Slot) : Slot := if mod % 2 = 1 then .uni else t
  match op with
  | 0xA8 => onMod (mod = 0) (rwD [] true (.file .tc) .uni .zero .zero 1)
  | 0xA9 => onMod (mod = 0) (rwD [3] false .sc (.file .tc) .zero .zero 1)
  | 0xAA => onMod (mod = 0) (rw0 [0] false (.file .t) .zero .zero .zero)
  | 0xAB => onMod (mod = 0) (rw0 [] true (.file .t) .uni .zero .zero)
  | 0xAC => onMod (mod ≤ 3) (rw0 [0] false (.file .t) (if mod / 2 = 1 then .uni else .file .sh) .zero .zero)
  | 0xAD => onMod (mod ≤ 1) (rw0 [0] false (.file .t) (.file .sh) .zero .zero)
  | 0xAE => onMod (mod = 0) (rw0 [0] false (.file .t) (.file .t) .zero .zero)
  | 0xAF => onMod (mod = 0) (rw0 [0] false (.file .t) (.file .t) .zero .zero)
  | 0xB0 => onMod (mod ≤ 1) (rw0 [] false (.file .acc) (.file .t) (.file .t) .pair)
  | 0xB1 => onMod (mod ≤ 7) (rwR [] true (q (.file .t)) (.file .acc) .zero .zero)
  | 0xB2 => match mod with
    | 0 => some (rw0 [0] false (.file .acc) .zero .zero .zero)
    | 1 => some (rw0 [] false .zero .zero .zero .zero)
    | _ => none
  | 0xB3 => onMod (mod = 0) (rwD [2] false .sc .zero .zero .zero 0)
  | 0xB4 => onMod (mod ≤ 1) (rw0 [0] false .zero .zero .zero .zero)
  | 0xB5 => onMod (mod = 0) (rw0 [0] false .zero .zero .zero .zero)
  | 0xB6 => onMod (mod = 0) (match u with
      | .course => rwR [] true .uni (.file .sh) .zero .uni
      | .seq => rwR [] true .uni (.file .t) .zero .zero)
  | 0xB7 => match mod with
    | 0 => some (rw0 [] true (.file .t) .uni .uni .zero)
    | 1 => some (rw0 [] true .zero .uni .uni .zero)
    | 2 => some (rw0 [] true .zero .uni .zero .zero)
    | 3 => some (rwR [] true (.file .sh) .uni .uni .zero)
    | _ => none
  | 0xB8 => onMod (mod = 0) (rw0 [] true .zero .uni .uni .zero)
  | 0xB9 => onMod (mod = 0) (rwD [2] false .sc .uni .zero .zero 0)
  | 0xC0 => match mod with
    | 0 => some (rw0 [] true (.file .k) .uni .uni .uni)
    | 1 => some (rw0 [] true (.file .k) .uni .uni .zero)
    | _ => none
  | 0xC1 => onMod (mod ≤ 3) (rwD [3] false .sc (.file .k) .zero .zero 1)
  | 0xC2 => onMod (mod = 0) (rw0 [0] false .zero (.file .sh) .zero .zero)
  | 0xC3 => onMod (mod = 0) (rw0 [0] false .zero (.file .sh) .zero .zero)
  | 0xC4 => onMod (mod = 0) (rw0 [0] false .zero .zero .zero .zero)
  | 0xC5 => onMod (mod ≤ 1) (rw0 [0] false (.file .t) (.file .t) .zero .zero)
  | 0xC6 => onMod (mod ≤ 1) (rw0 [0] false (.file .t) (.file .t) (.file .t) .zero)
  | 0xC7 => onMod (mod = 0) (rwR [0] false (.file .sh) (.file .t) (.file .t) .zero)
  | 0xC8 => onMod (mod = 0) (rw0 [0] false (.file .k) .zero .zero .zero)
  | _ => none

/-- Tables 15.5 and 16.1. -/
def rowFabric (op mod : Nat) : Option Row :=
  match op with
  | 0xCC => onMod (mod % 16 ≤ 8 && scopeRemoteOk mod) (rwD [] true .vec .pair .offV .disp 0)
  | 0xCD => onMod (mod % 16 ≤ 8 && scopeRemoteOk mod) (rwR [] true .vec .pair .offV .pair)
  | 0xCE => onMod (mod % 16 ≤ 9 && scopeRemoteOk mod) (rwD [] true .vecS0 .pair .offV .src 0)
  | 0xCF => onMod (mod % 16 = 0 && scopeRemoteOk mod) (rwRD [] true .vec .pair .offV .src 0)
  | 0xD0 => onMod (mod = 0) (rw0 [] true .zero .pair .uni .zero)
  | 0xD1 => onMod (mod = 0) (rwR [] true .vec .sc .uni .zero)
  | 0xD2 => onMod (mod ≤ 1) (rwD [2] false .sc .zero .zero .zero 0)
  | 0xD3 => onMod (mod = 0) (rwD [] true (.file .cb) .pair .zero .disp 0)
  | 0xD4 => onMod (mod = 0) (rwD [] true (.file .cb) .pair .zero .disp 0)
  | 0xD5 => onMod (mod = 0) (rwD [2] true .sc .uni .zero .zero 0)
  | 0xD8 => onMod (mod ≤ 9) (rwR [] true .reg .pair .offV .disp)
  | 0xD9 => onMod (mod = 0 || mod = 1 || mod = 3) (rw0 [2] false .zero .zero .zero .zero)
  | 0xDA => onMod (mod = 0) (rw0 [0] false .zero .zero .zero .zero)
  | 0xDB => onMod (mod = 0) (rwD [2] false .sc .zero .zero .zero 0)
  | 0xDC => onMod (mod = 0) (rw0 [2] true .zero .uni .zero .zero)
  | 0xDD => onMod (mod = 0) (rwD [2] false .sc .zero .zero .zero 0)
  | 0xDE => if mod = 2 || mod = 3 then some (rw0 [] true .zero .zero .uni .zero)
      else onMod (mod ≤ 5) (rw0 [] true .zero .pair .uni .disp)
  | 0xDF => onMod (mod ≤ 3) (rwD [2] false .sc .zero .zero .zero 0)
  | _ => none

/-- Tables 17.11 and 18.10. -/
def rowSystem (op mod : Nat) : Option Row :=
  match op with
  | 0xE4 => onMod (mod = 0) (rw0 [] true .zero .pair .zero .disp)
  | 0xE5 => onMod (mod = 0) (rw0 [2] true .zero .uni .zero .zero)
  | 0xE6 => onMod (mod = 0) (rwD [2] true .pair .uni .zero .zero 0)
  | 0xE7 => onMod (mod ≤ 3) (rwD [] true .sc .pair .zero .disp 0)
  | 0xE8 => onMod (mod ≤ 1) (rw0 [] true .zero .uni .uni .zero)
  | 0xE9 => onMod (mod = 0) (rwD [2] false .pair .zero .zero .zero 0)
  | 0xEA => onMod (mod = 0) (rw0 [] true .zero .pair .zero .disp)
  | 0xEB => onMod (mod = 0) (rw0 [2] true .zero .uni .zero .zero)
  | 0xF0 => onMod (mod = 0) (rw0 [2] true .zero .uni .zero .zero)
  | 0xF1 => onMod (mod ≤ 3) (rw0 [0] false .zero .zero .zero .zero)
  | 0xF2 => onMod (mod = 0) (rw0 [0] false .zero .zero .zero .zero)
  | 0xF3 => match sysWidth mod with
    | some w => some (rwD [] false (sysSlot w) .zero .zero .zero 0)
    | none => none
  | 0xF4 => match sysWidth mod with
    | some w => some (rw0 [] false .zero (sysSlot w) .zero .zero)
    | none => none
  | 0xF5 => onMod (mod = 0) (rw0 [2] true .zero .uni .zero .zero)
  | 0xF6 => onMod (mod = 0) (rwD [] true .sc .uni .uni .zero 0)
  | 0xF7 => onMod (mod = 0) (rwD [2] true .sc .uni .zero .zero 0)
  | 0xF8 => onMod (mod = 0) (rwD [2] false .pair .zero .zero .zero 0)
  | _ => none

/-- The encoding row of an opcode under a modifier, none where the modifier is undefined (R79). -/
def row (u : IssueUnit) (op mod : Nat) : Option Row :=
  if op < 0x20 then rowControl u op mod
  else if op < 0x40 then rowInteger op mod
  else if op < 0x60 then rowFloat op mod
  else if op < 0x70 then rowCross op mod
  else if op < 0x80 then rowMemory op mod
  else if op < 0x98 then rowOrder op mod
  else if op < 0xA8 then rowAsync op mod
  else if op < 0xCC then rowArray u op mod
  else if op < 0xE4 then rowFabric op mod
  else rowSystem op mod

/-- The operand is a vector register, direct or indirect. -/
def isVec : Opnd → Bool
  | .v _ => true
  | .vi _ _ => true
  | _ => false

/-- The operand is a scalar register. -/
def isSc : Opnd → Bool
  | .s _ => true
  | _ => false

/-- A literal of a 16-bit format has zero upper bits (R147). -/
def lit16Ok (fmt : Nat) : Opnd → Bool
  | .lit w => fmt = 0 || w.toNat < 65536
  | _ => true

/-- A class mask is covered by a scope (R222, R211). -/
def classesOk (scope : Nat) : Opnd → Bool
  | .f m => 0 < m && m < 64 && (m / 2 % 2 = 0 || 2 ≤ scope) && (m / 4 % 8 = 0 || 3 ≤ scope) && (m / 32 = 0 || 4 ≤ scope)
  | _ => false

/-- The rules between the operands of one instruction (R129, R132, R136, R140, R142, R147, R154, R222, R351, R120). -/
def crossOk (op : Nat) (o : Opnds) : Bool :=
  let novec := !(isVec o.a || isVec o.b || isVec o.c)
  let scalarD := !(isSc o.d) || novec
  let compare := match o.d with
    | .s n => if isVec o.a then n ≤ 61 else novec
    | _ => false
  match op with
  | 0x0B => o.d ≠ .s 0
  | 0x20 => scalarD
  | 0x21 => scalarD
  | 0x22 => scalarD
  | 0x23 => scalarD
  | 0x24 => scalarD
  | 0x25 => scalarD
  | 0x26 => scalarD
  | 0x27 => scalarD
  | 0x28 => compare
  | 0x29 => scalarD
  | 0x2A => scalarD
  | 0x2B => scalarD
  | 0x2C => scalarD
  | 0x2D => scalarD
  | 0x2E => scalarD
  | 0x2F => scalarD
  | 0x30 => scalarD
  | 0x31 => scalarD
  | 0x32 => scalarD
  | 0x33 => scalarD
  | 0x34 => match o.a with
    | .s n => if isVec o.d then n ≤ 61 else novec
    | _ => false
  | 0x35 => scalarD
  | 0x37 => if isVec o.d then isVec o.a && o.mod < 4 else novec
  | 0x38 => scalarD
  | 0x39 => scalarD
  | 0x40 => scalarD && lit16Ok o.mod o.a && lit16Ok o.mod o.b
  | 0x41 => scalarD && lit16Ok o.mod o.a && lit16Ok o.mod o.b
  | 0x42 => scalarD && lit16Ok o.mod o.a && lit16Ok o.mod o.b
  | 0x43 => scalarD && lit16Ok o.mod o.a && lit16Ok o.mod o.b && lit16Ok o.mod o.c
  | 0x44 => scalarD && lit16Ok o.mod o.a && lit16Ok o.mod o.b
  | 0x45 => scalarD && lit16Ok o.mod o.a && lit16Ok o.mod o.b
  | 0x46 => compare && lit16Ok (o.mod / 8) o.a && lit16Ok (o.mod / 8) o.b
  | 0x47 => scalarD && lit16Ok o.mod o.a
  | 0x48 => scalarD && lit16Ok (o.mod / 4) o.a && lit16Ok (o.mod / 4) o.b
  | 0x49 => scalarD
  | 0x4A => scalarD
  | 0x4B => scalarD
  | 0x4C => scalarD
  | 0x4D => scalarD
  | 0x4E => scalarD
  | 0x4F => scalarD
  | 0x50 => scalarD && (o.mod % 16 = 0 || 2 < o.mod % 16 || lit16Ok 1 o.a)
  | 0x53 => lit16Ok o.mod o.b
  | 0x81 => classesOk (o.mod / 32) o.d && classesOk (o.mod / 32) o.a
  | 0xD8 => match o.d with
    | .s n => !(isVec o.b) && (o.mod ≠ 9 || (n % 2 = 0 && n ≤ 62))
    | _ => o.mod ≠ 9
  | _ => true

/-- How many registers D names when it is a scalar, where the slot alone does not say (R136, R140, R154, Table 16.1). -/
def widthD (op : Nat) (o : Opnds) (slot : Nat) : Nat :=
  if (op = 0x28 || op = 0x46) && isVec o.a then 3
  else if op = 0xD8 && o.mod = 9 then 2
  else slot

/-- How many registers A names when it is a scalar (SEL's triple, R140). -/
def widthA (op : Nat) (o : Opnds) (slot : Nat) : Nat := if op = 0x34 && isVec o.d then 3 else slot

end Sys2Proof.Machine
end

