-- ==== Sys2Proof/Machine/Translate.lean ====
section
/-! DEFINITION. Address translation (R181 to R188, R362): regions, page-table walk, aperture, and the ordered checks. -/
namespace Sys2Proof.Machine

/-- The storage of a system physical address (Table 9.1). -/
inductive Region_ | hbm | scm | cistern | host | hole
deriving DecidableEq, Repr

/-- SCM's populated bytes below the reserved area (R361). -/
def scmLimit : Nat := 3 * 2 ^ 40 - 64 * 2 ^ 20

/-- The SCM offset of an SPA in regions 0x01 to 0x03. -/
def scmOff (spa : Nat) : Nat := spa - 2 ^ 40
/-- The SPA of an SCM offset. -/
def scmSpa (off : Nat) : Nat := off + 2 ^ 40

/-- Table 9.1; a hole is an SPA that faults PA_RANGE. -/
def regionOf (spa : Nat) : Region_ :=
  let r := spa / 2 ^ 40
  if r = 0 then (if spa < 0xC000000000 then .hbm else .hole)
  else if r ≤ 3 then (if scmOff spa < scmLimit then .scm else .hole)
  else if r = 4 then (if bits spa 32 8 = 0 && bits spa 0 30 < 0x18800000 then .cistern else .hole)
  else if 0x10 ≤ r && r ≤ 0x1F then .host
  else .hole

/-- The address hash of R183 over 40 bits: stack or channel s, pseudo-channel c, bank group g, bank b. -/
def hash (pa : Nat) : Nat × Nat × Nat × Nat :=
  ((bits pa 8 4 ^^^ bits pa 22 4 ^^^ bits pa 30 4), (bits pa 12 6 ^^^ bits pa 26 6 ^^^ bits pa 34 6),
   (bits pa 18 2 ^^^ bits pa 22 2 ^^^ bits pa 34 2), (bits pa 20 2 ^^^ bits pa 26 2 ^^^ bits pa 36 2))

/-- The home port of an SPA (R213, R346): HBM pseudo-channel, SCM media partition, cistern bank, PCIe endpoint. -/
def homeOf (spa : Nat) : Nat :=
  match regionOf spa, hash spa with
  | .hbm, (st, c, _, _) => 64 * st + c
  | .scm, (_, c, g, b) => 2048 + (16 * c + 4 * g + b)
  | .cistern, _ => 4096 + spa % 2 ^ 32 / 256
  | _, _ => 3100

/-- The memory behind an address is reached: its die's island, or SCM's, is not gated (R12). -/
def homeUp (s : State) (spa : Nat) : Bool :=
  match regionOf spa with
  | .hbm => !s.gated.contains (16 + (hash spa).1 / 4)
  | .cistern => !s.gated.contains (16 + bits spa 30 2)
  | .scm => !s.gated.contains 22
  | .host => !s.gated.contains 21
  | .hole => true

/-- The homes of every granule of a run are reached. -/
def homesUp (s : State) (spa n : Nat) : Bool :=
  s.gated.isEmpty || (List.range ((spa + n - 1) / 256 - spa / 256 + 1)).all (fun i => homeUp s ((spa / 256 + i) * 256))

/-- Who asks: the partition and the cistern window of the issuer's team (R184). -/
structure Who where
  part : Nat
  die : Nat
  wbase : Nat
  wsize : Nat
deriving DecidableEq, Repr

/-- The asker that a stream is. -/
def whoOf (s : State) (t : Stream) (sid : Nat) : Who :=
  match s.team? t.team with
  | some tm => ⟨t.part, dieOf (clusterOf sid), tm.wbase, tm.wsize⟩
  | none => ⟨t.part, dieOf (clusterOf sid), 0, 0⟩

/-- A leaf: the entry, the log of its page size, the physical address of the byte. -/
structure Leaf where
  pte : Nat
  size : Nat
  spa : Nat
deriving DecidableEq, Repr

/-- An 8-byte page-table entry. -/
def pteAt (s : State) (a : Nat) : Nat := ofBytes (s.readMem a 8)

/-- The PFN field as an address. -/
def pfn (e : Nat) : Nat := bits e 12 36 * 4096

/-- The reserved bits of an entry are zero (Table 9.2). -/
def pteClean (e : Nat) : Bool := bits e 48 12 = 0 && bits e 9 3 = 0 && bits e 1 6 = 0

/-- The extension bits of the SCM frames [lo, lo + n) bytes agree with EXT (R186, R362). -/
def extAgrees (s : State) (lo n : Nat) (e : Bool) : Bool :=
  if regionOf lo = .scm then
    let f0 := scmOff lo / 65536
    let cnt := max 1 (n / 65536)
    let listed := (s.ext.filter (fun p => f0 ≤ p.1 && p.1 < f0 + cnt)).length
    if e then listed = cnt else listed = 0
  else true

/-- A leaf entry at a level, checked (R186). -/
def leafAt (s : State) (lvl e ea va : Nat) : Except Nat Leaf :=
  let c64 := bits e 8 1 = 1
  let size := if lvl = 1 then 30 else if lvl = 2 then 21 else if c64 then 16 else 12
  let i := ea / 8 % 16
  let first := pteAt s (ea - 8 * i)
  let strip (x : Nat) : Nat := x - bits x 12 4 * 4096
  if lvl = 0 || (c64 && lvl ≠ 3) then .error 0x13
  else if c64 && (bits e 12 4 ≠ i || strip e ≠ strip first) then .error 0x13
  else if !c64 && pfn e % 2 ^ size ≠ 0 then .error 0x13
  else
    let base := if c64 then pfn e / 65536 * 65536 else pfn e
    if !extAgrees s base (2 ^ size) (bits e 63 1 = 1) then .error 0x13
    else .ok ⟨e, size, base + va % 2 ^ size⟩

/-- The walk from a table at a level (R185, R186). -/
def walkFrom (s : State) (va : Nat) : Nat → Nat → Nat → Except Nat Leaf
  | 0, _, _ => .error 0x13
  | f + 1, lvl, tbl =>
    if regionOf tbl ≠ .hbm then .error 0x13
    else
      let ea := tbl + 8 * bits va (39 - 9 * lvl) 9
      let e := pteAt s ea
      if bits e 0 1 = 0 then .error 0x11
      else if !pteClean e then .error 0x13
      else if bits e 7 1 = 1 then leafAt s lvl e ea va
      else if lvl = 3 || bits e 8 1 = 1 then .error 0x13
      else walkFrom s va f (lvl + 1) (pfn e)

/-- The walk of a partition's table. -/
def walk (s : State) (p va : Nat) : Except Nat Leaf := walkFrom s va 4 0 (s.part p).ptroot.toNat

/-- The place of a page's translation in a partition's buffers, by the log of the page's size. -/
def tlbKey (va size : Nat) : Nat := va / 2 ^ size * 64 + size

/-- The translation of a page that the buffers hold: the log of the page's size, and its leaf (R188). -/
def retained (x : Part) (va : Nat) : Option (Nat × BitVec 64) :=
  [12, 16, 21, 30].findSome? (fun z => (Tab.get none x.tlb (tlbKey va z)).map (fun e => (z, e)))

/-- The translation of a byte: a valid entry that has changed governs no access until a PINV; till then the former one does (R188, log 9). -/
def lookup (s : State) (p va : Nat) : Except Nat Leaf :=
  match retained (s.part p) va with
  | none => walk s p va
  | some (size, e) =>
    let base := if bits e.toNat 8 1 = 1 then pfn e.toNat / 65536 * 65536 else pfn e.toNat
    .ok ⟨e.toNat, size, base + va % 2 ^ size⟩

/-- The indexes of a table's valid entries. -/
def validEntries (s : State) (tbl : Nat) : List Nat :=
  s.mem.filterMap (fun e => if tbl ≤ e.1 && e.1 < tbl + 4096 && e.1 % 8 = 0 && e.2.toNat % 2 = 1 then some ((e.1 - tbl) / 8) else none)

/-- The first virtual address of each valid leaf entry below a table. -/
def mappedFrom (s : State) : Nat → Nat → Nat → Nat → List Nat
  | 0, _, _, _ => []
  | f + 1, lvl, tbl, va => (validEntries s tbl).flatMap (fun i =>
      let a := va + i * 2 ^ (39 - 9 * lvl)
      let e := pteAt s (tbl + 8 * i)
      if lvl = 3 || bits e 7 1 = 1 then [a] else mappedFrom s f (lvl + 1) (pfn e) a)

/-- The buffers keep the translations of a partition that a step has changed in its tables (R188). -/
def keepLeaves (s s' : State) (p : Nat) : State :=
  across (mappedFrom s 4 0 (s.part p).ptroot.toNat 0) (fun va s' =>
    match walk s p va, walk s' p va, retained (s'.part p) va with
    | .ok l, .ok l', none => if l' = l then s' else keep s' va l
    | .ok l, .error _, none => keep s' va l
    | _, _, _ => s') s'
where
  /-- One translation is kept. -/
  keep (s' : State) (va : Nat) (l : Leaf) : State :=
    s'.modPart p (fun x => { x with tlb := Tab.set none x.tlb (tlbKey va l.size) (some (BitVec.ofNat 64 l.pte)) })

/-- What a step that has changed memory leaves in the translation buffers (R188). -/
def keepTranslations (s s' : State) : State := if s'.mem = s.mem then s' else across (s.parts.map (fun e => e.1)) (fun p s' => keepLeaves s s' p) s'

/-- What an access needs (R187, R199, R198, R352). -/
structure Acc where
  rd : Bool
  wr : Bool
  ex : Bool
  /-- The EXT value a page must have, none for no check. -/
  ext : Option Bool
  /-- The cause for a page in SCM, or outside SCM. -/
  inScm : Option Nat
  notScm : Option Nat
  /-- The cause for host memory. -/
  onHost : Option Nat
deriving DecidableEq, Repr

/-- A plain read. -/
def Acc.read : Acc := ⟨true, false, false, some false, none, none, none⟩
/-- A plain write: SCM faults SCM_WRITE (R199). -/
def Acc.write : Acc := ⟨false, true, false, some false, some 0x17, none, none⟩
/-- An atomic: ATOM_SPACE on SCM comes after SCM_WRITE; host memory only for the operations of R198. -/
def Acc.atomic (hostOk : Bool) : Acc := ⟨true, true, false, some false, some 0x17, none, if hostOk then none else some 0x18⟩
/-- A persist store (R352): PST_DEST outside SCM. -/
def Acc.persist : Acc := ⟨false, true, false, some false, none, some 0x25, none⟩
/-- Instruction fetch. -/
def Acc.fetch : Acc := ⟨false, false, true, some false, none, none, none⟩

/-- A fault: the place of its code in the order of R187, the code, the address. -/
structure Flt where
  rank : Nat
  code : Nat
  addr : Addr
deriving DecidableEq, Repr

/-- Checks 1 to 6 and 8 to 10 of R187 for the bytes of one page; the SPA where all pass. -/
def probe (s : State) (w : Who) (acc : Acc) (va : Nat) : Except Flt Leaf :=
  let bad (r c : Nat) : Except Flt Leaf := .error ⟨r, c, BitVec.ofNat 64 va⟩
  if bits va 48 16 ≠ 0 then bad 1 0x10
  else if bits va 32 16 = 0xFFFF then
    let off := va % 2 ^ 32
    if w.wsize * 65536 ≤ off then bad 2 0x19
    else if acc.ex then bad 5 0x12
    else if acc.ext = some true then bad 6 0x15
    else
      let spa := 4 * 2 ^ 40 + w.die * 2 ^ 30 + w.wbase * 65536 + off
      match acc.notScm with
      | some c => bad 9 c
      | none => .ok ⟨0, 0, spa⟩
  else match lookup s w.part va with
    | .error c => bad (if c = 0x11 then 3 else 4) c
    | .ok l =>
      if (acc.rd && bits l.pte 60 1 = 0) || (acc.wr && bits l.pte 61 1 = 0) || (acc.ex && bits l.pte 62 1 = 0) then bad 5 0x12
      else if acc.ext = some (decide (bits l.pte 63 1 = 0)) then bad 6 0x15
      else match regionOf l.spa with
        | .hole => bad 8 0x16
        | .scm => match acc.inScm with
          | some c => bad 9 c
          | none => .ok l
        | .host => match acc.notScm, acc.onHost with
          | some c, _ => bad 9 c
          | none, some c => bad 10 c
          | none, none => .ok l
        | _ => match acc.notScm with
          | some c => bad 9 c
          | none => .ok l

/-- The first address of every page that n bytes at va touch, addresses modulo 2^64. -/
def pagesOf (va n : Nat) : List Nat :=
  let cnt := (4095 + (n + va % 4096)) / 4096
  va :: (List.range (cnt - 1)).map (fun i => (va / 4096 * 4096 + 4096 * (i + 1)) % 2 ^ 64)

/-- The better of two faults: the lower code rank, then the first found (R187). -/
def worse (a b : Option Flt) : Option Flt :=
  match a, b with
  | none, b => b
  | a, none => a
  | some x, some y => if y.rank < x.rank then some y else some x

/-- The checks of R187 for n bytes at va that must be aligned to al; the SPA of the first byte where all pass. -/
def access (s : State) (w : Who) (acc : Acc) (va n al : Nat) : Except Flt Nat :=
  let faults := (pagesOf va n).map (fun a => match probe s w acc a with
    | .error f => some f
    | .ok _ => none)
  let all := faults.foldl worse (if va % al = 0 then none else some ⟨7, 0x14, BitVec.ofNat 64 va⟩)
  match all with
  | some f => .error f
  | none => match probe s w acc va with
    | .ok l => .ok l.spa
    | .error f => .error f

/-- The bytes of a run that may span pages, each page translated: lists of (SPA, length). -/
def runs (s : State) (w : Who) (acc : Acc) (va n : Nat) : List (Nat × Nat) :=
  (pagesOf va n).filterMap (fun a =>
    match probe s w acc a with
    | .ok l =>
      let stop := min ((a / 4096 + 1) * 4096) (va + n)
      some (l.spa, if va + n ≤ 2 ^ 64 then stop - a else min (4096 - a % 4096) n)
    | .error _ => none)

/-- Read n bytes at a virtual address whose translation has passed. -/
def readVa (s : State) (w : Who) (acc : Acc) (va n : Nat) : List Byte :=
  (runs s w acc va n).flatMap (fun r => s.readMem r.1 r.2)

/-- Write bytes run by run. -/
def writeRuns (s : State) : List (Nat × Nat) → List Byte → State
  | [], _ => s
  | (a, n) :: rest, bs => writeRuns (s.writeMem a (bs.take n)) rest (bs.drop n)

/-- Write bytes at a virtual address whose translation has passed. -/
def writeVa (s : State) (w : Who) (acc : Acc) (va : Nat) (bs : List Byte) : State :=
  writeRuns s (runs s w acc va bs.length) bs

/-- The pages of several runs, translated. -/
def pagesFor (s : State) (w : Who) (acc : Acc) (rs : List (Nat × Nat)) : Pages :=
  rs.foldl (fun ps r => (pagesOf r.1 r.2).foldl (fun ps a =>
    if ps.any (fun p => p.1 = a / 4096) then ps
    else match probe s w acc a with
      | .ok l => ps ++ [(a / 4096, l.spa / 4096)]
      | .error _ => ps) ps) []

/-- The first k bytes of several runs. -/
def takeRuns : List (Nat × Nat) → Nat → List (Nat × Nat)
  | [], _ => []
  | (a, n) :: rest, k => if k ≤ n then [(a, k)] else (a, n) :: takeRuns rest (k - n)

/-- Several runs past their first k bytes. -/
def dropRuns : List (Nat × Nat) → Nat → List (Nat × Nat)
  | [], _ => []
  | (a, n) :: rest, k => if k < n then (a + k, n - k) :: rest else dropRuns rest (k - n)

/-- Some page of the run is blocked by a PWB (R202). -/
def blocked (s : State) (p va n : Nat) : Bool :=
  (pagesOf va n).any (fun a => bits a 32 32 ≠ 0xFFFF && (s.part p).blocks.any (fun b => b.1 ≤ a && a < b.1 + 2 ^ b.2))

/-- An access to n bytes waits: at a page that a PWB blocks, or for an island that is gated (R12, R202). -/
def unready (s : State) (p va n : Nat) : Bool :=
  blocked s p va n || !(s.gated.isEmpty || (runs s ⟨p, 0, 0, 0⟩ ⟨false, false, false, none, none, none, none⟩ va n).all (fun r => homesUp s r.1 r.2))

end Sys2Proof.Machine
end

