-- ==== Sys2Proof/Machine/Ops.lean ====
section
/-! DEFINITION. Taking an exception and returning from one (R401 to R408), entering a block (R82, R104), path ends and
retirement (R100, R106, R26), and ending a try region by an abort (R239). -/
namespace Sys2Proof.Machine

-- Stop records and events

/-- The record index of a stream (Table 18.2). -/
def recIndex (sid : Nat) : Nat := sid

/-- KIND of a record index (Table 18.3). -/
def recKind (i : Nat) : Nat :=
  if i < 12288 then 0 else if i < 12480 then 1 else if 12800 ≤ i then 2 else if i < 12544 then 3
  else if i < 12560 then 4 else if i < 12564 then 5 else 6

/-- WHO of a record index: cluster, die or hub (Table 18.3). -/
def recWho (i : Nat) : Nat :=
  if i < 12288 then i / 64 else if i < 12480 then i - 12288 else if 12800 ≤ i then i - 12800
  else if i < 12544 then (i - 12480) / 16 else if i < 12560 then (i - 12544) / 4 else if i < 12564 then i - 12560 else 4

/-- The island of a party: its cluster's quadrant, its die's fabric and cistern, or SCM (Table 1.3, R422). -/
def islandOf (idx : Nat) : Nat :=
  if idx < 12480 then quadOf (clusterOf idx) else if 12800 ≤ idx then quadOf (idx - 12800)
  else if idx = 12564 then 22 else 16 + recWho idx

/-- A party's own cycle counter: the clocks since its island left reset (R422, log 38). -/
def partyClock (s : State) (idx : Nat) : Nat := s.clock - Tab.get 0 s.since (islandOf idx)

/-- The EM words of a record: a course's or sequencer's; the spec gives an engine's record none, so they are free (log 4). -/
def recEm (s : State) (e : Event) (b : Nat) : Word := if recKind e.idx ≤ 1 then e.em.beat b else Config.freeWord s.fresh (16 * e.idx + b)

/-- The sixteen words of a stop record (Table 18.3). SKID is not fixed by the spec: a free value (log 4). -/
def recWords (s : State) (p : Nat) (e : Event) : List Word :=
  let c : Addr := BitVec.ofNat 64 e.cyc
  [ wd (e.cause + 256 * recKind e.idx + 65536 * e.flags + 16777216 * p), e.aux, e.pc.setWidth 32, (e.pc >>> 32).setWidth 32,
    e.addr.setWidth 32, (e.addr >>> 32).setWidth 32, wd e.seq, Config.freeWord s.fresh e.idx, recEm s e 0, recEm s e 1,
    recEm s e 2, wd (recWho e.idx + 65536 * e.idx), c.setWidth 32, (c >>> 32).setWidth 32, 0, 0 ]

/-- Stage a record, and write it to its place where SRBASE names one (R403, R404). -/
def stageRecord (s : State) (p : Nat) (e : Event) : State :=
  let ws := recWords s p e
  let s := s.modPart p (fun x => { x with stage := Tab.set [] x.stage e.idx ws })
  let base := (s.part p).srbase.toNat
  if base = 0 then s else s.writeMem (base + 64 * e.idx) (bytesOfWords ws)

/-- Set bits of FLAGS in a staged record and its memory image (R407). -/
def flagRecord (s : State) (p idx flag : Nat) : State :=
  match Tab.get [] (s.part p).stage idx with
  | [] => s
  | w :: ws =>
    let w' := w ||| wd (65536 * flag)
    let s := s.modPart p (fun x => { x with stage := Tab.set [] x.stage idx (w' :: ws) })
    let base := (s.part p).srbase.toNat
    if base = 0 then s else s.writeMem (base + 64 * idx) (bytesOf w'.toNat 4)

/-- FLAGS of a permanent halt. -/
def flagPerm : Nat := 16

/-- The record index of an engine operation's engine (Table 18.2); which engine of the die runs it is taken by its number. -/
def eopIndex (n : Nat) (e : EngOp) : Nat :=
  match e.kind with
  | .copy _ _ => 12480 + 16 * e.die + n % 16
  | .mcst => 12560 + e.die
  | .mcred => 12560 + e.die
  | _ => 12544 + 4 * e.die + n % 4

/-- The engine operations of a partition that are not complete. -/
def eopsOf (s : State) (p : Nat) : List (Nat × EngOp) :=
  s.eops.filterMap (fun e => match e.2 with
    | some x => if x.part = p then some (e.1, x) else none
    | none => none)

/-- A collective operation (R339). -/
def EngKind.collective : EngKind → Bool
  | .mcst => true
  | .mcred => true
  | _ => false

/-- The collective engines of a partition that have started operations (R402). -/
def startedColls (s : State) (p : Nat) : List (Nat × Addr) :=
  (eopsOf s p).filterMap (fun e => if e.2.kind.collective && e.2.started then some (eopIndex e.1 e.2, e.2.pc) else none)

/-- The halt line rises at the first event of a halt (R401): the staging begins anew, and the collective engines' started operations are noted. -/
def raiseHalt (s : State) (p : Nat) (x : Part) : Part :=
  if x.halted then x
  else { x with halted := true, firstSeq := x.seq.toNat, stage := [], stoppedAt := [], owing := startedColls s p, halts := x.halts + 1 }

/-- The counter of a party at its stop: now, or where it has stopped before, then (R404). -/
def stopCyc (s : State) (p idx : Nat) : Nat :=
  if Tab.get 0 (s.part p).stopClk idx = 0 then partyClock s idx else Tab.get 0 (s.part p).stopClk idx

/-- The halt/error arbiter takes an event: it numbers it, raises the halt line at the first, and the party's record is
staged (R401, R404, R406). An event of a partition halted for good only takes a number and writes its record. -/
def arbiter (s : State) (p : Nat) (e : Event) : State :=
  let x := s.part p
  if x.wdreset.isSome then s
  else
    let e := { e with cyc := stopCyc s p e.idx, seq := x.seq.toNat, flags := if x.perm then e.flags ||| flagPerm else e.flags }
    let y := raiseHalt s p x
    stageRecord (s.setPart p { y with
      seq := x.seq + 1, stoppedAt := if y.stoppedAt.contains e.idx then y.stoppedAt else e.idx :: y.stoppedAt,
      stopClk := Tab.set 0 y.stopClk e.idx e.cyc, events := y.events ++ [{ e with handled := x.perm }] }) p e

/-- A fault of an access that no party makes: the tab unit's, or the arm table's. The hub raises it, under the index after the Windlass's (log 35);
no course can handle it, so the partition halts for good (R405). -/
def hubFault (s : State) (p : Nat) (f : Flt) : State :=
  arbiter s p ⟨0, 12565, none, f.code, 0, f.addr, 0, 0, 1, false, none, none, 0, false⟩

/-- A stream's open region is discarded (R240). -/
def Stream.discarded (t : Stream) : Stream := { t with tr := none, abort := none }

/-- The partition's streams that have stopped, or run a handler, discard their open regions (R240); the others do as they stop. -/
def discardRegions (s : State) (p : Nat) : State :=
  let f (t : Stream) : Stream := if t.part = p && (t.stopped || t.hnd.isSome) then t.discarded else t
  { s with streams := s.streams.map (fun e => (e.1, e.2.map f)) }

/-- The partition halts for good: open regions are discarded and the driver is interrupted (R240, R406, Table 19.1). While a watchdog resets
the partition, its own events are discarded (R413). -/
def haltForGood (s : State) (p : Nat) : State :=
  if (s.part p).wdreset.isSome then s
  else ((discardRegions s p).modPart p (fun x => { x with perm := true, handler := none, events := x.events.map (fun e => { e with handled := true }) })).raiseMsix
    (8 * p + 3)

/-- The stream that handles an event of a stream: itself, or for a sequencer course 0 of its team (R405). -/
def handlerOf (s : State) (sid : Nat) (t : Stream) : Option Nat :=
  if !isSeq sid then some sid
  else match s.team? t.team with
    | some tm => (tm.courses.find? (fun c => match s.stream? c with
        | some x => x.idx = 0
        | none => false))
    | none => none

/-- A code whose TRYADDR is the fault address: the memory faults and TIMEOUT (Table 11.6). -/
def addrCode (c : Nat) : Bool := 0x10 ≤ c && c ≤ 0x1C && c ≠ 0x1A

/-- Ask for the abort of a course's open region; its outstanding replies will write no register (R238, R239). -/
def setAbort (s : State) (sid : Nat) (a : AbortReq) : State :=
  let s := s.modStream sid (fun t => { t with abort := some a })
  { s with ott := s.ott.map (fun e => (e.1, match e.2 with
      | some x => if x.sid = sid && x.inTry && !x.gone then some { x with drop := true } else some x
      | none => none)) }

/-- An HW_UE was raised for the storage of a stream's cluster (R416). -/
def noteHw (s : State) (sid : Nat) : State := s.modCluster (clusterOf sid) (fun c => { c with hwerr := true })

/-- TAKING A TRAP on an instruction of a path: a double fault in a handler (R406), an abort of an open region (R238), else
the event with its record and the halt line (R401, R405). -/
def takeTrap (s : State) (sid k cause : Nat) (addr : Addr) (aux : Word) : State :=
  match s.stream? sid with
  | none => s
  | some t =>
    let pc := match t.path? k with
      | some p => p.pc
      | none => 0
    let em := match t.path? k with
      | some p => if isSeq sid then 1 else p.em
      | none => 0
    let ev : Event := ⟨0, recIndex sid, handlerOf s sid t, cause, pc, addr, aux, em, 1, false, some (sid, k), none, 0, isSeq sid⟩
    if t.hnd.isSome then
      haltForGood (arbiter (s.setStream sid { t with stopped := true }) t.part { ev with flags := 4 + flagPerm + 1 }) t.part
    else if t.inTry then
      setAbort s sid ⟨3, cause, if addrCode cause then addr else pc⟩
    else arbiter (s.setStream sid { t with stopped := true }) t.part ev

/-- The EM of a record (Table 18.3): 1 for a sequencer; for a course, the EM of the path that issued the work, else of a path it has. -/
def Stream.recordEm (t : Stream) (sid : Nat) (id : Option Nat) : Lanes :=
  if isSeq sid then 1
  else match [t.p0, t.p1].filterMap (fun p => p) with
    | [] => 0
    | p :: ps => (((p :: ps).find? (fun q => id = some q.id)).getD p).em

/-- A fault that comes due for a stream on a request it issued before (R206, R208, R408). -/
def lateFault (s : State) (sid : Nat) (e : Entry) (cause : Nat) (addr : Addr) (aux : Word) : State :=
  match s.stream? sid with
  | none => s
  | some t =>
    let ev : Event := ⟨0, recIndex sid, handlerOf s sid t, cause, e.pc, addr, aux, t.recordEm sid (some e.path), 1, false, none, some (e.path, e.hdr), 0, isSeq sid⟩
    if e.inHnd then haltForGood (arbiter (s.setStream sid { t with stopped := true }) t.part { ev with flags := 4 + flagPerm + 1 }) t.part
    else if e.inTry && t.tr.isSome then
      (match t.abort with
      | some _ => s
      | none => setAbort s sid ⟨3, cause, if addrCode cause then addr else e.pc⟩)
    else arbiter (if t.hnd.isSome then s else s.setStream sid { t with stopped := true }) t.part ev

/-- The fault of a request whose stream has left its slot by EXIT: no course of its own can handle it any more; a sequencer's goes to course 0
of its team (R206, R208, R405). That of a killed team's request is none (R208). -/
def goneFault (s : State) (e : Entry) (cause : Nat) (addr : Addr) (aux : Word) : State :=
  let heir : Option Nat := if isSeq e.sid then (s.team? e.team).bind (fun tm => tm.courses.find? (fun c => (s.stream? c).any (fun x => x.idx = 0))) else none
  let ev : Event := ⟨0, recIndex e.sid, heir, cause, e.pc, addr, aux, if isSeq e.sid then 1 else 0, 1, false, none, none, 0, isSeq e.sid⟩
  if e.killed then s else arbiter s e.part ev

/-- A fault that comes due on a request (R206, R208). -/
def requestFault (s : State) (e : Entry) (cause : Nat) (addr : Addr) (aux : Word) : State :=
  if e.gone then goneFault s e cause addr aux else lateFault s e.sid e cause addr aux

-- Parties of a partition

/-- The streams of a partition. -/
def streamsOf (s : State) (p : Nat) : List Nat :=
  s.streams.filterMap (fun e => match e.2 with
    | some t => if t.part = p then some e.1 else none
    | none => none)

/-- The clusters whose sequencer or courses belong to the partition and whose array holds commands. -/
def arraysOf (s : State) (p : Nat) : List Nat :=
  s.clusters.filterMap (fun e => if !e.2.cq.isEmpty && ownerOf s e.1 = some p then some e.1 else none)

/-- The record indices of every party that holds work of the partition (R404, R444). -/
def partiesOf (s : State) (p : Nat) : List Nat :=
  streamsOf s p ++ (arraysOf s p).map (fun c => 12800 + c)
    ++ (eopsOf s p).map (fun e => eopIndex e.1 e.2) ++ (s.part p).owing.map (fun e => e.1)
    ++ (if (s.part p).snap.st = 1 && !(s.part p).snap.left.isEmpty then [12564] else [])

-- Block entry

/-- Fields of a block header's two words (Table 4.7). -/
structure Hdr where
  rcoff : Int
  rcv : Bool
  tryf : Bool
  loopf : Bool
  tryres : Bool
  resv : Nat
  blen : Nat
  livev : Nat
  lives : Nat
deriving DecidableEq, Repr

/-- Decode a header (Table 4.7). -/
def hdrOf (w0 w1 : Word) : Hdr :=
  ⟨(w1.extractLsb' 16 16).toInt, w1.getLsbD 15, w1.getLsbD 14, w1.getLsbD 13, w1.getLsbD 12, bits w1.toNat 0 12,
   bits w0.toNat 20 10, bits w0.toNat 10 10, bits w0.toNat 3 7⟩

/-- The header of the block a path is in. -/
def blockHdr (p : Path) : Hdr := hdrOf (nth 0 p.blk 0) (nth 0 p.blk 1)

/-- A word of code; none where its page may not be fetched, or is blocked. -/
def codeWord (s : State) (w : Who) (va : Addr) : Option Word :=
  if unready s w.part va.toNat 4 then none
  else match access s w Acc.fetch va.toNat 4 1 with
    | .ok spa => some (wd (ofBytes (s.readMem spa 4)))
    | .error _ => none

/-- The word at a target is a header, as far as it can be read (R93, R94); a page that cannot be fetched is left to the entry. -/
def targetOk (s : State) (w : Who) (va : Addr) : Bool :=
  va.toNat % 4 = 0 && (match codeWord s w va with
    | some x => x.extractLsb' 30 2 = 3
    | none => true)

/-- Checks on entering a header (R82, R187, R233, Table 4.11), in the order of R94: the block's words, or the trap. -/
def openBlock (s : State) (w : Who) (course : Bool) (alloc notHeader : Nat) (va : Addr) : Except Nat (List Word) :=
  match access s w Acc.fetch va.toNat 4 1 with
  | .error f => .error f.code
  | .ok spa0 =>
    let w0 := wd (ofBytes (s.readMem spa0 4))
    if va.toNat % 4 ≠ 0 || w0.extractLsb' 30 2 ≠ 3 then .error notHeader
    else match access s w Acc.fetch (va + 4).toNat 4 1 with
      | .error f => .error f.code
      | .ok spa1 =>
        let w1 := wd (ofBytes (s.readMem spa1 4))
        let h := hdrOf w0 w1
        if h.blen < 3 || (course && alloc ≤ h.livev) then .error 0x06
        else if h.resv ≠ 0 || (!h.rcv && h.rcoff ≠ 0) || (h.tryres && !h.tryf) then .error 0x02
        else match access s w Acc.fetch va.toNat (4 * h.blen) 1 with
          | .error f => .error f.code
          | .ok _ => .ok (wordsOf (readVa s w Acc.fetch va.toNat (4 * h.blen)))

/-- The lanes an EM may hold (R97, R237). -/
def Stream.emCap (t : Stream) (m : Lanes) : Lanes := if t.inTry then m &&& ~~~t.abortm else m

/-- Place a path in a free slot, else on the pending arm stack (R100). Only a split traps DIV_DEPTH: a released or completed path goes
on the stack whatever its height (DESIGN CHOICE, log 66). -/
def Stream.addPath (t : Stream) (p : Path) : Stream :=
  if t.p0.isNone then { t with p0 := some p } else if t.p1.isNone then { t with p1 := some p } else { t with arms := p :: t.arms }

/-- The path that a record releases at its JR: fresh scoreboard, and no header check there, also where its JR is the next header (R104, R119,
R455). -/
def Stream.released (t : Stream) (j : Join) (em own : Lanes) : Path :=
  match j.jr with
  | some (pc, hdr, blk) => ⟨t.nid, pc, t.emCap em, [], own, j.jp, hdr, blk, 0, [], [], none, pc.toNat = hdr.toNat + 4 * blk.length, false, false⟩
  | none => ⟨t.nid, 0, t.emCap em, [], own, j.jp, 0, [], 0, [], [], none, false, false, false⟩

/-- Release the parked lanes of a record, if any, close it and count it (R104 steps 1 and 2). -/
def Stream.release (t : Stream) (n : Nat) : Stream :=
  let j := t.join n
  let t1 := if j.ja = 0 then t
    else { t with nid := t.nid + 1 }.addPath (t.released j (j.mask &&& j.ja &&& t.live) (j.ja &&& t.live))
  { t1.setJoin n { j with jv := false, ja := 0, jr := none } with lost := t.lost + 1 }

/-- The bypass check of a path that enters a header (R104). -/
def Stream.bypass (t : Stream) (k : Nat) (hdr : Addr) : Nat → Stream
  | 0 => t
  | f + 1 =>
    match t.path? k with
    | none => t
    | some p => match p.owe with
      | none => t
      | some n =>
        let j := t.join n
        if !j.jv then (t.setPath k (some { p with owe := j.jp })).bypass k hdr f
        else if j.jh.toNat < hdr.toNat then ((t.release n).setPath k (some { p with owe := j.jp })).bypass k hdr f
        else t

/-- Some page of the block at an address is blocked by a PWB: the fetch waits (R202). -/
def fetchBlocked (s : State) (w : Who) (va : Addr) : Bool :=
  unready s w.part va.toNat 8 || (match codeWord s w va with
    | some x => x.extractLsb' 30 2 = 3 && unready s w.part va.toNat (4 * bits x.toNat 20 10)
    | none => false)

/-- A path enters the header at an address (R82, R86, R104); a failing check traps at the entry, and at a blocked page the entry waits
(R202, log 15). -/
def enterHeader (s : State) (sid k : Nat) (notHeader : Nat) (check : Bool) (va : Addr) : State :=
  match s.stream? sid with
  | none => s
  | some t => match t.path? k with
    | none => s
    | some p =>
      if fetchBlocked s (whoOf s t sid) va then s.setStream sid (t.setPath k (some { p with pc := va, entry := true, check := check }))
      else match openBlock s (whoOf s t sid) (!isSeq sid) t.alloc notHeader va with
      | .error c => takeTrap (s.setStream sid (t.setPath k (some { p with pc := va, entry := true, check := check }))) sid k c
          (if addrCode c then va else 0) 0
      | .ok ws =>
        let t1 := t.setPath k (some { p with pc := va + 8, hdr := va, blk := ws, pend := [], fl := p.fl.filter (fun e => e.due.isNone), entry := false, check := false })
        let t2 := if check then t1.bypass k va 9 else t1
        s.setStream sid t2

-- Ends of paths, courses and teams

/-- The open record with the highest JSEQ among those with parked lanes (R106). -/
def Stream.orphan (t : Stream) : Option Nat :=
  ((List.range 8).filter (fun n => (t.join n).jv && (t.join n).ja ≠ 0)).foldl (fun best n => match best with
    | none => some n
    | some b => if (t.join b).jseq < (t.join n).jseq then some n else some b) none

/-- A freed slot takes the top pending arm; a course left with no path releases its newest join (R100, R106). -/
def Stream.refill (t : Stream) (k : Nat) : Stream :=
  match t.path? k with
  | some _ => t
  | none => match t.arms with
    | a :: rest => { t.setPath k (some { a with slot := 0, pend := [], fl := [] }) with arms := rest }
    | [] =>
      if t.p0.isNone && t.p1.isNone && t.live ≠ 0 then
        match t.orphan with
        | some n => t.release n
        | none => t
      else t

/-- End a path (R100). -/
def Stream.endPath (t : Stream) (k : Nat) : Stream := (t.setPath k none).refill k

/-- Every completion barrier holds PEND = 0 (R254). -/
def Stream.barriersIdle (t : Stream) : Bool := (List.range 8).all (fun n => bits (t.cbAt n).toNat 0 8 = 0)

/-- Requests of a stream that leaves its slot belong to no stream any more. -/
def forgetRequests (s : State) (sid : Nat) : State :=
  let forget (r : PReq) : PReq := if r.sid = some sid then { r with sid := none } else r
  let forgetEnt (r : PEnt) : PEnt := if r.sid = some sid then { r with sid := none } else r
  let leave (x : Option Entry) : Option Entry := x.map (fun x => if x.sid = sid then { x with drop := true, gone := true } else x)
  let forgetDrain (d : Drain) : Drain := if d.sid = sid then { d with gone := true } else d
  { s with ott := s.ott.map (fun e => (e.1, leave e.2)), drains := s.drains.map forgetDrain, pwait := s.pwait.map forget, pq := s.pq.map forgetEnt }

/-- Replies to a killed team's requests are still to be collected, its operations still come to their next boundary, or the array still
finishes its command (R208, R254, Table 17.10). -/
def Team.collecting (s : State) (x : Team) : Bool :=
  x.killed && (s.ott.any (fun e => e.2.any (fun y => y.gone && x.slots.any (fun q => q.1 = y.sid)))
    || s.drains.any (fun d => d.gone && x.slots.any (fun q => q.1 = d.sid))
    || s.eops.any (fun e => e.2.any (fun y => y.cut && x.slots.any (fun q => y.sid = some q.1)))
    || x.slots.any (fun q => isSeq q.1 && !(s.cluster (clusterOf q.1)).cq.isEmpty))

/-- A team whose last course has retired and whose sequencer has ended frees its resources (R26, R279). -/
def retireTeam (s : State) (tm : Nat) : State :=
  match s.team? tm with
  | none => s
  | some x =>
    if x.courses.isEmpty && !x.seq && x.displaced.isNone && !x.collecting s then
      let s := s.setTeam tm none
      match s.launch? x.launch with
      | some l =>
        if x.killed && !x.cancelled then
          if l.desc.idemp && x.restarts < 3 then
            s.setLaunch x.launch (some { l with running := l.running - 1, redo := l.redo ++ [(x.index, x.restarts + 1)] })
          else s.setLaunch x.launch (some { l with running := l.running - 1, failed := true })
        else s.setLaunch x.launch (some { l with running := l.running - 1, failed := l.failed || x.cancelled })
      | none => s
    else s

/-- A stream leaves its slot: course or sequencer (R26, R254, R279). -/
def retireStream (s : State) (sid : Nat) : State :=
  match s.stream? sid with
  | none => s
  | some t =>
    let s := forgetRequests (s.dropStream sid) sid
    match s.team? t.team with
    | none => s
    | some tm =>
      let tm' := if isSeq sid then { tm with seq := false } else { tm with courses := tm.courses.filter (fun c => c ≠ sid) }
      let s := s.setTeam t.team (some tm')
      retireTeam s t.team

/-- A stream's SPUB has not published its slot (R297). -/
def pubOut (s : State) (sid : Nat) : Bool := s.strm.any (fun e => e.2.pending.any (fun q => q.sid = sid))

/-- The work of a sequencer's stream that EXIT waits for: array commands, tile-port operations, its SPUB among them, and barriers (R279,
R281). -/
def seqIdle (s : State) (sid : Nat) (t : Stream) : Bool :=
  let c := s.cluster (clusterOf sid)
  c.cq.isEmpty && c.port.isEmpty && !pubOut s sid && t.barriersIdle

/-- No path or pending arm of a course holds a lane. -/
def Stream.spent (t : Stream) : Bool := (t.p0.toList ++ t.p1.toList ++ t.arms).all (fun p => p.own = 0)

/-- The handler of a course that has retired is over, though no RTE ended it: its event stays unhandled (R100, R405; log 67). -/
def handlerGone (s : State) (p sid : Nat) : State :=
  if (s.part p).handler = some sid then s.modPart p (fun x => { x with handler := none }) else s

/-- Retire a stream that has ended once nothing of it remains; course 0 of a team keeps its slot while the sequencer runs
(R26, R254, R279, R405). A course that runs a handler retires once EXIT has taken its last lane (R100). -/
def settle (s : State) (sid : Nat) : State :=
  match s.stream? sid with
  | none => s
  | some t =>
    if t.stopped || (t.hnd.isSome && !(t.live = 0 && t.spent)) then s
    else if isSeq sid then
      if t.ended && seqIdle s sid t then
        let s := retireStream s sid
        match s.team? t.team with
        | some tm => across tm.courses (fun c s => match s.stream? c with
            | some x => if x.ended && x.barriersIdle then retireStream s c else s
            | none => s) s
        | none => s
      else s
    else if t.live = 0 then
      let t1 := { t with p0 := none, p1 := none, arms := [], ended := true }
      let s := s.setStream sid t1
      let held := t.idx = 0 && (match s.team? t.team with
        | some tm => tm.seq
        | none => false)
      if t1.barriersIdle && !held then handlerGone (retireStream s sid) t.part sid else s
    else s

-- Try regions end

/-- Some load or atomic of the stream is outstanding (R215, R223). -/
def loadsOut (s : State) (sid : Nat) : Bool :=
  s.ott.any (fun e => match e.2 with
    | some x => x.sid = sid && !x.gone && (x.kind = .load || x.kind = .atomic || x.kind = .remoteLoad || x.kind = .remoteAtomic)
    | none => false)

/-- Shadow copies return to v0 to v(K-1) of the lanes of a mask (R231, R237, R239). -/
def Stream.unshadow (t : Stream) (k : Nat) (m : Lanes) : Stream :=
  (List.range k).foldl (fun t i => m.list.foldl (fun t l =>
    { t with v := Tab.set 0 t.v (96 * i + l) (t.vAt (t.rg + i) l),
             vp := Tab.set false t.vp (96 * i + l) (Tab.get false t.vp (96 * (t.rg + i) + l)) }) t) t

/-- The scalar copy returns to s1 to sJ (R239). -/
def Stream.unscalar (t : Stream) (j : Nat) (src : Tab Word) (sp : Tab Bool) : Stream :=
  (List.range j).foldl (fun t i => { t with
    s := Tab.set 0 t.s (i + 1) (Tab.get 0 src (i + 1)), sp := Tab.set false t.sp (i + 1) (Tab.get false sp (i + 1)) }) t

/-- A copy of s1 to sJ and their poison (R232, R405). -/
def Stream.scalars (t : Stream) (j : Nat) : Tab Word × Tab Bool :=
  ((List.range j).foldl (fun d i => Tab.set 0 d (i + 1) (t.sAt (i + 1))) [],
   (List.range j).foldl (fun d i => Tab.set false d (i + 1) (Tab.get false t.sp (i + 1))) [])

/-- Control state restored from a checkpoint. -/
def Stream.control (t : Stream) (c : Ctl) : Stream :=
  { t with p0 := c.p0, p1 := c.p1, arms := c.arms, jm := c.jm, rstk := c.rstk }

/-- The control state of a stream. -/
def Stream.ctl (t : Stream) : Ctl := ⟨t.p0, t.p1, t.arms, t.jm, t.rstk, t.lr⟩

/-- TRYST after an abort (R239, Table 11.4): CODE, DEPTH 0, ACT 0, FCODE of a fault. -/
def trystAbort (w : Word) (a : AbortReq) : Word :=
  let keep := w &&& (if a.code = 3 then 0xFF000040#32 else 0xFFFE0040#32)
  keep ||| wd a.code ||| (if a.code = 3 then wd (a.fcode * 131072) else 0)

/-- The abort itself (R239): shadows, links, scalars and control state return, and the path goes to the abort target. -/
def Stream.aborted (t : Stream) (r : Region) (a : AbortReq) : Stream :=
  let t := t.unshadow r.k r.own
  let t := { t with lr := r.own.list.foldl (fun lr l => Tab.set 0 lr l (Tab.get 0 r.ctl.lr l)) t.lr }
  let t := (t.unscalar r.j r.scal r.sp).control r.ctl
  let fix (p : Path) : Path := { p with em := r.emt, emp := [], pc := r.target, slot := 0, pend := [], fl := [], wait := none, entry := true, check := false, held := false }
  { t with p0 := t.p0.map fix, p1 := t.p1.map fix, tr := none, abort := none, abortm := r.emt, tryst := trystAbort t.tryst a,
           tryaddr := if a.code = 3 then a.addr else t.tryaddr }

/-- Finish a pending abort once every reply is collected (R239); none while one is out. -/
def finishAbort (s : State) (sid : Nat) (t : Stream) : State :=
  match t.abort, t.tr with
  | some a, some r => if loadsOut s sid then s else s.setStream sid (t.aborted r a)
  | _, _ => s

-- Handlers

/-- Every pending fixed-latency write is complete before control state is saved (R86). -/
def Ctl.settled (c : Ctl) : Ctl :=
  let f (p : Path) : Path := { p with pend := [], fl := [] }
  { c with p0 := c.p0.map f, p1 := c.p1.map f, arms := c.arms.map f }

/-- The stream with every pending fixed-latency write complete (R86). -/
def Stream.settled (t : Stream) : Stream :=
  let f (p : Path) : Path := { p with pend := [], fl := [] }
  { t with p0 := t.p0.map f, p1 := t.p1.map f, arms := t.arms.map f }

/-- The course state at handler entry (R405, Table 18.4): lane 0 for a sequencer's event and for a course with no lane left; else the EM of
the event, which for a path's own trap holds no lane that has left. -/
def handlerStream (t : Stream) (tvec : Addr) (e : Event) : Stream :=
  let own : Lanes := if e.bySeq || t.live = 0 then 1 else e.em &&& t.live
  let p : Path := ⟨t.nid, tvec, own, [], own, none, tvec, [], 0, [], [], none, true, false, false⟩
  let t1 := { t with
    hnd := some ⟨t.ctl.settled, (t.scalars 31).1, (t.scalars 31).2, e.idx, e.seq, e.pc, e.who, e.back⟩,
    p0 := some p, p1 := none, arms := [], jm := [], rstk := [], nid := t.nid + 1, stopped := false }
  t1.putAll false 0 ([.s 1 (wd e.idx)] ++ wrPair 2 e.pc ++ wrPair 4 e.addr ++ [.s 6 (wd e.cause), .s 7 (wd e.seq)])

/-- The unhandled event with the lowest SEQ. -/
def nextEvent (x : Part) : Option Event := x.events.find? (fun e => !e.handled)

/-- Every stream, array and engine operation of the partition has stopped, or has nothing left to do (R402). -/
def unitsStopped (s : State) (p : Nat) : Bool :=
  (streamsOf s p).all (fun i => match s.stream? i with
    | some t => t.stopped
    | none => true)
    && (arraysOf s p).all (fun c => (s.cluster c).stopped) && (eopsOf s p).all (fun e => e.2.stopped || e.2.done)

/-- The partition's halt is complete: every party has stopped (R405). -/
def allStopped (s : State) (p : Nat) : Bool :=
  unitsStopped s p && (partiesOf s p).all (fun i => (s.part p).stoppedAt.contains i)

/-- Start the handler of the next event once every party has stopped (R405); none starts while a watchdog resets the partition (R413). -/
def startHandler (s : State) (p : Nat) : State :=
  let x := s.part p
  if x.halted && !x.perm && x.handler.isNone && x.pre = 0 && x.wdreset.isNone && allStopped s p then
    match nextEvent x with
    | none => s
    | some e =>
      let s := stageRecord s p e
      let s := match e.who with
        | some (w, _) => s.modStream w Stream.settled
        | none => s
      match e.sid with
      | none => flagRecord (haltForGood s p) p e.idx flagPerm
      | some c => match s.stream? c with
        | none => flagRecord (haltForGood s p) p e.idx flagPerm
        | some t =>
          match openBlock s (whoOf s t c) true t.alloc 0x05 x.tvec with
          | .error 0x05 => flagRecord (haltForGood s p) p e.idx flagPerm
          | _ => (s.setStream c (handlerStream t x.tvec e)).modPart p (fun x => { x with handler := some c, stopClk := Tab.keep (fun i => i ≠ c) x.stopClk })
  else s

/-- An operation resumes from its stop point: its next requests are timed from there (R206, R265). -/
def EngOp.resumed (x : EngOp) (s : State) : EngOp := { x with stopped := false, since := s.clock, limit := timeoutOf s x.part }

/-- Release the halt line: every party resumes from its stop point (R407). -/
def releaseHalt (s : State) (p : Nat) : State :=
  let s := s.modPart p (fun x => { x with halted := false, handler := none, events := [], stoppedAt := [], stopClk := [], owing := [] })
  let s := across (streamsOf s p) (fun i s => s.modStream i (fun t => { t with stopped := false })) s
  let s := across (arraysOf s p) (fun c s => s.modCluster c (fun x => { x with stopped := false })) s
  let s := { s with clusters := s.clusters.map (fun e => (e.1, if ownerOf s e.1 = some p then { e.2 with stopped := false } else e.2)) }
  let s := across (eopsOf s p) (fun e s => s.setEop e.1 (some (e.2.resumed s))) s
  across (streamsOf s p) (fun i s => settle s i) s

/-- RETURN FROM A HANDLER (R407): restore s1 to s31 and the control state, mark the event handled, and either go on to the
next event or release the halt line. resume gives the path that the return moves, as it goes on. -/
def endHandler (s : State) (sid : Nat) (t : Stream) (h : Saved) (resume : Option (Nat × Nat × Path)) : State :=
  let t0 := (t.unscalar 31 h.s h.sp).control h.ctl
  let t1 : Stream := { t0 with lr := h.ctl.lr, hnd := none, stopped := true, hold := none }
  let s := s.setStream sid t1
  let s := match resume with
    | none => s
    | some (w, k, p) => s.modStream w (fun x => if (x.path? k).isSome then x.setPath k (some p) else x)
  let s := flagRecord s t.part h.idx 2
  s.modPart t.part (fun x => { x with
    handler := none, stopClk := Tab.set 0 x.stopClk sid (partyClock s sid),
    events := x.events.map (fun e => if e.seq = h.seq then { e with handled := true } else e) })

/-- After a handler: the next event's handler, or the release (R407); while a watchdog resets the partition the line stays raised (R413). -/
def afterHandler (s : State) (p : Nat) : State :=
  if (s.part p).wdreset.isSome then s
  else match nextEvent (s.part p) with
  | some _ => startHandler s p
  | none => releaseHalt s p

end Sys2Proof.Machine
end

