-- ==== Sys2Proof/Machine/Operands.lean ====
section
/-! DEFINITION. Operand forms (R15 to R17, R34, R76 to R79), the registers an instruction reads and writes (R84 to R89), and
what an issuing instruction sees. -/
namespace Sys2Proof.Machine

/-- How many scalar registers a slot names. -/
def slotWidth : Slot → Nat
  | .gen _ _ _ _ _ _ w => w
  | _ => 1

/-- How many consecutive vector registers field D names (R192). -/
def spanD (op mod : Nat) : Nat := if op = 0x74 || op = 0x75 then (if mod % 4 = 1 then 2 else 4) else 1

/-- The vector register an operand names: the index of an indirect one is a 32-bit sum (R77). -/
def vIndex (t : Stream) : Opnd → Option Nat
  | .v n => some n
  | .vi n off => some (t.sAt n + wd off).toNat
  | _ => none

/-- The registers an operand names. -/
def regsOf (t : Stream) (slot : Slot) (span width : Nat) (x : Opnd) : List Reg :=
  match x with
  | .v n => (List.range span).map (fun i => .v (n + i))
  | .vi n off => (List.range span).map (fun i => .v ((t.sAt n + wd off).toNat + i))
  | .s n => (List.range width).map (fun i => .s (n + i))
  | .f n => if slot = .file .sh then [.sh n] else []
  | _ => []

/-- The scalar that indexes an indirect operand (R77). -/
def baseReg : Opnd → List Reg
  | .vi n _ => [.s n]
  | _ => []

/-- The registers of field D. -/
def regsD (t : Stream) (op : Nat) (r : Row) (o : Opnds) : List Reg :=
  regsOf t r.d (spanD op o.mod) (widthD op o (slotWidth r.d)) o.d

/-- The registers that an instruction reads; every course instruction reads its mask (R97). QBIND only names A (R272). -/
def readsOf (course : Bool) (t : Stream) (op : Nat) (r : Row) (o : Opnds) : List Reg :=
  (if course then [.s 61, .s 62, .s 63] else []) ++ baseReg o.d ++ baseReg o.a ++ baseReg o.b
    ++ (if r.dr then regsD t op r o else [])
    ++ (if op = 0xA1 then [] else regsOf t r.a 1 (widthA op o (slotWidth r.a)) o.a)
    ++ (if r.bw then [] else regsOf t r.b 1 (slotWidth r.b) o.b)
    ++ regsOf t r.c 1 (slotWidth r.c) o.c

/-- The registers that an instruction writes. -/
def writesOf (t : Stream) (op : Nat) (r : Row) (o : Opnds) : List Reg :=
  (if r.dw then regsD t op r o else []) ++ (if r.bw then regsOf t r.b 1 (slotWidth r.b) o.b else [])

/-- Every vector register an instruction names lies below the allocation (R77, R79, R192). -/
def rangeOk (t : Stream) (op : Nat) (o : Opnds) : Bool :=
  let ok (span : Nat) (x : Opnd) : Bool := match vIndex t x with
    | some n => n + span ≤ t.alloc
    | none => true
  ok (spanD op o.mod) o.d && ok 1 o.a && ok 1 o.b && ok 1 o.c

/-- The queue register bound to a vector register (R273). -/
def Stream.boundTo (t : Stream) (n : Nat) : Option Bind :=
  (List.range 16).findSome? (fun q => match t.qAt q with
    | some b => if b.reg = n then some b else none
    | none => none)

/-- A vector register that is bound to a hardware queue. -/
def Stream.bound (t : Stream) : Reg → Bool
  | .v n => (t.boundTo n).isSome
  | _ => false

/-- The destination writes the register. -/
def Dst.covers (d : Dst) (r : Reg) : Bool :=
  match d, r with
  | .v a _ _, .v n => a = n
  | .vs a _ c z, .v n => a + z ≤ n && n < a + c
  | .s a _, .s n => a = n
  | .sp a, .s n => n = a || n = a + 1
  | .sh a, .sh n => a = n
  | _, _ => false

/-- A register has a pending variable-latency write of the path (R87). -/
def busy (s : State) (sid pid : Nat) (rs : List Reg) : Bool :=
  s.ott.any (fun e => match e.2 with
    | some x => x.sid = sid && x.path = pid && !x.drop && !x.gone &&
      x.pieces.any (fun c => rs.any (fun r => c.dst.covers r && !x.q.any (fun q => r = .v q.2.1)))
    | none => false)

/-- A number for a register, by which a free choice is made. -/
def Reg.code : Reg → Nat
  | .v n => 4 * n
  | .s n => 4 * n + 1
  | .sh n => 4 * n + 2

/-- The mask words stand in the scalar file of a course's view (R97). -/
def Stream.withMask (t : Stream) (m : Lanes) : Stream :=
  { t with s := Tab.set 0 (Tab.set 0 (Tab.set 0 t.s 61 (m.beat 0)) 62 (m.beat 1)) 63 (m.beat 2) }

/-- A beat sees the value from before a badly spaced write, where the free choice says so for that write: of several writes of a register, that
from before the earliest so chosen (R89). -/
def stale (fresh b : Nat) (hits : List Pend) (t : Stream) : Stream :=
  across (hits.filter (fun q => !q.done)).reverse.zipIdx (fun q t =>
    if Config.freeBit fresh (4 * (4096 * q.2 + q.1.reg.code) + b) then
      match q.1.reg with
      | .v n => across ((List.range 32).map (fun i => 32 * b + i)) (fun l t =>
          { t with v := Tab.set 0 t.v (96 * n + l) (Tab.get 0 q.1.old l) }) t
      | .s n => { t with s := Tab.set 0 t.s n (Tab.get 0 q.1.old 0) }
      | .sh _ => t
    else t) t

/-- The other path of the course does not see the write yet: for a free number of steps after its issue, the same for every write of one
instruction, and not once a later write of the register has overtaken it (R99, R145). -/
def Pend.hidden (fresh : Nat) (q : Pend) : Bool := !q.passed && decide (fresh < q.born + Config.lag q.born)

/-- The pending writes, in the order of their issue, of which the other path sees neither them nor a later one of the same register. -/
def hiddenWrites (fresh : Nat) : List Pend → List Pend
  | [] => []
  | q :: rest => if (q :: rest).all (fun r => r.reg ≠ q.reg || r.hidden fresh) then q :: hiddenWrites fresh rest else hiddenWrites fresh rest

/-- The course's scalars as a path sees them while writes of the other path are on their way: one that it has seen it goes on seeing, since the
step at which it does is fixed for each write (R99, R145). -/
def crossing (fresh : Nat) (hits : List Pend) (t : Stream) : Stream :=
  across (hiddenWrites fresh hits).reverse (fun q t => match q.reg with
    | .s n => if n < 61 then { t with s := Tab.set 0 t.s n (Tab.get 0 q.old 0) } else t
    | _ => t) t

/-- A path's pending writes of these registers are overtaken by a later write (R99). -/
def Path.overtaken (p : Path) (rs : List Reg) : Path :=
  { p with pend := p.pend.map (fun q => { q with passed := q.passed || rs.contains q.reg }) }

/-- A scalar that a reply has written overtakes the pending writes of the course's other path to it (R99). -/
def Stream.landed (t : Stream) (pid n : Nat) : Stream :=
  let f (p : Path) : Path := if p.id = pid || 61 ≤ n then p else p.overtaken [.s n]
  { t with p0 := t.p0.map f, p1 := t.p1.map f }

/-- A write through one path overtakes the pending writes of the other path to the same scalars (R99). -/
def Stream.overtake (t : Stream) (k : Nat) (rs : List Reg) : Stream :=
  t.setPath (1 - k) ((t.path? (1 - k)).map (fun p => p.overtaken (rs.filter (fun r => match r with
    | .s n => n < 61
    | _ => false))))

/-- What an issuing instruction sees: the state with its queue entries popped, its stream and path, and the stream as each
beat reads it. -/
structure Ctx where
  s : State
  sid : Nat
  k : Nat
  op : Nat
  o : Opnds
  row : Row
  t : Stream
  p : Path
  view : Nat → Stream

namespace Ctx

/-- The issuer is a sequencer. -/
def seq (c : Ctx) : Bool := isSeq c.sid
/-- The issuer as an asker of memory. -/
def who (c : Ctx) : Who := whoOf c.s c.t c.sid
/-- The active lanes (R43, R97): each beat's mask word as that beat reads it. -/
def act (c : Ctx) : Lanes :=
  if c.seq then 0
  else c.t.emCap (Lanes.ofWords ((c.view 0).sAt 61) ((c.view 1).sAt 62) ((c.view 2).sAt 63) &&& c.p.own)
/-- A scalar register as the instruction reads it. -/
def sc (c : Ctx) (n : Nat) : Word := (c.view 0).sAt n
/-- A scalar pair (R34). -/
def pair (c : Ctx) (n : Nat) : Addr := c.sc (n + 1) ++ c.sc n
/-- A scalar pair as a lane's beat reads it (R34, R89). -/
def pairAt (c : Ctx) (n l : Nat) : Addr := (c.view (l / 32)).pairAt n
/-- A mask triple (R34). -/
def triple (c : Ctx) (n : Nat) : Lanes := Lanes.ofWords ((c.view 0).sAt n) ((c.view 1).sAt (n + 1)) ((c.view 2).sAt (n + 2))
/-- A vector register operand's lane; a register of another kind reads as zero. -/
def vec (c : Ctx) (x : Opnd) (l : Nat) : Word :=
  match vIndex (c.view 0) x with
  | some r => (c.view (l / 32)).vAt r l
  | none => 0
/-- A source's word in a lane: vector lane, scalar, sign-extended small immediate or literal (R76, R128). -/
def src (c : Ctx) (x : Opnd) (l : Nat) : Word :=
  match x with
  | .s n => (c.view (l / 32)).sAt n
  | .imm b => b.signExtend 32
  | .lit w => w
  | x => c.vec x l
/-- A uniform source. -/
def uni (c : Ctx) (x : Opnd) : Word := c.src x 0
/-- A scalar operand's register number. -/
def sn : Opnd → Nat
  | .s n => n
  | _ => 0
/-- The number in a field of a named file, or a class mask. -/
def fn : Opnd → Nat
  | .f n => n
  | _ => 0
/-- The 64-bit value of a pair, or an immediate sign-extended (R132). -/
def wide (c : Ctx) (x : Opnd) : Addr :=
  match x with
  | .s n => c.pair n
  | .imm b => b.signExtend 64
  | .lit w => sext64 w
  | _ => 0
/-- The writes of a result: every active lane of a vector D, or one scalar (R98, R128). -/
def res (c : Ctx) (f : Nat → Word) : List Wr :=
  match c.o.d with
  | .s n => [.s n (f 0)]
  | x => match vIndex (c.view 0) x with
    | some r => wrVec r c.act f
    | none => []
/-- The address of the instruction's first word. -/
def pc (c : Ctx) : Addr := c.p.pc
/-- The address of the word after the instruction. -/
def nextPc (c : Ctx) : Addr := c.p.pc + BitVec.ofNat 64 (4 * c.o.words)
/-- The cluster of the issuer. -/
def cl (c : Ctx) : Nat := clusterOf c.sid
/-- The captured mode (R56). -/
def mode (c : Ctx) : Word := c.t.mode
end Ctx

/-- What a meaning does with its instruction. -/
inductive Eff
  /-- Its effects are in the state; these registers are written; it advances. -/
  | ok (s : State) (ws : List Wr)
  /-- Its effects, its transfer of control included, are in the state. -/
  | jump (s : State)
  /-- A trap with its code, fault address and argument; nothing has changed. -/
  | trap (cause : Nat) (addr : Addr) (aux : Word)
  /-- It waits at issue, unissued. -/
  | wait
  /-- It waits at a blocked page from now on: the time counts (R202). -/
  | block
  /-- That time is over: a trap, after which the time counts anew. -/
  | overdue (cause : Nat) (addr : Addr) (aux : Word)
  /-- The open region aborts with a code (R238). -/
  | abort (code : Nat)

end Sys2Proof.Machine
end

