-- ==== Sys2Proof/Machine/Issue.lean ====
section
/-! DEFINITION. The issue of one instruction: waits, the checks of R94 in their order, queue registers (R273), register
writes under the scoreboards (R84 to R89), and the advance to the next instruction (R82). -/
namespace Sys2Proof.Machine

/-- A target offset in words from the instruction (R109). -/
def toffOf : Opnd → Addr
  | .toff t => t.signExtend 64 * 4
  | _ => 0

/-- The two offsets of BRD's literal (R113). -/
def brdOffs : Opnd → Addr × Addr
  | .lit w => ((w.extractLsb' 0 16).signExtend 64 * 4, (w.extractLsb' 16 16).signExtend 64 * 4)
  | _ => (0, 0)

/-- The target of a lane of JARV (R115). -/
def jarvTarget (c : Ctx) (l : Nat) : Addr := c.pc + sext64 (c.vec c.o.a l) * 4

/-- The targets an instruction names, checked before every other check; a nested TRY names none (R94, R242). -/
def targets (c : Ctx) : List Addr :=
  if c.op = 0x01 || c.op = 0x02 || c.op = 0x07 || c.op = 0x0B then [c.pc + toffOf c.o.b]
  else if c.op = 0x90 then (if c.t.inTry then [] else [c.pc + toffOf c.o.b])
  else if c.op = 0x03 then [c.pc + (brdOffs c.o.b).1, c.pc + (brdOffs c.o.b).2]
  else if c.op = 0x04 || c.op = 0x08 then [c.pair (Ctx.sn c.o.a)]
  else if c.op = 0x06 then
    match vIndex (c.view 0) c.o.a with
    | some n => if n < c.t.alloc then c.act.list.map (jarvTarget c) else []
    | none => []
  else []

/-- LOOP's target must have LOOPF (R120). -/
def loopHead (s : State) (w : Who) (va : Addr) : Bool :=
  match codeWord s w (va + 4) with
  | some x => x.getLsbD 13
  | none => true

/-- A page that holds the header LOOP checks is blocked by a PWB: LOOP waits (R120, R202). -/
def loopWaits (c : Ctx) : Bool := c.op = 0x0B && (targets c).any (fun a => unready c.s c.who.part a.toNat 8)

/-- The header that LOOP checks before it writes may not be fetched: the fault of that fetch and its address (R120, R187; DEDUCED, log 69). -/
def loopFault (c : Ctx) : Option (Nat × Addr) :=
  if c.op = 0x0B then (targets c).findSome? (fun (a : Addr) => [a, a + 4].findSome? (fun (b : Addr) => match access c.s c.who Acc.fetch b.toNat 4 1 with
    | .error f => some (f.code, b)
    | .ok _ => none))
  else none

/-- Every target is a header. -/
def targetsOk (c : Ctx) : Bool :=
  (targets c).all (fun a => targetOk c.s c.who a && (c.op ≠ 0x0B || loopHead c.s c.who a))

/-- Opcodes illegal in a handler (R406). -/
def handlerIllegal (op : Nat) : Bool :=
  op = 0x83 || op = 0x84 || op = 0x85 || op = 0x9F || op = 0x9B || op = 0x9C || op = 0x9D || op = 0xD3 || op = 0xD4
    || op = 0xE4 || op = 0x90 || op = 0xDE

/-- Instructions that abort a region by their opcode or modifier (Table 11.3). -/
def tryIllegal (op mod depth : Nat) : Bool :=
  (0x77 ≤ op && op ≤ 0x7A) || op = 0x76 || op = 0x56 || op = 0x7C || op = 0x7D || op = 0x0A
    || ((op = 0x71 || op = 0x73 || op = 0x75) && mod / 16 % 2 = 1)
    || (0x98 ≤ op && op ≤ 0xA3) || (0xCC ≤ op && op ≤ 0xD5) || (0xD8 ≤ op && op ≤ 0xDF) || (0xE4 ≤ op && op ≤ 0xEB)
    || op = 0xF4 || op = 0xF5 || op = 0xF1 || (op = 0x90 && depth = 7)

/-- A source register that the instruction names holds poison in a lane it reads: the path's lanes for the cross-lane class (R169), else the
active lanes (R207). -/
def poisoned (c : Ctx) (reads : List Reg) : Bool :=
  let lanes := if 0x60 ≤ c.op && c.op ≤ 0x6B then c.p.own else c.act
  reads.any (fun r => match r with
    | .v n => lanes.list.any (fun l => Tab.get false c.t.vp (96 * n + l))
    | .s n => if !c.seq && 61 ≤ n then c.p.emp.contains n else n ≠ 0 && Tab.get false c.t.sp n
    | .sh _ => false)

/-- The bound registers among a list, each once, with the hardware queue (R273). -/
def boundRegs (t : Stream) (rs : List Reg) : List (Nat × Nat) :=
  (rs.foldl (fun acc r => match r with
    | .v n => (match t.boundTo n with
      | some b => if acc.contains (n, b.hq) then acc else acc ++ [(n, b.hq)]
      | none => acc)
    | _ => acc) ([] : List (Nat × Nat)))

/-- A hardware queue of a cluster. -/
def hqOf (s : State) (cl h : Nat) : List QEnt := Tab.get [] (s.cluster cl).hq h
/-- Write a hardware queue. -/
def setHq (s : State) (cl h : Nat) (q : List QEnt) : State := s.modCluster cl (fun x => { x with hq := Tab.set [] x.hq h q })

/-- Pop an entry for every bound source; none while a queue holds no filled entry (R273). -/
def popQueues (s : State) (cl : Nat) (t : Stream) : List (Nat × Nat) → Option (State × Stream)
  | [] => some (s, t)
  | (n, h) :: rest => match hqOf s cl h with
    | e :: q => if e.left = 0 then
        popQueues (setHq s cl h q) cl { t with v := Tab.setList 0 t.v (96 * n) ((List.range 96).map (nth 0 e.words)) } rest
      else none
    | [] => none

/-- What an instruction sees with its queue entries popped: JARV's targets stand in them (R115, R273). Where an entry is missing, or cannot be
read, none is known yet, and JARV names no target. -/
def Ctx.popped (c : Ctx) (rq : List (Nat × Nat)) (bad : List Pend) (tm : Stream) : Ctx :=
  if c.op = 0x06 && !rq.isEmpty then
    match popQueues c.s c.cl tm rq with
    | some (_, tv) => if rq.all (fun x => 16 ≤ x.2 && !(hqOf c.s c.cl x.2).head?.any (fun e => e.bad)) then
        { c with view := fun b => stale c.s.fresh b bad tv }
      else { c with op := 0 }
    | none => { c with op := 0 }
  else c

/-- The tile registers that an instruction of the sequencer names as sources. -/
def tilesRead (r : Row) (o : Opnds) : List Nat :=
  let f (slot : Slot) (x : Opnd) : List Nat := match x with
    | .f n => if slot = .file .t then [n] else []
    | _ => []
  (if r.dr then f r.d o.d else []) ++ f r.a o.a ++ f r.b o.b

/-- What comes of an issue turn before the meaning. -/
inductive Gate
  | go (c : Ctx)
  | stay (s : State)
  | nobody

/-- The stream's launch is cancelled: it has reached its last instruction boundary (Table 17.10). -/
def cutOff (s : State) (t : Stream) : Bool := (s.launch? t.launch).any (fun l => l.cancelled)

/-- A stream that is stopped, cancelled, aborts, has ended or is held by its other path takes no instruction; the state after its turn (R239,
R240, R353, R396, R402). -/
def preIssue (s : State) (sid k : Nat) (t : Stream) : Option State :=
  if t.stopped || (t.ended && t.hnd.isNone) then some s
  else if t.hnd.isSome then none
  else if cutOff s t || t.hold.any (fun h => h ≠ k) then some s
  else match t.abort, t.tr with
    | some _, _ => some (finishAbort s sid t)
    | none, some r => if r.ext then some (setAbort s sid ⟨2, 0, 0⟩) else none
    | none, none => none

/-- Every inbound queue has room for an entry of each destination bound to it (R273). -/
def roomFor (s : State) (cl : Nat) (wq : List (Nat × Nat)) : Bool :=
  wq.all (fun y => (hqOf s cl y.2).length + (wq.filter (fun z => z.2 = y.2)).length ≤ 4)

/-- The checks after decoding, in order (R94, R406, R238, R207, R415, R273), and the context of an instruction that passes. The index of
an indirect operand is the value that its badly spaced scalar gives this instruction throughout (R77, R89). Of a poisoned source and one with an
uncorrectable error, POISON_USE is raised (DESIGN CHOICE, log 71). -/
def gate (op : Nat) (o : Opnds) (s : State) : Gate :=
  let sid := s.cur.1
  let k := s.cur.2
  match s.stream? sid with
  | none => .nobody
  | some t => match t.path? k, row (unitOf sid) op o.mod with
    | some p0, some r =>
      match preIssue s sid k t with
      | some s' => .stay s'
      | none =>
        let course := !isSeq sid
        let tm := if course then (match t.path? (1 - k) with
          | some q => (crossing s.fresh q.pend t).withMask p0.em
          | none => t.withMask p0.em) else t
        let early := p0.pend.filter (fun q => p0.slot < q.due)
        let bases := baseReg o.d ++ baseReg o.a ++ baseReg o.b
        let ti := stale s.fresh 0 (early.filter (fun q => bases.contains q.reg)) tm
        let reads := readsOf course ti op r o
        let writes := writesOf ti op r o
        let regs := (reads ++ writes).filter (fun x => !t.bound x)
        let trap (c : Nat) : Gate := .stay (takeTrap s sid k c 0 0)
        if busy s sid p0.id regs then .stay s
        else
          let bad := early.filter (fun q => regs.contains q.reg)
          let c : Ctx := ⟨s, sid, k, op, o, r, t, p0, fun b => stale s.fresh b bad tm⟩
          let rq := boundRegs t reads
          let wq := boundRegs t writes
          if loopWaits c then .stay s
          else if !targetsOk (c.popped rq bad tm) then trap 0x05
          else if (loopFault c).isSome then .stay (takeTrap s sid k ((loopFault c).getD (0, 0)).1 ((loopFault c).getD (0, 0)).2 0)
          else if course && !rangeOk ti op o then trap 0x07
          else if t.schk && !bad.isEmpty then trap 0x04
          else if t.hnd.isSome && (handlerIllegal op || !rq.isEmpty || !wq.isEmpty) then trap 0x42
          else if t.inTry && (tryIllegal op o.mod t.depth || !rq.isEmpty || !wq.isEmpty) then .stay (setAbort s sid ⟨5, 0, 0⟩)
          else if poisoned c ((readsOf false ti op r o).filter (fun x => !t.bound x)) then trap 0x1D
          else if (reads.filter (fun x => !t.bound x)).any t.hwue.contains || rq.any (fun x => (hqOf s c.cl x.2).head?.any (fun e => e.bad))
              || (tilesRead r o).any (s.cluster c.cl).tue.contains then .stay (noteHw (takeTrap s sid k 0x40 0 0) sid)
          else if rq.any (fun x => x.2 < 16 || wq.any (fun y => y.1 = x.1)) || wq.any (fun y => 16 ≤ y.2) then trap 0x26
          else if !roomFor s c.cl wq then .stay s
          else match popQueues s c.cl tm rq with
            | none => .stay s
            | some (s', tv) => .go { c with s := s', view := fun b => stale s.fresh b bad tv }
    | _, _ => .nobody

/-- The badly spaced registers whose earlier writer's value remains (R89). -/
def Ctx.lost (c : Ctx) (writes : List Reg) : List Reg :=
  ((c.p.pend.filter (fun q => c.row.lat ≠ 0 && !q.done && c.p.slot < q.due && writes.contains q.reg)).map (fun q => q.reg)).filter
    (fun r => Config.freeBit c.s.fresh (4 * r.code + 3))

/-- The register a write changes. -/
def Wr.reg : Wr → Reg
  | .v r _ _ => .v r
  | .s n _ => .s n

/-- The value of a register before a write, kept until the write is complete (R89). -/
def oldOf (t : Stream) (p : Path) (seq : Bool) : Reg → Tab Word
  | .v n => (t.v.filter (fun e => 96 * n ≤ e.1 && e.1 < 96 * n + 96)).map (fun e => (e.1 - 96 * n, e.2))
  | .s n => Tab.set 0 [] 0 (if !seq && 61 ≤ n then p.em.beat (n - 61) else t.sAt n)
  | .sh _ => []

/-- The instructions whose vector result comes with a reply; they reserve their queue entries themselves (R273). -/
def replies (op : Nat) : Bool :=
  op = 0x70 || op = 0x74 || op = 0x77 || op = 0x79 || op = 0xCC || op = 0xCE || op = 0xCF

/-- Push the result of a bound destination: each active lane's value and 0 in the other lanes (R273). Of several writes to a lane the last
stands (R172); an active lane that gets no value from XPUT, LWRITE, COMPACT or EXPAND holds 0, a DESIGN CHOICE of log 66. -/
def pushResult (c : Ctx) (ws : List Wr) (s : State) (q : Nat × Nat) : State :=
  let word (l : Nat) : Word := (ws.reverse.findSome? (fun w => match w with
    | .v r l' x => if r = q.1 && l' = l then some x else none
    | .s _ _ => none)).getD 0
  s.modCluster c.cl (fun x => { x with
    nqe := x.nqe + 1,
    hq := Tab.set [] x.hq q.2 (Tab.get [] x.hq q.2 ++ [⟨x.nqe, 0, (List.range 96).map (fun l => if c.act.has l then word l else 0), false⟩]) })

/-- The registers a meaning's instruction writes. -/
def Ctx.written (c : Ctx) : List Reg := writesOf (c.view 0) c.op c.row c.o

/-- The pending writes an instruction leaves: those of latency 2 and more, and beside a second path every scalar write (R85, R99). -/
def pending (c : Ctx) (t : Stream) (p : Path) (kept : List Reg) : List Pend :=
  let rs := if 2 ≤ c.row.lat then kept.filter (fun r => r ≠ .s 0)
    else if c.row.lat = 1 && (t.path? (1 - c.k)).isSome then kept.filter (fun r => match r with
      | .s n => n ≠ 0
      | _ => false)
    else []
  rs.map (fun r => ⟨r, c.p.slot + c.row.lat, oldOf t p c.seq r, false, c.s.fresh, false⟩)

/-- An instruction of the path has not completed for the other path (R99, R151). -/
def FlagPend.open_ (fresh slot : Nat) (e : FlagPend) : Bool := fresh < e.born + Config.lag e.born && e.due.all (fun d => slot < d)

/-- The flags of a path's instructions that are still open; those of the others are sure. -/
def openFlags (fresh slot : Nat) (l : List FlagPend) : List FlagPend :=
  let sure := (l.filter (fun e => !e.open_ fresh slot)).foldl (fun w e => w ||| e.doubt) 0
  (l.filter (fun e => e.open_ fresh slot)).map (fun e => { e with doubt := e.doubt &&& ~~~sure })

/-- The path after an instruction: past its words and its stall slots, which alone count for the spacing (R85). A variable-latency write has
waited for the pending writes of its destination (R87). -/
def advance (c : Ctx) (t : Stream) (p : Path) (kept : List Reg) : Path :=
  let slot := c.p.slot + 1 + c.o.stall
  let past (q : Pend) : Pend := if c.row.lat = 0 && kept.contains q.reg then { q with done := true } else q
  let live := (p.pend.filter (fun q => slot < q.due)).map past ++ pending c t p kept
  { p with pc := c.nextPc, slot := slot, pend := live, fl := openFlags c.s.fresh slot p.fl, wait := none, held := false }

/-- The writes give every lane of a vector register a value. -/
def coversV (ws : List Wr) (n : Nat) : Bool :=
  (List.range 96).all (fun l => ws.any (fun w => match w with
    | .v r l' _ => r = n && l' = l
    | .s _ _ => false))

/-- The instruction writes every word of a register, which ends an error it held (R415, log 25): of a vector register, all lanes are
active, and one that writes only some lanes of those (R172, R179) gives each a value. -/
def Ctx.whole (c : Ctx) (ws : List Wr) : Reg → Bool
  | .v n => c.act = Lanes.all && (c.row.lat = 0 || coversV ws n)
  | _ => true

/-- The end of an instruction that completes: register writes, queue pushes, the advance, and the entry of the next block where
the instruction was the last of its own (R82, R85, R273). A word there that is no header traps BAD_BLOCK, as R82 says, where the list
under R94 would have BAD_TARGET (DEDUCED, log 65). -/
def retire (c : Ctx) (s : State) (ws : List Wr) : State :=
  match s.stream? c.sid with
  | none => s
  | some t => match t.path? c.k with
    | none => s
    | some p =>
      let lost := c.lost c.written
      let kept := c.written.filter (fun r => !lost.contains r && !c.t.bound r)
      let p' := advance c t p kept
      let t0 := { t with hwue := t.hwue.filter (fun r => !(c.written.contains r && c.whole ws r)) }
      let t1 := ((t0.setPath c.k (some p')).overtake c.k kept).putAll c.seq c.k
        (ws.filter (fun w => !lost.contains w.reg && !c.t.bound w.reg))
      let s1 := s.setStream c.sid t1
      let s2 := if replies c.op then s1 else (boundRegs c.t c.written).foldl (pushResult c ws) s1
      if p'.pc.toNat = p.hdr.toNat + 4 * p.blk.length then enterHeader s2 c.sid c.k 0x06 true p'.pc else s2

/-- Carry out what a meaning answers. -/
def finish (c : Ctx) (s0 : State) : Eff → State
  | .ok s ws => retire c s ws
  | .jump s => s
  | .trap cause addr aux => takeTrap s0 c.sid c.k cause addr aux
  | .wait => s0
  | .block => waiting s0 (some (.since s0.clock))
  | .overdue cause addr aux => takeTrap (waiting s0 none) c.sid c.k cause addr aux
  | .abort code => setAbort s0 c.sid ⟨code, 0, 0⟩
where
  /-- What the path's instruction holds while it waits. -/
  waiting (s : State) (w : Option Waiting) : State := s.modStream c.sid (fun t => t.setPath c.k (some { c.p with wait := w }))

/-- Issue an instruction for the current path and carry out its meaning. -/
def issue (op : Nat) (o : Opnds) (s : State) (body : Ctx → Eff) : Host.Outcome State Fault Refusal :=
  match gate op o s with
  | .go c => .next (finish c s (body c))
  | .stay s' => .next s'
  | .nobody => .fault .noIssuer

end Sys2Proof.Machine
end

