-- ==== Sys2Proof/Machine/Integer.lean ====
section
/-! DEFINITION. Integer and address instructions (R128 to R145). -/
namespace Sys2Proof.Machine

/-- IADD and ISUB on words: wrap, .SAT, .USAT (R132). -/
def addSub (sub : Bool) (mod : Nat) (a b : Word) : Word :=
  let op (x y : Int) : Int := if sub then x - y else x + y
  match mod with
  | 1 => BitVec.ofInt 32 (min (max (op a.toInt b.toInt) (-2 ^ 31)) (2 ^ 31 - 1))
  | 2 => BitVec.ofInt 32 (min (max (op a.toNat b.toNat) 0) (2 ^ 32 - 1))
  | _ => if sub then a - b else a + b

/-- The 24-bit value of a word, extended (R133). -/
def low24 (unsigned : Bool) (a : Word) : Word :=
  if unsigned then (a.extractLsb' 0 24).setWidth 32 else (a.extractLsb' 0 24).signExtend 32

/-- IMUL24 (R133). -/
def mul24 (unsigned : Bool) (a b : Word) : Word := low24 unsigned a * low24 unsigned b

/-- IMULH32 (R134). -/
def mulHigh (unsigned : Bool) (a b : Word) : Word :=
  if unsigned then wd (a.toNat * b.toNat / 2 ^ 32)
  else BitVec.ofInt 32 ((a.toInt * b.toInt) / 2 ^ 32)

/-- IMIN and IMAX (R135). -/
def minMax (big unsigned : Bool) (a b : Word) : Word :=
  let less := if unsigned then decide (a.toNat < b.toNat) else decide (a.toInt < b.toInt)
  if less = big then b else a

/-- The conditions of Table 6.2. -/
def cmpHolds (mod : Nat) (a b : Word) : Bool :=
  match mod with
  | 0 => a.toInt < b.toInt
  | 1 => a.toInt ≤ b.toInt
  | 2 => b.toInt < a.toInt
  | 3 => b.toInt ≤ a.toInt
  | 4 => a = b
  | 5 => a ≠ b
  | 6 => a.toNat < b.toNat
  | 7 => a.toNat ≤ b.toNat
  | 8 => b.toNat < a.toNat
  | _ => b.toNat ≤ a.toNat

/-- SHL (R137). -/
def shl (a b : Word) : Word := if b.toNat < 32 then a <<< b.toNat else 0
/-- SHR (R137). -/
def shr (a b : Word) : Word := if b.toNat < 32 then a >>> b.toNat else 0
/-- SAR (R137). -/
def sar (a b : Word) : Word := a.sshiftRight (min b.toNat 32)
/-- ROT (R137). -/
def rot (right : Bool) (a b : Word) : Word :=
  if right then a.rotateRight (b.toNat % 32) else a.rotateLeft (b.toNat % 32)

/-- The mask of a field length (R138). -/
def fieldMask (n : Nat) : Nat := 2 ^ n - 1

/-- BFX (R138). -/
def bfx (signed : Bool) (a b c : Word) : Word :=
  let n := min c.toNat 32
  let f := a.toNat / 2 ^ min b.toNat 32 % 2 ^ n
  if signed && n ≠ 0 && 2 ^ (n - 1) ≤ f then BitVec.ofInt 32 ((f : Int) - 2 ^ n) else wd f

/-- BFI (R138). -/
def bfi (d a b c : Word) : Word :=
  let p := min b.toNat 32
  let n := min c.toNat 32
  (d &&& ~~~(wd (fieldMask n * 2 ^ p))) ||| wd (a.toNat % 2 ^ n * 2 ^ p)

/-- The number of set bits of a word (R139). -/
def popc (a : Word) : Word := wd ((List.range 32).filter (fun i => a.getLsbD i)).length

/-- The zero bits above the highest set bit (R139). -/
def clz (a : Word) : Word :=
  wd (32 - ((List.range 32).filter (fun i => a.getLsbD i)).foldl (fun _ i => i + 1) 0)

/-- The width of an integer type of CVTI (R143). -/
def cvtiWidth (ty : Nat) : Nat := if ty % 3 = 0 then 8 else if ty % 3 = 1 then 16 else 32

/-- CVTI (R143). -/
def cvti (mod : Nat) (a : Word) : Word :=
  let st := mod / 8 % 8
  let dt := mod % 8
  let ws := cvtiWidth st
  let wdt := cvtiWidth dt
  let low : Int := a.toNat % 2 ^ ws
  let v : Int := if st < 3 && 2 ^ (ws - 1) ≤ a.toNat % 2 ^ ws then low - 2 ^ ws else low
  let f : Int :=
    if mod / 64 % 2 = 1 then v
    else if dt < 3 then min (max v (-2 ^ (wdt - 1))) (2 ^ (wdt - 1) - 1)
    else min (max v 0) (2 ^ wdt - 1)
  let r : Int := f % 2 ^ wdt
  BitVec.ofInt 32 (if dt < 3 && 2 ^ (wdt - 1) ≤ r then r - 2 ^ wdt else r)

/-- One step of the CRC register (R144). -/
def crcBit (poly : Word) : Nat → Word → Word
  | 0, c => c
  | n + 1, c => crcBit poly n (if c.getLsbD 0 then (c >>> 1) ^^^ poly else c >>> 1)

/-- CRC over the bytes of a word (R144). -/
def crc (mod : Nat) (a b : Word) : Word :=
  let poly : Word := if mod % 2 = 0 then 0x82F63B78 else 0xEDB88320
  (List.range (2 ^ (mod / 2))).foldl (fun c i => crcBit poly 8 (c ^^^ (b.extractLsb' (8 * i) 8).setWidth 32)) a

/-- ADDR's vector form (R142). -/
def addrV (mod : Nat) (a b c : Word) : Word := (a <<< (mod % 4)) + b + c
/-- ADDR's scalar form (R142). -/
def addrS (mod : Nat) (a : Addr) (b c : Word) : Addr :=
  a + ((if mod / 4 % 2 = 1 then zext64 b else sext64 b) <<< (mod % 4)) + sext64 c

/-- An instruction of one source per lane. -/
def int1 (op : Nat) (o : Opnds) (f : Word → Word) (s : State) : Host.Outcome State Fault Refusal :=
  issue op o s (fun c => .ok c.s (c.res (fun l => f (c.src o.a l))))
/-- An instruction of two sources per lane. -/
def int2 (op : Nat) (o : Opnds) (f : Word → Word → Word) (s : State) : Host.Outcome State Fault Refusal :=
  issue op o s (fun c => .ok c.s (c.res (fun l => f (c.src o.a l) (c.src o.b l))))
/-- An instruction of three sources per lane. -/
def int3 (op : Nat) (o : Opnds) (f : Word → Word → Word → Word) (s : State) : Host.Outcome State Fault Refusal :=
  issue op o s (fun c => .ok c.s (c.res (fun l => f (c.src o.a l) (c.src o.b l) (c.src o.c l))))

/-- IADD and ISUB, the .X64 form included (R132). -/
def addSubMeaning (op : Nat) (sub : Bool) (o : Opnds) (s : State) : Host.Outcome State Fault Refusal :=
  if o.mod = 3 then
    issue op o s (fun c => .ok c.s (wrPair (Ctx.sn o.d) (if sub then c.wide o.a - c.wide o.b else c.wide o.a + c.wide o.b)))
  else int2 op o (addSub sub o.mod) s

/-- The mask of the active lanes in which a test holds. -/
def Ctx.maskOf (c : Ctx) (f : Nat → Bool) : Lanes :=
  c.act.list.foldl (fun m l => if f l then m ||| Lanes.one l else m) 0

/-- A compare into a mask triple or a scalar (R136, R154). -/
def compareMeaning (op : Nat) (o : Opnds) (f : Word → Word → Bool) (s : State) : Host.Outcome State Fault Refusal :=
  issue op o s (fun c =>
    if isVec o.a then .ok c.s (wrTriple (Ctx.sn o.d) (c.maskOf (fun l => f (c.src o.a l) (c.src o.b l))))
    else .ok c.s [.s (Ctx.sn o.d) (if f (c.uni o.a) (c.uni o.b) then 1 else 0)])

/-- IADD (R132). -/
def execIadd32 (o : Opnds) (s : State) : Host.Outcome State Fault Refusal := addSubMeaning 0x20 false o s

/-- IADD (R132). -/
def execIadd (o : Opnds) (s : State) : Host.Outcome State Fault Refusal := addSubMeaning 0x20 false o s

/-- ISUB (R132). -/
def execIsub32 (o : Opnds) (s : State) : Host.Outcome State Fault Refusal := addSubMeaning 0x21 true o s

/-- ISUB (R132). -/
def execIsub (o : Opnds) (s : State) : Host.Outcome State Fault Refusal := addSubMeaning 0x21 true o s

/-- IMUL24 (R133). -/
def execImul2432 (o : Opnds) (s : State) : Host.Outcome State Fault Refusal := int2 0x22 o (mul24 (o.mod = 1)) s

/-- IMUL24 (R133). -/
def execImul24 (o : Opnds) (s : State) : Host.Outcome State Fault Refusal := int2 0x22 o (mul24 (o.mod = 1)) s

/-- IMAD24 (R133). -/
def execImad24 (o : Opnds) (s : State) : Host.Outcome State Fault Refusal := int3 0x23 o (fun a b c => mul24 (o.mod = 1) a b + c) s

/-- IMUL32 (R134). -/
def execImul3232 (o : Opnds) (s : State) : Host.Outcome State Fault Refusal := int2 0x24 o (fun a b => a * b) s

/-- IMUL32 (R134). -/
def execImul32 (o : Opnds) (s : State) : Host.Outcome State Fault Refusal := int2 0x24 o (fun a b => a * b) s

/-- IMULH32 (R134). -/
def execImulh3232 (o : Opnds) (s : State) : Host.Outcome State Fault Refusal := int2 0x25 o (mulHigh (o.mod = 1)) s

/-- IMULH32 (R134). -/
def execImulh32 (o : Opnds) (s : State) : Host.Outcome State Fault Refusal := int2 0x25 o (mulHigh (o.mod = 1)) s

/-- IMIN (R135). -/
def execImin32 (o : Opnds) (s : State) : Host.Outcome State Fault Refusal := int2 0x26 o (minMax false (o.mod = 1)) s

/-- IMIN (R135). -/
def execImin (o : Opnds) (s : State) : Host.Outcome State Fault Refusal := int2 0x26 o (minMax false (o.mod = 1)) s

/-- IMAX (R135). -/
def execImax32 (o : Opnds) (s : State) : Host.Outcome State Fault Refusal := int2 0x27 o (minMax true (o.mod = 1)) s

/-- IMAX (R135). -/
def execImax (o : Opnds) (s : State) : Host.Outcome State Fault Refusal := int2 0x27 o (minMax true (o.mod = 1)) s

/-- ICMP (R136). -/
def execIcmp32 (o : Opnds) (s : State) : Host.Outcome State Fault Refusal := compareMeaning 0x28 o (cmpHolds o.mod) s

/-- ICMP (R136). -/
def execIcmp (o : Opnds) (s : State) : Host.Outcome State Fault Refusal := compareMeaning 0x28 o (cmpHolds o.mod) s

/-- AND (R137). -/
def execAnd32 (o : Opnds) (s : State) : Host.Outcome State Fault Refusal := int2 0x29 o (fun a b => a &&& b) s

/-- AND (R137). -/
def execAnd (o : Opnds) (s : State) : Host.Outcome State Fault Refusal := int2 0x29 o (fun a b => a &&& b) s

/-- OR (R137). -/
def execOr32 (o : Opnds) (s : State) : Host.Outcome State Fault Refusal := int2 0x2A o (fun a b => a ||| b) s

/-- OR (R137). -/
def execOr (o : Opnds) (s : State) : Host.Outcome State Fault Refusal := int2 0x2A o (fun a b => a ||| b) s

/-- XOR (R137). -/
def execXor32 (o : Opnds) (s : State) : Host.Outcome State Fault Refusal := int2 0x2B o (fun a b => a ^^^ b) s

/-- XOR (R137). -/
def execXor (o : Opnds) (s : State) : Host.Outcome State Fault Refusal := int2 0x2B o (fun a b => a ^^^ b) s

/-- SHL (R137). -/
def execShl32 (o : Opnds) (s : State) : Host.Outcome State Fault Refusal := int2 0x2C o shl s

/-- SHL (R137). -/
def execShl (o : Opnds) (s : State) : Host.Outcome State Fault Refusal := int2 0x2C o shl s

/-- SHR (R137). -/
def execShr32 (o : Opnds) (s : State) : Host.Outcome State Fault Refusal := int2 0x2D o shr s

/-- SHR (R137). -/
def execShr (o : Opnds) (s : State) : Host.Outcome State Fault Refusal := int2 0x2D o shr s

/-- SAR (R137). -/
def execSar32 (o : Opnds) (s : State) : Host.Outcome State Fault Refusal := int2 0x2E o sar s

/-- SAR (R137). -/
def execSar (o : Opnds) (s : State) : Host.Outcome State Fault Refusal := int2 0x2E o sar s

/-- ROT (R137). -/
def execRot32 (o : Opnds) (s : State) : Host.Outcome State Fault Refusal := int2 0x2F o (rot (o.mod = 1)) s

/-- ROT (R137). -/
def execRot (o : Opnds) (s : State) : Host.Outcome State Fault Refusal := int2 0x2F o (rot (o.mod = 1)) s

/-- BFX (R138). -/
def execBfx (o : Opnds) (s : State) : Host.Outcome State Fault Refusal := int3 0x30 o (bfx (o.mod = 1)) s

/-- BFI, which reads D (R138). -/
def execBfi (o : Opnds) (s : State) : Host.Outcome State Fault Refusal := 
  issue 0x31 o s (fun c => .ok c.s (c.res (fun l => bfi (c.src o.d l) (c.src o.a l) (c.src o.b l) (c.src o.c l))))

/-- POPC (R139). -/
def execPopc32 (o : Opnds) (s : State) : Host.Outcome State Fault Refusal := int1 0x32 o popc s

/-- POPC (R139). -/
def execPopc (o : Opnds) (s : State) : Host.Outcome State Fault Refusal := int1 0x32 o popc s

/-- CLZ (R139). -/
def execClz32 (o : Opnds) (s : State) : Host.Outcome State Fault Refusal := int1 0x33 o clz s

/-- CLZ (R139). -/
def execClz (o : Opnds) (s : State) : Host.Outcome State Fault Refusal := int1 0x33 o clz s

/-- SEL: a triple chooses per lane, a scalar once (R140). -/
def execSel (o : Opnds) (s : State) : Host.Outcome State Fault Refusal := 
  issue 0x34 o s (fun c =>
    let pick (l : Nat) : Bool := if isVec o.d then (c.triple (Ctx.sn o.a)).has l else c.uni o.a ≠ 0
    .ok c.s (c.res (fun l => if pick l then c.src o.b l else c.src o.c l)))

/-- MOV (R141). -/
def execMov32 (o : Opnds) (s : State) : Host.Outcome State Fault Refusal := int1 0x35 o (fun a => a) s

/-- MOV (R141). -/
def execMov (o : Opnds) (s : State) : Host.Outcome State Fault Refusal := int1 0x35 o (fun a => a) s

/-- MOVI (R141). -/
def execMovi (o : Opnds) (s : State) : Host.Outcome State Fault Refusal := int1 0x36 o (fun a => a) s

/-- ADDR (R142). -/
def execAddr (o : Opnds) (s : State) : Host.Outcome State Fault Refusal := 
  if isVec o.d then int3 0x37 o (addrV o.mod) s
  else issue 0x37 o s (fun c => .ok c.s (wrPair (Ctx.sn o.d) (addrS o.mod (c.wide o.a) (c.uni o.b) (c.uni o.c))))

/-- CVTI (R143). -/
def execCvti (o : Opnds) (s : State) : Host.Outcome State Fault Refusal := int1 0x38 o (cvti o.mod) s

/-- CRC (R144). -/
def execCrc32 (o : Opnds) (s : State) : Host.Outcome State Fault Refusal := int2 0x39 o (crc o.mod) s

/-- CRC (R144). -/
def execCrc (o : Opnds) (s : State) : Host.Outcome State Fault Refusal := int2 0x39 o (crc o.mod) s

end Sys2Proof.Machine
end

