-- ==== Sys2Proof/Machine/Float.lean ====
section
/-! DEFINITION. Floating-point, conversion and mode instructions (R146 to R162). UPDM stands with the memory instructions. -/
namespace Sys2Proof.Machine

/-- A small immediate in a float format (R76, R146). -/
def immBits (f : Fmt) (b : BitVec 6) : Nat := (f.round 0 false (Num.ofInt b.toInt)).1

/-- A float source's bits in a lane (R147). -/
def Ctx.srcF (c : Ctx) (f : Fmt) (x : Opnd) (l : Nat) : Nat :=
  match x with
  | .imm b => immBits f b
  | x => (c.src x l).toNat % 2 ^ (f.sb + 1)

/-- A float source as a value, under the captured DAZ (R53, R54). -/
def Ctx.numF (c : Ctx) (f : Fmt) (x : Opnd) (l : Nat) : Num := f.num (dazOf c.mode) (c.srcF f x l)

/-- The lanes whose results count: the active lanes of a vector D, or the one computation of a scalar D (R146, R150). -/
def Ctx.lanes (c : Ctx) : List Nat := if isSc c.o.d && !isVec c.o.a then [0] else c.act.list

/-- The flags that some of a list of instructions set. -/
def flagsOf (f : FlagPend → Word) (l : List FlagPend) : Word := l.foldl (fun w e => w ||| f e) 0

/-- Set exception flags (R149). While the course has a second path, the flags of an instruction that may not have completed are kept: in doubt
are those that were not set before, or only by instructions of this path in that state (R151). -/
def Stream.raise (t : Stream) (k : Nat) (due : Option Nat) (born : Nat) (w : Word) : Stream :=
  let t1 := { t with fpflags := t.fpflags ||| w }
  match t.path? k, t.path? (1 - k) with
  | some p, some q =>
    let doubt := w &&& ~~~(t.fpflags &&& ~~~(flagsOf FlagPend.doubt p.fl))
    (t1.setPath k (some { p with fl := p.fl ++ [⟨due, w, doubt, born⟩] })).setPath (1 - k)
      (some { q with fl := q.fl.map (fun e => { e with doubt := e.doubt &&& ~~~w }) })
  | _, _ => t1
/-- An instruction sets flags (R150). -/
def setFlags (c : Ctx) (s : State) (w : Word) : State :=
  s.modStream c.sid (fun t => t.raise c.k (if c.row.lat = 0 then none else some (c.p.slot + c.row.lat)) c.s.fresh w)

/-- The instructions of the other path that have not completed for FFLAG: each completes at a free step after its issue, and by the slot of
its latency (R99, R151, log 27). -/
def Ctx.unseen (c : Ctx) : List FlagPend :=
  match c.t.path? (1 - c.k) with
  | none => []
  | some q => openFlags c.s.fresh q.slot q.fl

/-- The flags that FFLAG excludes. -/
def Ctx.hiddenFlags (c : Ctx) : Word := flagsOf FlagPend.doubt c.unseen

/-- FFLAG; .CLR reads and clears as one step, and what an instruction that has not completed sets stays set (R151). The path's own
instructions have completed. -/
def fflagMeaning (c : Ctx) : Eff :=
  let done (t : Stream) : Stream := t.setPath c.k ((t.path? c.k).map (fun p => { p with fl := [] }))
  let clear (t : Stream) : Stream := ({ t with fpflags := flagsOf FlagPend.w c.unseen } : Stream).setPath (1 - c.k)
    ((t.path? (1 - c.k)).map (fun q => { q with fl := c.unseen.map (fun e => { e with doubt := e.w }) }))
  .ok (c.s.modStream c.sid (fun t => if c.o.mod = 1 then done (clear t) else done t)) [.s (Ctx.sn c.o.d) (c.t.fpflags &&& ~~~c.hiddenFlags)]

/-- A result with flags per lane. -/
def Ctx.resF (c : Ctx) (f : Nat → Word × Word) : Eff :=
  .ok (setFlags c c.s (c.lanes.foldl (fun w l => w ||| (f l).2) 0)) (c.res (fun l => (f l).1))

/-- A rounded result as a word (R147). -/
def toWord (r : Nat × Word) : Word × Word := (wd r.1, r.2)

/-- FADD, FSUB (R152). -/
def faddOf (mode : Word) (f : Fmt) (x y : Num) : Word × Word :=
  toWord (f.round (rmOf mode) (ftzOf mode) (sumNum (rmOf mode = 2) [x, y]))
/-- FMUL (R152). -/
def fmulOf (mode : Word) (f : Fmt) (x y : Num) : Word × Word := toWord (f.round (rmOf mode) (ftzOf mode) (mulNum x y))
/-- FFMA (R152): an invalid product stands whatever C is. -/
def ffmaOf (mode : Word) (f : Fmt) (x y z : Num) : Word × Word :=
  let p := mulNum x y
  toWord (f.round (rmOf mode) (ftzOf mode) (if p = .nan true then p else sumNum (rmOf mode = 2) [p, z]))

/-- A source as FMIN and FMAX return it: a subnormal that DAZ read as zero is zero of its sign (R153). -/
def asRead (f : Fmt) (daz : Bool) (w : Nat) : Nat := if (f.num daz w).isZero then f.sign (f.num daz w).isNeg else w

/-- FMIN and FMAX (R153). -/
def fminmaxOf (big : Bool) (mode : Word) (f : Fmt) (a b : Nat) : Word × Word :=
  let daz := dazOf mode
  let x := f.num daz a
  let y := f.num daz b
  let nv : Word := if x = .nan true || y = .nan true then flNV else 0
  let r :=
    if x.isNan && y.isNan then f.qnan
    else if x.isNan then asRead f daz b
    else if y.isNan then asRead f daz a
    else
      let less := if x.isZero && y.isZero then x.isNeg && !y.isNeg else x.less y
      if less = big then asRead f daz b else asRead f daz a
  (wd r, nv)

/-- FCMP's condition and flag (R154, Table 7.3). -/
def fcmpOf (cond : Nat) (x y : Num) : Bool × Word :=
  let un := x.isNan || y.isNan
  let nv : Word := if x = .nan true || y = .nan true || (un && cond < 4) then flNV else 0
  let r := match cond with
    | 0 => !un && x.less y
    | 1 => !un && !y.less x
    | 2 => !un && y.less x
    | 3 => !un && !x.less y
    | 4 => !un && !x.less y && !y.less x
    | 5 => un || x.less y || y.less x
    | 6 => un
    | _ => !un
  (r, nv)

/-- FCMP (R154). -/
def fcmpMeaning (c : Ctx) : Eff :=
  let f := fmtOf (c.o.mod / 8)
  let r (l : Nat) : Bool × Word := fcmpOf (c.o.mod % 8) (c.numF f c.o.a l) (c.numF f c.o.b l)
  let s := setFlags c c.s (c.lanes.foldl (fun w l => w ||| (r l).2) 0)
  if isVec c.o.a then .ok s (wrTriple (Ctx.sn c.o.d) (c.maskOf (fun l => (r l).1)))
  else .ok s [.s (Ctx.sn c.o.d) (if (r 0).1 then 1 else 0)]

/-- FCLASS, without DAZ (R155). -/
def fclassOf (f : Fmt) (w : Nat) : Word :=
  match f.num false w with
  | .inf neg => if neg then 1 else 128
  | .nan bad => if bad then 256 else 512
  | .fin neg m _ =>
    if m = 0 then (if neg then 8 else 16)
    else if m < 2 ^ f.fb then (if neg then 4 else 32)
    else (if neg then 2 else 64)

/-- FSGN (R156). -/
def fsgnOf (op : Nat) (f : Fmt) (a b : Nat) : Word :=
  let sa := a / 2 ^ f.sb % 2
  let sb := b / 2 ^ f.sb % 2
  let s := match op with
    | 0 => 0
    | 1 => 1 - sa
    | 2 => sb
    | _ => (sa + sb) % 2
  wd (a % 2 ^ f.sb + s * 2 ^ f.sb)

/-- The special functions by opcode (R157, Table 7.4). -/
def specialOf (op : Nat) (mode : Word) (x : Num) : Word × Word :=
  let ftz := ftzOf mode
  let qnan (bad : Bool) : Word × Word := (wd f32.qnan, if bad then flNV else 0)
  let infinity (neg : Bool) (fl : Word) : Word × Word := (wd (f32.sign neg + f32.infBits), fl)
  match x with
  | .nan bad => qnan bad
  | x => toWordOr (match op with
    | 0x49 => .inl (f32.quotient ftz (.fin false 1 0) x)
    | 0x4A => match x with
      | .fin n 0 _ => .inr (infinity n flDZ)
      | .fin true _ _ => .inr (qnan true)
      | .fin false m e => .inl (f32.rsqrt ftz m e)
      | .inf true => .inr (qnan true)
      | _ => .inr (0, 0)
    | 0x4B => match x with
      | .fin n 0 _ => .inl (f32.sign n, 0)
      | .fin true _ _ => .inr (qnan true)
      | .fin false m e => .inl (f32.sqrt ftz m e)
      | .inf true => .inr (qnan true)
      | _ => .inr (infinity false 0)
    | 0x4C => match x with
      | .fin n m e => .inl (exp2Num ftz n m e)
      | .inf true => .inr (0, 0)
      | _ => .inr (infinity false 0)
    | 0x4D => match x with
      | .fin _ 0 _ => .inr (infinity true flDZ)
      | .fin true _ _ => .inr (qnan true)
      | .fin false m e => .inl (log2Num ftz m e)
      | .inf true => .inr (qnan true)
      | _ => .inr (infinity false 0)
    | _ => match x with
      | .fin n m e => .inl (trigNum (op = 0x4F) ftz n m e)
      | _ => .inr (qnan true))
where
  /-- A rounded result or a given one. -/
  toWordOr : (Nat × Word) ⊕ (Word × Word) → Word × Word
    | .inl r => toWord r
    | .inr r => r

/-- A special function. -/
def specialMeaning (op : Nat) (o : Opnds) (s : State) : Host.Outcome State Fault Refusal :=
  issue op o s (fun c => c.resF (fun l => specialOf op c.mode (c.numF f32 o.a l)))

/-- The width and signedness of an integer type code of FCVT (R158). -/
def fcvtInt (ty : Nat) : Nat × Bool := (if ty % 3 = 0 then 8 else if ty % 3 = 1 then 16 else 32, ty < 6)

/-- FCVT (R158): a is the source word, x the float source. -/
def fcvtOf (mod : Nat) (mode : Word) (a : Word) (x : Num) : Word × Word :=
  let dt := mod / 16
  let st := mod % 16
  let rm := rmOf mode
  let ftz := ftzOf mode
  if 3 ≤ st then
    let (w, signed) := fcvtInt st
    let low := a.toNat % 2 ^ w
    toWord ((fmtOf dt).round rm ftz (Num.ofInt (if signed && 2 ^ (w - 1) ≤ low then (low : Int) - 2 ^ w else low)))
  else if dt < 3 then toWord ((fmtOf dt).round rm ftz x)
  else
    let (w, signed) := fcvtInt dt
    let r := if signed then toIntNum rm (-2 ^ (w - 1)) (2 ^ (w - 1) - 1) x else toIntNum rm 0 (2 ^ w - 1) x
    (BitVec.ofInt 32 r.1, r.2)

/-- BXPACK (R160). -/
def bxpackMeaning (c : Ctx) : Eff :=
  let bx4 := c.o.mod % 2 = 1
  let block (b : Nat) := bxPack bx4 (c.o.mod / 2 % 8 + 1) ((List.range 32).map (fun i =>
    if c.act.has (32 * b + i) then c.numF f32 c.o.a (32 * b + i) else .fin false 0 0))
  let b0 := block 0
  let b1 := block 1
  let b2 := block 2
  let n := Ctx.sn c.o.b
  let ex (b : List Nat × Nat × Nat) : Word := wd (b.2.1 + 256 * b.2.2)
  .ok c.s (c.res (fun l => wd (nth 0 (if l < 32 then b0.1 else if l < 64 then b1.1 else b2.1) (l % 32)))
    ++ [.s n (ex b0), .s (n + 1) (ex b1), .s (n + 2) (ex b2)])

/-- BXUNPK (R161). -/
def bxunpkMeaning (c : Ctx) : Eff :=
  .ok c.s (c.res (fun l =>
    let x := (c.view (l / 32)).sAt (Ctx.sn c.o.b + l / 32)
    bxUnpack c.mode (c.o.mod = 1) (c.vec c.o.a l).toNat (bits x.toNat 0 8) (bits x.toNat 8 8)))

/-- A float operation of two sources. -/
def flt2 (op : Nat) (o : Opnds) (f : Word → Fmt → Num → Num → Word × Word) (s : State) : Host.Outcome State Fault Refusal :=
  issue op o s (fun c => c.resF (fun l => f c.mode (fmtOf o.mod) (c.numF (fmtOf o.mod) o.a l) (c.numF (fmtOf o.mod) o.b l)))

/-- FADD (R152). -/
def execFadd32 (o : Opnds) (s : State) : Host.Outcome State Fault Refusal := flt2 0x40 o faddOf s

/-- FADD (R152). -/
def execFadd (o : Opnds) (s : State) : Host.Outcome State Fault Refusal := flt2 0x40 o faddOf s

/-- FSUB (R152). -/
def execFsub32 (o : Opnds) (s : State) : Host.Outcome State Fault Refusal := flt2 0x41 o (fun m f x y => faddOf m f x y.neg) s

/-- FSUB (R152). -/
def execFsub (o : Opnds) (s : State) : Host.Outcome State Fault Refusal := flt2 0x41 o (fun m f x y => faddOf m f x y.neg) s

/-- FMUL (R152). -/
def execFmul32 (o : Opnds) (s : State) : Host.Outcome State Fault Refusal := flt2 0x42 o fmulOf s

/-- FMUL (R152). -/
def execFmul (o : Opnds) (s : State) : Host.Outcome State Fault Refusal := flt2 0x42 o fmulOf s

/-- FFMA (R152). -/
def execFfma (o : Opnds) (s : State) : Host.Outcome State Fault Refusal := 
  issue 0x43 o s (fun c =>
    let f := fmtOf o.mod
    c.resF (fun l => ffmaOf c.mode f (c.numF f o.a l) (c.numF f o.b l) (c.numF f o.c l)))

/-- FMIN (R153). -/
def execFmin32 (o : Opnds) (s : State) : Host.Outcome State Fault Refusal := 
  issue 0x44 o s (fun c =>
    let f := fmtOf o.mod
    c.resF (fun l => fminmaxOf false c.mode f (c.srcF f o.a l) (c.srcF f o.b l)))

/-- FMIN (R153). -/
def execFmin (o : Opnds) (s : State) : Host.Outcome State Fault Refusal := 
  issue 0x44 o s (fun c =>
    let f := fmtOf o.mod
    c.resF (fun l => fminmaxOf false c.mode f (c.srcF f o.a l) (c.srcF f o.b l)))

/-- FMAX (R153). -/
def execFmax32 (o : Opnds) (s : State) : Host.Outcome State Fault Refusal := 
  issue 0x45 o s (fun c =>
    let f := fmtOf o.mod
    c.resF (fun l => fminmaxOf true c.mode f (c.srcF f o.a l) (c.srcF f o.b l)))

/-- FMAX (R153). -/
def execFmax (o : Opnds) (s : State) : Host.Outcome State Fault Refusal := 
  issue 0x45 o s (fun c =>
    let f := fmtOf o.mod
    c.resF (fun l => fminmaxOf true c.mode f (c.srcF f o.a l) (c.srcF f o.b l)))

/-- FCMP (R154). -/
def execFcmp32 (o : Opnds) (s : State) : Host.Outcome State Fault Refusal := issue 0x46 o s fcmpMeaning

/-- FCMP (R154). -/
def execFcmp (o : Opnds) (s : State) : Host.Outcome State Fault Refusal := issue 0x46 o s fcmpMeaning

/-- FCLASS (R155). -/
def execFclass32 (o : Opnds) (s : State) : Host.Outcome State Fault Refusal := issue 0x47 o s (fun c => .ok c.s (c.res (fun l => fclassOf (fmtOf o.mod) (c.srcF (fmtOf o.mod) o.a l))))

/-- FCLASS (R155). -/
def execFclass (o : Opnds) (s : State) : Host.Outcome State Fault Refusal := issue 0x47 o s (fun c => .ok c.s (c.res (fun l => fclassOf (fmtOf o.mod) (c.srcF (fmtOf o.mod) o.a l))))

/-- FSGN (R156). -/
def execFsgn32 (o : Opnds) (s : State) : Host.Outcome State Fault Refusal := 
  issue 0x48 o s (fun c =>
    let f := fmtOf (o.mod / 4)
    .ok c.s (c.res (fun l => fsgnOf (o.mod % 4) f (c.srcF f o.a l) (c.srcF f o.b l))))

/-- FSGN (R156). -/
def execFsgn (o : Opnds) (s : State) : Host.Outcome State Fault Refusal := 
  issue 0x48 o s (fun c =>
    let f := fmtOf (o.mod / 4)
    .ok c.s (c.res (fun l => fsgnOf (o.mod % 4) f (c.srcF f o.a l) (c.srcF f o.b l))))

/-- FRCP (R157). -/
def execFrcp32 (o : Opnds) (s : State) : Host.Outcome State Fault Refusal := specialMeaning 0x49 o s

/-- FRCP (R157). -/
def execFrcp (o : Opnds) (s : State) : Host.Outcome State Fault Refusal := specialMeaning 0x49 o s

/-- FRSQ (R157). -/
def execFrsq32 (o : Opnds) (s : State) : Host.Outcome State Fault Refusal := specialMeaning 0x4A o s

/-- FRSQ (R157). -/
def execFrsq (o : Opnds) (s : State) : Host.Outcome State Fault Refusal := specialMeaning 0x4A o s

/-- FSQRT (R157). -/
def execFsqrt32 (o : Opnds) (s : State) : Host.Outcome State Fault Refusal := specialMeaning 0x4B o s

/-- FSQRT (R157). -/
def execFsqrt (o : Opnds) (s : State) : Host.Outcome State Fault Refusal := specialMeaning 0x4B o s

/-- FEXP2 (R157). -/
def execFexp232 (o : Opnds) (s : State) : Host.Outcome State Fault Refusal := specialMeaning 0x4C o s

/-- FEXP2 (R157). -/
def execFexp2 (o : Opnds) (s : State) : Host.Outcome State Fault Refusal := specialMeaning 0x4C o s

/-- FLOG2 (R157). -/
def execFlog232 (o : Opnds) (s : State) : Host.Outcome State Fault Refusal := specialMeaning 0x4D o s

/-- FLOG2 (R157). -/
def execFlog2 (o : Opnds) (s : State) : Host.Outcome State Fault Refusal := specialMeaning 0x4D o s

/-- FSIN (R157). -/
def execFsin32 (o : Opnds) (s : State) : Host.Outcome State Fault Refusal := specialMeaning 0x4E o s

/-- FSIN (R157). -/
def execFsin (o : Opnds) (s : State) : Host.Outcome State Fault Refusal := specialMeaning 0x4E o s

/-- FCOS (R157). -/
def execFcos32 (o : Opnds) (s : State) : Host.Outcome State Fault Refusal := specialMeaning 0x4F o s

/-- FCOS (R157). -/
def execFcos (o : Opnds) (s : State) : Host.Outcome State Fault Refusal := specialMeaning 0x4F o s

/-- FCVT (R158). -/
def execFcvt (o : Opnds) (s : State) : Host.Outcome State Fault Refusal := 
  issue 0x50 o s (fun c => c.resF (fun l => fcvtOf o.mod c.mode (c.src o.a l) (c.numF (fmtOf (o.mod % 16)) o.a l)))

/-- BXPACK (R160). -/
def execBxpack (o : Opnds) (s : State) : Host.Outcome State Fault Refusal := issue 0x51 o s bxpackMeaning

/-- BXUNPK (R161). -/
def execBxunpk (o : Opnds) (s : State) : Host.Outcome State Fault Refusal := issue 0x52 o s bxunpkMeaning

/-- CADD (R162). -/
def execCadd32 (o : Opnds) (s : State) : Host.Outcome State Fault Refusal := 
  issue 0x53 o s (fun c => c.resF (fun l => caddWord c.mode (c.src o.a l) (c.numF (if o.mod = 1 then bf16 else f32) o.b l)))

/-- CADD (R162). -/
def execCadd (o : Opnds) (s : State) : Host.Outcome State Fault Refusal := 
  issue 0x53 o s (fun c => c.resF (fun l => caddWord c.mode (c.src o.a l) (c.numF (if o.mod = 1 then bf16 else f32) o.b l)))

/-- CSPLIT (R162). -/
def execCsplit32 (o : Opnds) (s : State) : Host.Outcome State Fault Refusal := issue 0x54 o s (fun c => c.resF (fun l => splitCb c.mode (c.numF f32 o.a l)))

/-- CSPLIT (R162). -/
def execCsplit (o : Opnds) (s : State) : Host.Outcome State Fault Refusal := issue 0x54 o s (fun c => c.resF (fun l => splitCb c.mode (c.numF f32 o.a l)))

/-- CJOIN (R162). -/
def execCjoin32 (o : Opnds) (s : State) : Host.Outcome State Fault Refusal := 
  issue 0x55 o s (fun c => c.resF (fun l =>
    let r := f32.round 0 (ftzOf c.mode) (sumNum false (cbNums (dazOf c.mode) (c.src o.a l)))
    (wd r.1, r.2 &&& 5)))

/-- CJOIN (R162). -/
def execCjoin (o : Opnds) (s : State) : Host.Outcome State Fault Refusal := 
  issue 0x55 o s (fun c => c.resF (fun l =>
    let r := f32.round 0 (ftzOf c.mode) (sumNum false (cbNums (dazOf c.mode) (c.src o.a l)))
    (wd r.1, r.2 &&& 5)))

/-- FSETRM (R159). -/
def execFsetrm32 (o : Opnds) (s : State) : Host.Outcome State Fault Refusal := 
  issue 0x57 o s (fun c => .ok (c.s.modStream c.sid (fun t =>
    { t with mode := (t.mode &&& 0xFFFFFFF0) ||| (c.uni o.a &&& 0xF) })) [])

/-- FSETRM (R159). -/
def execFsetrm (o : Opnds) (s : State) : Host.Outcome State Fault Refusal := 
  issue 0x57 o s (fun c => .ok (c.s.modStream c.sid (fun t =>
    { t with mode := (t.mode &&& 0xFFFFFFF0) ||| (c.uni o.a &&& 0xF) })) [])

/-- FGETRM (R159). -/
def execFgetrm32 (o : Opnds) (s : State) : Host.Outcome State Fault Refusal := issue 0x58 o s (fun c => .ok c.s [.s (Ctx.sn o.d) (c.mode &&& 0xFF)])

/-- FGETRM (R159). -/
def execFgetrm (o : Opnds) (s : State) : Host.Outcome State Fault Refusal := issue 0x58 o s (fun c => .ok c.s [.s (Ctx.sn o.d) (c.mode &&& 0xFF)])

/-- FFLAG; .CLR reads and clears as one step (R151). -/
def execFflag32 (o : Opnds) (s : State) : Host.Outcome State Fault Refusal := issue 0x59 o s fflagMeaning

/-- FFLAG; .CLR reads and clears as one step (R151). -/
def execFflag (o : Opnds) (s : State) : Host.Outcome State Fault Refusal := issue 0x59 o s fflagMeaning

end Sys2Proof.Machine
end

