-- ==== Sys2Proof/Machine/CrossLane.lean ====
section
/-! DEFINITION. Cross-lane instructions (R168 to R180). -/
namespace Sys2Proof.Machine

/-- A lane index that names a usable source (R169). -/
def Ctx.source (c : Ctx) (w : Nat) : Bool := w < 96 && c.p.own.has w
/-- A lane index that names a usable destination (R169). -/
def Ctx.dest (c : Ctx) (w : Nat) : Bool := w < 96 && c.act.has w

/-- Set XO where an index was not usable (Table 8.1). -/
def setXo (c : Ctx) (bad : Bool) : State :=
  if bad then c.s.modStream c.sid (fun t => { t with xconf := t.xconf ||| 2 }) else c.s

/-- The vector register of field D. -/
def Ctx.dReg (c : Ctx) : Nat := (vIndex (c.view 0) c.o.d).getD 0

/-- XGET (R172). -/
def xgetMeaning (c : Ctx) : Eff :=
  let ok (l : Nat) : Bool := c.source (c.src c.o.b l).toNat
  .ok (setXo c (c.act.list.any (fun l => !ok l))) (c.res (fun l => if ok l then c.vec c.o.a (c.src c.o.b l).toNat else 0))

/-- XPUT (R172): the highest source of a collision wins; XC and XLANE note the first collision. -/
def xputMeaning (c : Ctx) : Eff :=
  let tgt (l : Nat) : Nat := (c.src c.o.b l).toNat
  let good := c.act.list.filter (fun l => c.dest (tgt l))
  let hits := good.filter (fun l => good.any (fun k => k < l && tgt k = tgt l))
  let s := setXo c (c.act.list.any (fun l => !c.dest (tgt l)))
  let s := match hits with
    | [] => s
    | l :: _ => s.modStream c.sid (fun t => { t with
        xconf := if t.xconf.getLsbD 0 then t.xconf else (t.xconf &&& 0xFFFF00FF) ||| wd (256 * tgt l) ||| 1 })
  .ok s (good.map (fun l => .v c.dReg (tgt l) (c.vec c.o.a l)))

/-- The source lane of SHFL, none outside 0 to 95 (R173). -/
def shflLane (mod l d : Nat) : Option Nat :=
  match mod with
  | 0 => if d ≤ l then some (l - d) else none
  | 1 => if l + d < 96 then some (l + d) else none
  | _ => if l ^^^ d < 96 then some (l ^^^ d) else none

/-- SHFL (R173). -/
def shflMeaning (c : Ctx) : Eff :=
  let d := (c.uni c.o.b).toNat
  let bad (l : Nat) : Bool := match shflLane c.o.mod l d with
    | some k => !c.source k
    | none => false
  .ok (setXo c (c.act.list.any bad)) (c.res (fun l => match shflLane c.o.mod l d with
    | some k => if c.source k then c.vec c.o.a k else 0
    | none => c.vec c.o.a l))

/-- The value of a uniform source lane, 0 where it is not usable (R174). -/
def Ctx.pick (c : Ctx) (d : Nat) : Word := if c.source d then c.vec c.o.a d else 0

/-- BCAST and LREAD (R174). -/
def pickMeaning (c : Ctx) : Eff :=
  let d := (c.uni c.o.b).toNat
  .ok (setXo c (!c.source d)) (c.res (fun _ => c.pick d))

/-- LWRITE (R174). -/
def lwriteMeaning (c : Ctx) : Eff :=
  let d := (c.uni c.o.b).toNat
  if c.dest d then .ok c.s [.v c.dReg d (c.uni c.o.a)] else .ok (setXo c true) []

/-- The identity of an operation of Table 8.3. -/
def redId (op : Nat) : Word :=
  match op with
  | 1 => 0x7FFFFFFF
  | 2 => 0x80000000
  | 3 => 0xFFFFFFFF
  | 5 => 0xFFFFFFFF
  | 9 => 0x7F800000
  | 10 => 0xFF800000
  | _ => 0

/-- An operation of Table 8.3: the running value is no source read, so DAZ meets x alone (R54, R175). -/
def redOp (op : Nat) (mode : Word) (acc x : Word) : Word × Word :=
  let rne := mode &&& 0xFFFFFFFC
  match op with
  | 0 => (acc + x, 0)
  | 1 => (minMax false false acc x, 0)
  | 2 => (minMax true false acc x, 0)
  | 3 => (minMax false true acc x, 0)
  | 4 => (minMax true true acc x, 0)
  | 5 => (acc &&& x, 0)
  | 6 => (acc ||| x, 0)
  | 7 => (acc ^^^ x, 0)
  | 8 => faddOf rne f32 (f32.num false acc.toNat) (f32.num (dazOf mode) x.toNat)
  | 9 => fminmaxOf false rne f32 acc.toNat x.toNat
  | _ => fminmaxOf true rne f32 acc.toNat x.toNat

/-- How the first active value enters (R175). -/
def redFirst (op : Nat) (mode : Word) (x : Word) : Word × Word :=
  if op < 8 then (x, 0)
  else match f32.num false x.toNat with
    | .nan bad => (wd f32.qnan, if bad then flNV else 0)
    | _ => (wd (asRead f32 (dazOf mode) x.toNat), 0)

/-- One step of a reduction over a lane: the accumulator, none before the first, and the flags. -/
def redStep (op : Nat) (mode : Word) (acc : Option Word × Word) (x : Word) : Option Word × Word :=
  let (w, fl) := match acc.1 with
    | none => redFirst op mode x
    | some a => redOp op mode a x
  (some w, acc.2 ||| fl)

/-- RED (R175). -/
def redMeaning (c : Ctx) : Eff :=
  let op := c.o.mod % 16
  let (acc, fl) := c.act.list.foldl (fun a l => redStep op c.mode a (c.vec c.o.a l)) (none, 0)
  .ok (setFlags c c.s fl) (c.res (fun _ => acc.getD (redId op)))

/-- SCAN's values by lane and its flags (R175). -/
def scanRun (op : Nat) (mode : Word) (exc : Bool) (x : Nat → Word) : List Nat → Option Word × Word → Tab Word × Word
  | [], acc => ([], acc.2)
  | l :: ls, acc =>
    let next := redStep op mode acc (x l)
    let (t, fl) := scanRun op mode exc x ls next
    ((l, (if exc then acc.1 else next.1).getD 0) :: t, fl)

/-- SCAN (R175). -/
def scanMeaning (c : Ctx) : Eff :=
  let op := c.o.mod % 16
  let exc := decide (16 ≤ c.o.mod)
  let (t, fl) := scanRun op c.mode exc (c.vec c.o.a) c.act.list (if exc then some (redId op) else none, 0)
  .ok (setFlags c c.s fl) (c.res (Tab.get 0 t))

/-- COMPACT and EXPAND (R176): pairs of destination and source lane. -/
def compactMeaning (expand : Bool) (c : Ctx) : Eff :=
  let act := c.act.list
  let sel := act.filter (fun l => (c.triple (Ctx.sn c.o.b)).has l)
  let ps := if expand then sel.zip act else act.zip sel
  .ok c.s (ps.map (fun p => .v c.dReg p.1 (c.vec c.o.a p.2)))

/-- MATCH (R177). -/
def matchMeaning (c : Ctx) : Eff :=
  let same (l : Nat) : List Nat := c.act.list.filter (fun m => c.vec c.o.a m = c.vec c.o.a l)
  .ok c.s (c.res (fun l => match c.o.mod with
    | 0 => wd ((same l).head?.getD 0)
    | 1 => wd ((same l).filter (fun m => m < l)).length
    | _ => wd (same l).length))

/-- XGET (R172). -/
def execXget32 (o : Opnds) (s : State) : Host.Outcome State Fault Refusal := issue 0x60 o s xgetMeaning

/-- XGET (R172). -/
def execXget (o : Opnds) (s : State) : Host.Outcome State Fault Refusal := issue 0x60 o s xgetMeaning

/-- XPUT (R172). -/
def execXput32 (o : Opnds) (s : State) : Host.Outcome State Fault Refusal := issue 0x61 o s xputMeaning

/-- XPUT (R172). -/
def execXput (o : Opnds) (s : State) : Host.Outcome State Fault Refusal := issue 0x61 o s xputMeaning

/-- SHFL (R173). -/
def execShfl32 (o : Opnds) (s : State) : Host.Outcome State Fault Refusal := issue 0x62 o s shflMeaning

/-- SHFL (R173). -/
def execShfl (o : Opnds) (s : State) : Host.Outcome State Fault Refusal := issue 0x62 o s shflMeaning

/-- BCAST (R174). -/
def execBcast32 (o : Opnds) (s : State) : Host.Outcome State Fault Refusal := issue 0x63 o s pickMeaning

/-- BCAST (R174). -/
def execBcast (o : Opnds) (s : State) : Host.Outcome State Fault Refusal := issue 0x63 o s pickMeaning

/-- RED (R175). -/
def execRed32 (o : Opnds) (s : State) : Host.Outcome State Fault Refusal := issue 0x64 o s redMeaning

/-- RED (R175). -/
def execRed (o : Opnds) (s : State) : Host.Outcome State Fault Refusal := issue 0x64 o s redMeaning

/-- SCAN (R175). -/
def execScan32 (o : Opnds) (s : State) : Host.Outcome State Fault Refusal := issue 0x65 o s scanMeaning

/-- SCAN (R175). -/
def execScan (o : Opnds) (s : State) : Host.Outcome State Fault Refusal := issue 0x65 o s scanMeaning

/-- COMPACT (R176). -/
def execCompact32 (o : Opnds) (s : State) : Host.Outcome State Fault Refusal := issue 0x66 o s (compactMeaning false)

/-- COMPACT (R176). -/
def execCompact (o : Opnds) (s : State) : Host.Outcome State Fault Refusal := issue 0x66 o s (compactMeaning false)

/-- EXPAND (R176). -/
def execExpand32 (o : Opnds) (s : State) : Host.Outcome State Fault Refusal := issue 0x67 o s (compactMeaning true)

/-- EXPAND (R176). -/
def execExpand (o : Opnds) (s : State) : Host.Outcome State Fault Refusal := issue 0x67 o s (compactMeaning true)

/-- MATCH (R177). -/
def execMatchLanes32 (o : Opnds) (s : State) : Host.Outcome State Fault Refusal := issue 0x68 o s matchMeaning

/-- MATCH (R177). -/
def execMatchLanes (o : Opnds) (s : State) : Host.Outcome State Fault Refusal := issue 0x68 o s matchMeaning

/-- VIDX (R178). -/
def execVidx32 (o : Opnds) (s : State) : Host.Outcome State Fault Refusal := issue 0x69 o s (fun c => .ok c.s (c.res (fun l => wd l)))

/-- VIDX (R178). -/
def execVidx (o : Opnds) (s : State) : Host.Outcome State Fault Refusal := issue 0x69 o s (fun c => .ok c.s (c.res (fun l => wd l)))

/-- LREAD (R174). -/
def execLread32 (o : Opnds) (s : State) : Host.Outcome State Fault Refusal := issue 0x6A o s pickMeaning

/-- LREAD (R174). -/
def execLread (o : Opnds) (s : State) : Host.Outcome State Fault Refusal := issue 0x6A o s pickMeaning

/-- LWRITE (R174). -/
def execLwrite (o : Opnds) (s : State) : Host.Outcome State Fault Refusal := issue 0x6B o s lwriteMeaning

end Sys2Proof.Machine
end

