-- ==== Sys2Proof/Machine/Ports.lean ====
section
/-! DEFINITION. The outstanding-transaction tables, the cluster ports and home ports, replies, acknowledgements and timeouts
(R203 to R208, R213 to R215, R461, R464), access counters (R275), and the kill of a team (R208). -/
namespace Sys2Proof.Machine

-- Access counters

/-- Append a migration notice (R275, R428). -/
def notice (s : State) (p frame : Nat) : State :=
  let x := s.part p
  let base := x.migring.toNat
  if base = 0 then s
  else
    let s := s.writeMem (base + 4 * (x.migwi % 4096)) (bytesOf frame 4)
    let s := s.writeMem (base + 16384) (bytesOf (x.migwi + 1) 8)
    (s.modPart p (fun x => { x with migwi := x.migwi + 1 })).raiseMsix (8 * p + 4)

/-- A request of a partition to a granule counts in its frame (R275). -/
def countAccess (s : State) (p spa : Nat) : State :=
  match regionOf spa with
  | .hbm => go s
  | .scm => go s
  | _ => s
where
  /-- One saturating step of the frame's counter. -/
  go (s : State) : State :=
    let f := spa / 65536
    let n := Tab.get 0 s.acc f
    if n = 255 then s
    else
      let s := { s with acc := Tab.set 0 s.acc f (n + 1) }
      let thr := bits (s.part p).migth.toNat 0 8
      if thr ≠ 0 && n + 1 = thr then notice s p f else s

-- Operations at a home port

/-- Some granule of the run holds an uncorrectable error (R208). -/
def ueAt (s : State) (spa n : Nat) : Bool := s.ue.any (fun g => spa / 256 ≤ g && g ≤ (spa + n - 1) / 256)

/-- ATOM's operation (Table 9.7). -/
def atomOp (op : Nat) (mode old x : Word) : Word :=
  match op with
  | 0 => old + x
  | 1 => minMax false false old x
  | 2 => minMax true false old x
  | 3 => minMax false true old x
  | 4 => minMax true true old x
  | 5 => old &&& x
  | 6 => old ||| x
  | 7 => old ^^^ x
  | 8 => x
  | _ => (caddWord mode old (f32.num (dazOf mode) x.toNat)).1

/-- One piece performed at its memory: the state, the bytes it answers, and whether it met an uncorrectable error. -/
def performPiece (s : State) (p : Piece) : State × List Byte × Bool :=
  match p.op with
  | .read n => (s, s.readMem p.spa n, ueAt s p.spa n)
  | .write bs => (s.writeMem p.spa bs, [], false)
  | .atom op x mode =>
    let old := s.readMem p.spa 4
    if ueAt s p.spa 4 then (s, old, true)
    else (s.writeMem p.spa (bytesOf (atomOp op mode (wd (ofBytes old)) x).toNat 4), old, false)
  | .cas e x =>
    let old := s.readMem p.spa 4
    if ueAt s p.spa 4 then (s, old, true)
    else (if wd (ofBytes old) = e then s.writeMem p.spa (bytesOf x.toNat 4) else s, old, false)
  | .cas64 e x =>
    let old := s.readMem p.spa 8
    if ueAt s p.spa 8 then (s, old, true)
    else (if BitVec.ofNat 64 (ofBytes old) = e then s.writeMem p.spa (bytesOf x.toNat 8) else s, old, false)

/-- The pieces of a request performed in lane order (R196, R464): the answers in order, and the error. -/
def performPieces (s : State) : List Piece → State × List (List Byte) × Bool
  | [] => (s, [], false)
  | p :: ps =>
    let (s1, d, u) := performPiece s p
    let (s2, ds, us) := performPieces s1 ps
    (s2, d :: ds, u || us)

/-- A request may be performed: every earlier live request of its cluster to its home port has been, but for one of the same instruction,
with which it is not ordered (R213, R464). -/
def mayPerform (rs : List Req) (k : Nat) : Bool :=
  match rs[k]? with
  | none => false
  | some r => !r.done && (rs.take k).all (fun x => x.done || !x.live || x.cluster ≠ r.cluster || x.home ≠ r.home || (x.ins ≠ 0 && x.ins = r.ins))

/-- How many bytes a piece touches. -/
def Piece.size (p : Piece) : Nat :=
  match p.op with
  | .read n => n
  | .write bs => bs.length
  | .cas64 _ _ => 8
  | _ => 4
/-- The piece may write. -/
def Piece.writes (p : Piece) : Bool :=
  match p.op with
  | .read _ => false
  | _ => true

-- What happens before what (R216 to R219)

/-- Two runs of bytes share one. -/
def meet (a n b m : Nat) : Bool := a < b + m && b < a + n

/-- Two views of what happens before, together. -/
def joinClk (a b : Tab Nat) : Tab Nat := across b (fun e m => Tab.set 0 m e.1 (max (Tab.get 0 m e.1) e.2)) a

/-- The stream knows of an access of a stream at a step. -/
def knows (k : Tab Nat) (sid born : Nat) : Bool := born < Tab.get 0 k sid

/-- The narrower of the scopes of a release and an acquire covers both parties (R211, R218). -/
def RelMark.covers (m : RelMark) (sid team scope : Nat) : Bool :=
  match min m.scope scope with
  | 0 => m.sid = sid
  | 1 => m.sid = sid || (m.team = team && !isSeq m.sid && !isSeq sid)
  | 2 => clusterOf m.sid = clusterOf sid
  | 3 => dieOf (clusterOf m.sid) = dieOf (clusterOf sid)
  | _ => true

/-- An acquire has read a release: a link of kind 2, or a synchronisation that leaves a race (R216, R218). -/
def learn (s : State) (sid scope : Nat) (m : RelMark) : State :=
  s.modStream sid (fun t => if m.covers sid t.team scope then { t with know := joinClk t.know m.know } else { t with taint := joinClk t.taint m.know })

/-- What a performed piece of a request leaves: an acquire learns of the release it reads, a write is noted, and a release stands in memory. -/
def syncPiece (r : Req) (s : State) (p : Piece) : State :=
  let s1 := if r.ord / 16 % 2 = 1 then (match Tab.get none s.relw p.spa with
    | some m => learn s r.sid (r.ord % 8) m
    | none => s) else s
  if p.writes then
    let team := ((s1.stream? r.sid).map (fun t => t.team)).getD 0
    let s2 := { s1 with relw := s1.relw.filter (fun e => !meet e.1 1 p.spa p.size), wlog := ⟨p.spa, p.size, r.sid, r.born⟩ :: s1.wlog }
    if r.ord / 8 % 2 = 1 then { s2 with relw := Tab.set none s2.relw p.spa (some ⟨r.sid, team, r.ord % 8, r.know⟩) } else s2
  else s1

/-- A location of a run is in a race for a read: a write of another stream precedes the read only through a synchronisation whose scope does
not cover both parties (R218). -/
def inRace (s : State) (know taint : Tab Nat) (sid spa n : Nat) : Bool :=
  s.wlog.any (fun w => w.sid ≠ sid && meet w.spa w.n spa n && knows taint w.sid w.born && !knows know w.sid w.born)

/-- A byte of memory as it was before a step. -/
def byteAsOf (s : State) (n a : Nat) : Byte :=
  match (s.past.filter (fun e => n ≤ e.1 && e.2.1 = a)).getLast? with
  | some e => e.2.2
  | none => s.byteAt a

/-- What a read of a location in a race returns: a value that stood there at some time (R219). -/
def racedRead (s : State) (spa n : Nat) : List Byte :=
  (List.range n).map (fun i => byteAsOf s (Config.raced s.fresh spa % (s.fresh + 1)) (spa + i))

/-- The answer of a piece, where it is a read of a location in a race (R219). -/
def raceAnswer (s : State) (r : Req) (p : Piece) (d : List Byte) : List Byte :=
  match p.op with
  | .read n => if inRace s r.know r.taint r.sid p.spa n then racedRead s p.spa n else d
  | _ => d

/-- The bytes that a step has changed are noted as they were (R219). -/
def remember (s s' : State) : State :=
  if s'.mem = s.mem then s'
  else
    let gone := s.mem.filter (fun e => !s'.mem.contains e)
    let new := s'.mem.filter (fun e => Tab.get State.emptyByte s.mem e.1 ≠ e.2 && !gone.any (fun g => g.1 = e.1))
    { s' with past := gone.map (fun e => (s'.fresh, e.1, e.2)) ++ new.map (fun e => (s'.fresh, e.1, Tab.get State.emptyByte s.mem e.1)) ++ s'.past }

-- Die-to-die packets (R327)

/-- The 16 bytes of a die-to-die header (Table 15.2). -/
def DieHeader.bytes (h : DieHeader) : List Byte :=
  bytesOf h.ty 1 ++ bytesOf h.len 1 ++ bytesOf h.src 2 ++ bytesOf h.tag 2 ++ bytesOf h.ord 1 ++ bytesOf h.opc 1 ++ bytesOf h.addr 8

/-- The header that 16 bytes hold. -/
def dieHeaderOf (bs : List Byte) : DieHeader := ⟨leAt bs 0 1, leAt bs 1 1, leAt bs 2 2, leAt bs 4 2, leAt bs 6 1, leAt bs 7 1, leAt bs 8 8⟩

/-- SRC of a table's requests: the die, and the requester, a vector core or a sequencer. -/
def srcOf (tbl : Nat) : Nat :=
  if 768 ≤ tbl then (tbl - 768) / 48 * 8192 + (192 + (tbl - 768) % 48) * 16 else tbl / 192 * 8192 + tbl % 192 * 16

/-- The requester of an entry: its table, and TAG. -/
def Tag.sender (t : Tag) : Sender := ⟨srcOf t.tbl, 16 * t.ent + t.gen⟩
/-- The requester that a cluster's sequencer is for the boxes of its tile port and its array. -/
def boxSender (cl : Nat) : Sender := ⟨srcOf (768 + cl), 0⟩
/-- The requester that the gateway is for a fabric packet with a TAG. -/
def gatewaySender (tag : Nat) : Sender := ⟨4 * 8192 + 261 * 16, bits tag 0 13⟩
/-- The requester that operation n is: a copy, gather or collective engine of its die. -/
def EngOp.sender (x : EngOp) (n : Nat) : Sender :=
  ⟨x.die * 8192 + 16 * (match x.kind with
    | .copy _ _ => 240 + n % 16
    | .gather => 256 + n % 4
    | .scatter _ => 256 + n % 4
    | _ => 260), 16 * (n % 512)⟩

/-- Bytes filled up with zeros to whole units of 16. -/
def fillUnits (bs : List Byte) : List Byte := bs ++ List.replicate ((16 - bs.length % 16) % 16) 0

/-- A die-to-die packet of a requester; LEN counts the payload's units. -/
def diePacket (x : Sender) (ty ord opc addr : Nat) (payload : List Byte) : DiePacket :=
  ⟨⟨ty, (fillUnits payload).length / 16, x.src, x.tag, ord, opc, addr⟩, fillUnits payload⟩

/-- A packet that writes bytes of one sector: a mask unit comes first unless all 32 are valid (R327). -/
def diePut (x : Sender) (ord sector : Nat) (bs : List (Nat × Byte)) : DiePacket :=
  let m : Tab (Option Byte) := bs.foldl (fun m b => Tab.set none m (b.1 % 32) (some b.2)) []
  let valid := (List.range 32).filter (fun i => (Tab.get none m i).isSome)
  let data := (List.range 32).map (fun i => (Tab.get none m i).getD 0)
  let mask := valid.foldl (fun n i => n + 2 ^ i) 0
  diePacket x 2 ord 0 (32 * sector) (if valid.length = 32 then data else fillUnits (bytesOf mask 4) ++ data)

/-- The writes of pieces, by sector. -/
def diePuts (x : Sender) (ord : Nat) (ps : List Piece) : List DiePacket :=
  let puts := ps.flatMap (fun p => match p.op with
    | .write bs => bs.zipIdx.map (fun b => (p.spa + b.2, b.1))
    | _ => [])
  let sectors := puts.foldl (fun l b => if l.contains (b.1 / 32) then l else l ++ [b.1 / 32]) []
  sectors.map (fun n => diePut x ord n (puts.filter (fun b => b.1 / 32 = n)))

/-- The packets of a request's pieces in order: a write's bytes by sector, and one packet for each read and each atomic (Table 15.4). -/
def diePackets (x : Sender) (ord : Nat) (ps : List Piece) : List DiePacket :=
  diePuts x ord ps ++ ps.filterMap (fun p => match p.op with
      | .read _ => some (diePacket x 1 ord 0 p.spa [])
      | .write _ => none
      | .atom op v _ => some (diePacket x 4 ord op p.spa (bytesOf v.toNat 4))
      | .cas e v => some (diePacket x 5 ord 0 p.spa (bytesOf e.toNat 4 ++ bytesOf v.toNat 4))
      | .cas64 e v => some (diePacket x 5 ord 0 p.spa (bytesOf e.toNat 8 ++ bytesOf v.toNat 8)))

/-- The answers to those packets, to the requester: a NACK with the code MEM_UE where an error met them, else an acknowledgement of each write
and a read reply of every other (Table 15.4, log 20). -/
def dieAnswers (x : Sender) (ps : List Piece) (d : List (List Byte)) (u : Bool) : List DiePacket :=
  if u then (ps.head?.map (fun p => diePacket x 0x12 0 0x1C p.spa [])).toList
  else (diePuts x 0 ps).map (fun q => diePacket x 0x11 0 0 q.hdr.addr [])
    ++ (ps.zip d).filterMap (fun y => match y.1.op with
      | .write _ => none
      | _ => some (diePacket x 0x10 0 0 y.1.spa y.2))

/-- The die of the memory behind an address; 4 is the hub, which holds the gateway and the controllers of SCM. -/
def dieAt (spa : Nat) : Nat :=
  match regionOf spa with
  | .hbm => (hash spa).1 / 4
  | .cistern => bits spa 30 2
  | _ => 4

/-- An access of a requester to an address goes from one die to another. -/
def Sender.crosses (x : Sender) (spa : Nat) : Bool := x.src / 8192 ≠ dieAt spa

/-- The pieces of a requester's access that leave its die. -/
def Sender.away (x : Sender) (ps : List Piece) : List Piece := ps.filter (fun p => x.crosses p.spa)

/-- An access of a requester other than a stream, with its answers. -/
def State.exchange (s : State) (x : Sender) (ps : List Piece) (d : List (List Byte)) (u : Bool) : State :=
  let l := (ps.zip d).filter (fun y => x.crosses y.1.spa)
  s.onWire (diePackets x 0 (l.map (fun y => y.1)) ++ dieAnswers x (l.map (fun y => y.1)) (l.map (fun y => y.2)) u)

/-- A run cut at the granules. -/
def splitRun (r : Nat × Nat) : List (Nat × Nat) :=
  if r.2 = 0 then []
  else (List.range ((r.1 + r.2 - 1) / 256 - r.1 / 256 + 1)).map (fun i =>
    let a := max r.1 ((r.1 / 256 + i) * 256)
    (a, min (r.1 + r.2) ((r.1 / 256 + i + 1) * 256) - a))

/-- The reads of runs by a requester, and what they returned. -/
def State.wireReads (s : State) (x : Sender) (rs : List (Nat × Nat)) : State :=
  let l := rs.flatMap splitRun
  s.exchange x (l.map (fun r => ⟨0, 0, r.1, .read r.2, .none, []⟩)) (l.map (fun r => s.readMem r.1 r.2)) false

/-- Addresses as runs. -/
def spaRuns : List Nat → List (Nat × Nat)
  | [] => []
  | a :: rest => match spaRuns rest with
    | (b, n) :: rs => if b = a + 1 then (a, n + 1) :: rs else (a, 1) :: (b, n) :: rs
    | [] => [(a, 1)]

/-- Bytes over runs, as writes. -/
def writePieces : List (Nat × Nat) → List Byte → List Piece
  | [], _ => []
  | (a, n) :: rest, bs => ⟨0, 0, a, .write (bs.take n), .none, []⟩ :: writePieces rest (bs.drop n)

/-- The writes of bytes over runs by a requester. -/
def State.wireWrites (s : State) (x : Sender) (rs : List (Nat × Nat)) (bs : List Byte) : State :=
  let l := writePieces (rs.flatMap splitRun) bs
  s.exchange x l (l.map (fun _ => [])) false

/-- A request goes from its cluster's die to another. -/
def Req.crosses (r : Req) : Bool := r.pieces.any (fun p => r.tag.sender.crosses p.spa)

/-- The k-th request is performed at its home port. -/
def performReq (s : State) (k : Nat) : State :=
  match s.reqs[k]? with
  | none => s
  | some r =>
    if mayPerform s.reqs k && r.pieces.all (fun p => homeUp s p.spa) then
      let (s1, d, u) := performPieces s r.pieces
      let s2 := match r.pieces with
        | p :: _ => countAccess s1 r.part p.spa
        | [] => s1
      let s3 := r.pieces.foldl (syncPiece r) s2
      let data := (r.pieces.zip d).map (fun x => raceAnswer s r x.1 x.2)
      { s3 with reqs := setNth s3.reqs k { r with done := true, data := data, ue := u } }.onWire
        (if r.crosses then dieAnswers r.tag.sender r.pieces data u else [])
    else s

-- Tables

/-- The table of a stream: its vector core's, or its sequencer's (R203). -/
def tblOf (sid : Nat) : Nat := if isSeq sid then 768 + clusterOf sid else sid / 16
/-- The entries of a table. -/
def tblSize (tbl : Nat) : Nat := if 768 ≤ tbl then 64 else 512
/-- The key of an entry. -/
def entKey (tbl ent : Nat) : Nat := 1024 * tbl + ent
/-- The generation of an entry and how often it has advanced (R206). -/
def genOf (s : State) (tbl ent : Nat) : Nat × Nat := Tab.get (0, 0) s.ottGen (entKey tbl ent)

/-- The first n free entries of a table from an index on; a retired entry is never free (R206). -/
def takeFree (s : State) (tbl : Nat) : Nat → Nat → Nat → List Nat
  | 0, _, _ => []
  | _, _, 0 => []
  | f + 1, i, n + 1 =>
    if (Tab.get none s.ott (entKey tbl i)).isNone && (genOf s tbl i).2 < 15 then i :: takeFree s tbl f (i + 1) n
    else takeFree s tbl f (i + 1) (n + 1)

/-- n free entries, none where the table has too few (R204). -/
def freeEntries (s : State) (tbl n : Nat) : Option (List Nat) :=
  let es := takeFree s tbl (tblSize tbl) 0 n
  if es.length = n then some es else none

/-- Pieces grouped by 256-byte granule, in the order in which granules appear (R464). -/
def byGranule (ps : List Piece) : List (List Piece) :=
  ps.foldl (fun gs p =>
    let same (g : List Piece) : Bool := match g with
      | q :: _ => q.spa / 256 = p.spa / 256
      | [] => false
    if gs.any same then gs.map (fun g => if same g then g ++ [p] else g) else gs ++ [[p]]) []

/-- A kind that counts in the outstanding counter (R203, R331, R348). -/
def counts (k : ReqKind) : Bool := k ≠ .load && k ≠ .remoteLoad

/-- Another course of the cluster holds a sector of the run in its speculation buffer: its region has met an EXT write (R238). -/
def extWrites (s : State) (sid : Nat) (spas : List (Nat × Nat)) : State :=
  { s with streams := s.streams.map (fun e => (e.1, match e.2 with
      | some t =>
        if e.1 = sid || isSeq e.1 || clusterOf e.1 ≠ clusterOf sid then some t
        else match t.tr with
          | some r => if spas.any (fun x => r.buf.any (fun b => x.1 / 32 ≤ b.addr / 32 && b.addr / 32 ≤ (x.1 + x.2 - 1) / 32))
              then some { t with tr := some { r with ext := true } } else some t
          | none => some t
      | none => none)) }

/-- The entry of a request that a stream issues now. -/
def newEntry (s : State) (t : Stream) (sid pid : Nat) (pc hdr : Addr) (kind : ReqKind) (ps : List Piece) (q : List (Nat × Nat × Nat)) : Entry :=
  { sid := sid, path := pid, pc := pc, hdr := hdr, kind := kind, part := t.part, issued := s.clock, pieces := ps, inTry := t.inTry,
    inHnd := t.hnd.isSome, drop := false, gone := false, q := q, launch := t.launch, team := t.team, born := s.fresh, limit := timeoutOf s t.part,
    loop := none, killed := false }

/-- What happens before an access that the stream issues now: its own accesses of earlier steps, and what it has learnt of (R216). -/
def knowNow (s : State) (sid : Nat) (t : Stream) : Tab Nat := Tab.set 0 t.know sid s.fresh

/-- An access that enters the port after a committed sector of its cluster has been sent follows it on the same path, so that loads are no longer
served the bytes it changes (R246, R457). -/
def overDrains (s : State) (cl : Nat) (ps : List Piece) : State :=
  let cut (d : Drain) (p : Piece) : Drain := if p.writes && d.tag.isSome && d.cluster = cl then
      { d with bytes := d.bytes.filter (fun e => !meet (d.addr + e.1) 1 p.spa p.size) } else d
  { s with drains := s.drains.map (fun d => ps.foldl cut d) }

/-- One request of a stream enters an entry and the cluster port. -/
def sendReq (s : State) (sid pid : Nat) (pc hdr : Addr) (kind : ReqKind) (q : List (Nat × Nat × Nat)) (ord ent : Nat) (ps : List Piece) : State :=
  match s.stream? sid with
  | none => s
  | some t =>
    let tbl := tblOf sid
    let home := match ps with
      | p :: _ => homeOf p.spa
      | [] => 0
    let tag : Tag := ⟨tbl, ent, (genOf s tbl ent).1⟩
    let r : Req := ⟨tag, clusterOf sid, home, t.part, ps, false, [], false, true, s.fresh, diePackets tag.sender ord ps, sid, s.fresh, ord,
      knowNow s sid t, t.taint⟩
    let s := { overDrains s (clusterOf sid) ps with
      ott := Tab.set none s.ott (entKey tbl ent) (some (newEntry s t sid pid pc hdr kind ps q)), reqs := s.reqs ++ [r] }.onWire
        (if r.crosses then r.pkts else [])
    let s := if counts kind then s.modStream sid (fun t => { t with outst := t.outst + 1 }) else s
    extWrites s sid ((ps.filter Piece.writes).map (fun p => (p.spa, p.size)))

/-- Requests of an instruction, one per granule; none where the table has too few entries (R204). -/
def emit (c : Ctx) (s : State) (kind : ReqKind) (q : List (Nat × Nat × Nat)) (ord : Nat) (groups : List (List Piece)) :
    Option (State × List Tag) :=
  let tbl := tblOf c.sid
  match freeEntries s tbl groups.length with
  | none => none
  | some es =>
    some ((es.zip groups).foldl (fun s g => sendReq s c.sid c.p.id c.pc c.p.hdr kind q ord g.1 g.2) s,
      es.map (fun e => ⟨tbl, e, (genOf s tbl e).1⟩))

-- The drain stage

/-- The pieces of a committed sector: its runs of valid bytes (R246). -/
def sectorPieces (va addr : Nat) (bytes : Tab (Option Byte)) : List Piece :=
  bytes.filterMap (fun e => match e.2 with
    | some b => some ⟨0, va + e.1, addr + e.1, .write [b], .none, []⟩
    | none => none)

/-- Some sector of the cluster's drain stage that has not been sent lies in the run (R246). -/
def drainHolds (s : State) (cl spa n : Nat) : Bool :=
  s.drains.any (fun d => d.tag.isNone && d.cluster = cl && spa / 32 ≤ d.addr / 32 && d.addr / 32 ≤ (spa + n - 1) / 32)

/-- The bytes of a run that the cluster's committed sectors give a load, the latest sector over the others (R246, R457). -/
def committed (s : State) (cl spa n : Nat) : Tab (Option Byte) :=
  s.drains.foldl (fun m d => if d.cluster = cl then
      d.bytes.foldl (fun m e => if meet (d.addr + e.1) 1 spa n then Tab.set none m (d.addr + e.1 - spa) e.2 else m) m
    else m) []

/-- The entry of a sector's store request, which belongs to no region and no handler. -/
def sectorEntry (s : State) (d : Drain) : Entry :=
  { sid := d.sid, path := 2 ^ 32, pc := d.pc, hdr := 0, kind := .store, part := d.part, issued := s.clock, pieces := sectorPieces d.va d.addr d.bytes,
    inTry := false, inHnd := false, drop := d.gone, gone := d.gone, q := [], launch := d.launch, team := d.team, born := d.born,
    limit := timeoutOf s d.part, loop := none, killed := d.killed }

/-- Send the k-th sector of the drain stage: sectors of one stream go in order, a sector behind an earlier copy of the same one, and each waits
for a free entry (R246, R204). It stays in the stage until its acknowledgement (R457). -/
def sendDrain (s : State) (k : Nat) : State :=
  match s.drains[k]? with
  | none => s
  | some d =>
    if d.tag.isSome || (s.drains.take k).any (fun x => x.tag.isNone && (x.sid = d.sid || (x.cluster = d.cluster && x.addr = d.addr))) then s
    else match freeEntries s (tblOf d.sid) 1 with
      | some [ent] =>
        let tag : Tag := ⟨tblOf d.sid, ent, (genOf s (tblOf d.sid) ent).1⟩
        let e := sectorEntry s d
        let s := overDrains s d.cluster e.pieces
        let r : Req := ⟨tag, d.cluster, homeOf d.addr, d.part, e.pieces, false, [], false, true, 0, diePackets tag.sender 0 e.pieces, d.sid, d.born, 0, [], []⟩
        { s with
          drains := setNth s.drains k { d with tag := some tag },
          ott := Tab.set none s.ott (entKey tag.tbl ent) (some e),
          reqs := s.reqs ++ [r] }.onWire (if r.crosses then r.pkts else [])
      | _ => s

-- Replies

/-- The word a load writes, by memory type (Table 9.5). -/
def loadWord (ty : Nat) (bs : List Byte) : Word :=
  match ty with
  | 1 => wd (leAt bs 0 2)
  | 2 => wd (leAt bs 0 2)
  | 4 => (BitVec.ofNat 16 (leAt bs 0 2)).signExtend 32
  | 7 => wd (leAt bs 0 2)
  | 3 => (BitVec.ofNat 8 (leAt bs 0 1)).signExtend 32
  | 6 => wd (leAt bs 0 1)
  | _ => wd (leAt bs 0 4)

/-- The access size of a memory type (Table 9.5). -/
def typeSize (ty : Nat) : Nat :=
  if ty = 9 then 8 else if ty = 1 || ty = 2 || ty = 4 || ty = 7 then 2 else if ty = 3 || ty = 6 then 1 else 4

/-- The low bytes a store takes (Table 9.5). -/
def storeBytes (ty : Nat) (w : Word) : List Byte := bytesOf w.toNat (typeSize ty)

/-- Bytes of a reply with the speculation buffer's own in place (R234). -/
def fixed (fix : Tab (Option Byte)) (bs : List Byte) : List Byte :=
  (List.range bs.length).map (fun i => (Tab.get none fix i).getD (nth 0 bs i))

/-- A scalar of the context that issued a request: its copy in the handler's save area while a handler runs, a path's mask word, or
the register (R405). -/
def landScalar (t : Stream) (seq : Bool) (pid n : Nat) (inHnd : Bool) (w : Word) : Stream :=
  match t.hnd with
  | some h =>
    if inHnd then live t
    else if n = 0 then t
    else if n ≤ 31 then { t with hnd := some { h with s := Tab.set 0 h.s n w, sp := Tab.set false h.sp n false } }
    else if n < 61 then t.putS seq 0 n w
    else { t with hnd := some { h with ctl := { h.ctl with p0 := h.ctl.p0.map saved, p1 := h.ctl.p1.map saved } } }
  | none => live t
where
  /-- The mask word of the path that issued the request. -/
  mask (p : Path) : Path := if p.id = pid then { p with em := emWrite t p (n - 61) w, emp := p.emp.filter (fun i => i ≠ n) } else p
  /-- The mask word of a saved path: outside ABORTM while its region is open (R237). -/
  saved (p : Path) : Path :=
    let q := mask p
    if p.id = pid && t.tr.isSome then { q with em := q.em &&& ~~~t.abortm } else q
  /-- The register of the running context. -/
  live (t : Stream) : Stream :=
    if !seq && 61 ≤ n then { t with p0 := t.p0.map mask, p1 := t.p1.map mask } else (t.putS seq 0 n w).landed pid n

/-- The writes of one piece of a reply (Table 9.5), bound registers left out (R273). -/
def landPiece (t : Stream) (seq : Bool) (pid : Nat) (inHnd : Bool) (skip : List Nat) (p : Piece) (bs : List Byte) : Stream :=
  let bs := fixed p.fix bs
  match p.dst with
  | .none => t
  | .v r l ty => if skip.contains r then t else t.putV r l (loadWord ty bs)
  | .vs r l n z => (List.range n).foldl (fun t i => if i < z || skip.contains (r + i) then t else t.putV (r + i) l (wd (leAt bs (4 * i) 4))) t
  | .s r ty => landScalar t seq pid r inHnd (loadWord ty bs)
  | .sp r => landScalar (landScalar t seq pid r inHnd (wd (leAt bs 0 4))) seq pid (r + 1) inHnd (wd (leAt bs 4 4))
  | .sh r => { t with sh := Tab.set 0 t.sh r (BitVec.ofNat 512 (leAt bs 0 64)) }

/-- A poisoned scalar: free bits and the poison bit (R206, R207); of a mask word, the path that issued the request holds it (R97). -/
def poisonScalar (t : Stream) (seq : Bool) (pid : Nat) (inHnd : Bool) (fresh r : Nat) : Stream :=
  let t1 := landScalar t seq pid r inHnd (Config.freeWord fresh r)
  let mark (p : Path) : Path := if p.id = pid then { p with emp := r :: p.emp.filter (fun i => i ≠ r) } else p
  if r = 0 then t1
  else if !seq && 61 ≤ r then
    match t1.hnd with
    | some h => if inHnd then { t1 with p0 := t1.p0.map mark, p1 := t1.p1.map mark }
        else { t1 with hnd := some { h with ctl := { h.ctl with p0 := h.ctl.p0.map mark, p1 := h.ctl.p1.map mark } } }
    | none => { t1 with p0 := t1.p0.map mark, p1 := t1.p1.map mark }
  else match t1.hnd with
    | some h => if !inHnd && r ≤ 31 then { t1 with hnd := some { h with sp := Tab.set false h.sp r true } }
        else { t1 with sp := Tab.set false t1.sp r true }
    | none => { t1 with sp := Tab.set false t1.sp r true }

/-- Poison the destination of a piece (R206, R207): the bits are free. SHLD leaves its shape unchanged (R463). -/
def poisonPiece (t : Stream) (seq : Bool) (pid : Nat) (inHnd : Bool) (skip : List Nat) (fresh : Nat) (p : Piece) : Stream :=
  let v (t : Stream) (r l : Nat) : Stream :=
    if skip.contains r then t else { t with v := Tab.set 0 t.v (96 * r + l) (Config.freeWord fresh (96 * r + l)), vp := Tab.set false t.vp (96 * r + l) true }
  let s (t : Stream) (r : Nat) : Stream := poisonScalar t seq pid inHnd fresh r
  match p.dst with
  | .none => t
  | .v r l _ => v t r l
  | .vs r l n z => (List.range n).foldl (fun t i => if i < z then t else v t (r + i) l) t
  | .s r _ => s t r
  | .sp r => s (s t r) (r + 1)
  | .sh _ => t

/-- The words a reply gives to a reserved queue entry (R273): its lanes' values. -/
def fillQueue (s : State) (cl : Nat) (q : Nat × Nat × Nat) (ws : List (Nat × Word)) : State :=
  s.modCluster cl (fun x => { x with hq := Tab.set [] x.hq q.1 ((Tab.get [] x.hq q.1).map (fun e =>
    if e.id = q.2.2 then
      { e with left := e.left - 1, words := ws.foldl (fun l w => setNth l w.1 w.2) e.words }
    else e)) })

/-- The value of a piece that goes to the bound register. -/
def queueWord (reg : Nat) (p : Piece) (bs : List Byte) : Option (Nat × Word) :=
  let bs := fixed p.fix bs
  match p.dst with
  | .v r l ty => if r = reg then some (l, loadWord ty bs) else none
  | .vs r l n z => if r + z ≤ reg && reg < r + n then some (l, wd (leAt bs (4 * (reg - r)) 4)) else none
  | _ => none

/-- Fill the reserved queue entries of a request. -/
def fillQueues (s : State) (e : Entry) (ps : List (Piece × List Byte)) : State :=
  e.q.foldl (fun s q => fillQueue s (clusterOf e.sid) q (ps.filterMap (fun x => queueWord q.2.1 x.1 x.2))) s

/-- Write the destinations of a reply that is accepted. -/
def land (s : State) (e : Entry) (data : List (List Byte)) : State :=
  let ps := e.pieces.zip data
  let s := fillQueues s e ps
  if e.drop || e.gone then s
  else s.modStream e.sid (fun t =>
    ps.foldl (fun t x => landPiece t (isSeq e.sid) e.path e.inHnd (e.q.map (fun q => q.2.1)) x.1 x.2) t)

/-- Poison the destinations of a reply; a bound register's queue entry gets free words. -/
def landPoison (s : State) (e : Entry) : State :=
  let s := e.q.foldl (fun s q => fillQueue s (clusterOf e.sid) q (e.pieces.map (fun p => (p.lane, Config.freeWord s.fresh p.lane)))) s
  if e.drop || e.gone then s
  else s.modStream e.sid (fun t => e.pieces.foldl (fun t p =>
    poisonPiece t (isSeq e.sid) e.path e.inHnd (e.q.map (fun q => q.2.1)) s.fresh p) t)

/-- The killed teams whose last reply has been collected free their resources (R208). -/
def freeKilled (s : State) : State :=
  (s.teams.filterMap (fun e => if e.2.any (fun x => x.killed) then some e.1 else none)).foldl retireTeam s

/-- Free an entry; a store or atomic leaves the outstanding counter, and an acquire is over (R203, R215). -/
def freeEntry (s : State) (tbl ent : Nat) (e : Entry) : State :=
  let tag : Tag := ⟨tbl, ent, (genOf s tbl ent).1⟩
  let s := { s with ott := Tab.set none s.ott (entKey tbl ent) none, drains := s.drains.filter (fun d => d.tag ≠ some tag) }
  if e.gone then freeKilled s
  else s.modStream e.sid (fun t => { t with
    outst := if counts e.kind then t.outst - 1 else t.outst, acq := t.acq.filter (fun x => x ≠ tag) })

-- The kill of a team

/-- Work of a sequencer's stream is discarded with it, but for the command that the array has begun (Table 17.10). -/
def clearCluster (s : State) (cl : Nat) : State :=
  s.modCluster cl (fun x => { x with cq := (x.cq.take 1).filter (fun c => c.begun), port := [] })

/-- A cluster's subscriptions close (R300). -/
def closeSubs (s : State) (cl : Nat) : State :=
  { s with strm := s.strm.map (fun e => (e.1, { e.2 with subs := e.2.subs.filter (fun x => x.cluster ≠ cl) })) }

/-- The slots that killed streams were filling are not published. -/
def dropPubs (s : State) (sids : List Nat) : State :=
  { s with strm := s.strm.map (fun e => (e.1, { e.2 with pending := e.2.pending.filter (fun p => !sids.contains p.sid) })) }

/-- An address lies in a team's cistern window (R184). -/
def inWindow (t : Team) (spa : Nat) : Bool :=
  let base := 4 * 2 ^ 40 + dieOf t.cluster * 2 ^ 30 + t.wbase * 65536
  t.displaced.isNone && base ≤ spa && spa < base + t.wsize * 65536

/-- CAN rises in the completion barrier of an operation that is stopped or discarded (Table 12.5, R345). -/
def canBarrier (s : State) (x : EngOp) : State :=
  match x.sid with
  | some i => s.modStream i (fun t => if x.team = some t.team && t.part = x.part then { t with cb := Tab.set 0 t.cb x.cb (t.cbAt x.cb ||| 0x400) } else t)
  | none => s

/-- The operations of a team that is killed or cancelled: a collective that has started completes whole, a queued one is discarded, and
another stops at its next boundary (R254, R345). -/
def cutOps (s : State) (tm : Nat) : State :=
  let mine (x : EngOp) : Bool := x.team = some tm && !x.started
  let s := s.eops.foldl (fun s e => match e.2 with
    | some x => if mine x then canBarrier s x else s
    | none => s) s
  let stop (x : EngOp) : Option EngOp := if !mine x then some x else if x.atUnit || x.stopped then none else some { x with cut := true }
  { s with eops := s.eops.filterMap (fun e => (e.2.bind stop).map (fun x => (e.1, some x))) }

/-- The requests of a team that is killed raise no event any more (R208). -/
def markKilled (s : State) (tm : Nat) : State :=
  { s with
    ott := s.ott.map (fun e => (e.1, e.2.map (fun x => if x.team = tm && x.gone then { x with killed := true } else x))),
    drains := s.drains.map (fun d => if d.team = tm && d.gone then { d with killed := true } else d) }

/-- A team is killed: its courses stop at once, no record is written, and once its outstanding replies are collected it frees its resources
(R208, R389, R405). -/
def killTeam (s : State) (tm : Nat) (cancelled : Bool) : State :=
  match s.team? tm with
  | none => s
  | some x =>
    let sids := x.courses ++ (if x.seq then [seqBase + x.cluster] else [])
    let s := cutOps s tm
    let s := sids.foldl (fun s i => forgetRequests (s.dropStream i) i) s
    let s := markKilled s tm
    let s := { s with drains := s.drains.filter (fun d => !(d.gone && d.launch = x.launch && inWindow x d.addr)) }
    let s := if x.seq then clearCluster s x.cluster else s
    let s := dropPubs (closeSubs s x.cluster) sids
    let slots := if x.seq then (seqBase + x.cluster, 0) :: x.slots else x.slots
    let s := s.setTeam tm (some { x with
      courses := [], seq := false, killed := true, slots := slots, cancelled := x.cancelled || cancelled, displaced := none })
    let s := match (s.part x.part).handler with
      | some h => if sids.contains h then haltForGood s x.part else s
      | none => s
    retireTeam s tm

/-- The team that owns the cistern window an address lies in (R184, R208). -/
def windowOwner (s : State) (spa : Nat) : Option Nat :=
  if regionOf spa = .cistern then
    s.teams.findSome? (fun e => match e.2 with
      | some t => if inWindow t spa then some e.1 else none
      | none => none)
  else none

/-- A reply that met an uncorrectable error (R208): poison, and MEM_UE or the kill of the window's team. -/
def landUe (s : State) (e : Entry) : State :=
  let s := landPoison s e
  match e.pieces with
  | [] => s
  | p :: _ =>
    let bad := (e.pieces.find? (fun x => ueAt s x.spa x.size)).getD p
    match windowOwner s bad.spa with
    | some tm => killTeam s tm false
    | none => requestFault s e 0x1C (BitVec.ofNat 64 bad.va) 0

-- Events

/-- The kind is a request over the fabric. -/
def remoteKind (k : ReqKind) : Bool := k = .remoteLoad || k = .remoteStore || k = .remoteAtomic || k = .message

/-- A reply or acknowledgement of a stale generation is discarded and counted (R206). -/
def lateReply (s : State) (p : Nat) : State := s.modPart p (fun x => { x with lateReply := x.lateReply + 1 })

/-- Where the request of a tag stands among the requests on their way. -/
def reqOf (s : State) (t : Tag) : Option Nat := s.reqs.findIdx? (fun r => r.tag = t)

/-- The partition a table's cluster belongs to. -/
def tblPart (s : State) (tbl : Nat) : Nat := (ownerOf s (if 768 ≤ tbl then tbl - 768 else tbl / 4)).getD 0

/-- The answer to an orphan: it is performed if it was not yet, and its answer is late (R461). -/
def orphanReply (s : State) (k : Nat) : State :=
  match s.reqs[k]? with
  | none => s
  | some r => let s1 := performReq s k
              lateReply { s1 with reqs := dropNth s1.reqs k } r.part

/-- A reply or acknowledgement arrives with a tag (R206): accepted for the entry's own generation, else late. The kinds it may
answer; data is what a remote answer carries (R331, R333). -/
def answer (s : State) (tbl ent gen : Nat) (ok : ReqKind → Bool) (data : List Byte) : State :=
  let tag : Tag := ⟨tbl, ent, gen⟩
  match Tab.get none s.ott (entKey tbl ent), reqOf s tag with
  | some e, some k =>
    if (genOf s tbl ent).1 ≠ gen then orphanReply s k
    else if !ok e.kind then s
    else
      let s1 := performReq s k
      match s1.reqs[k]? with
      | none => s
      | some r =>
        if !r.done then s
        else
          let s2 := { s1 with reqs := dropNth s1.reqs k }
          let s3 := freeEntry s2 tbl ent e
          if r.ue then landUe s3 e else land s3 e r.data
  | some e, none =>
    if (genOf s tbl ent).1 ≠ gen then lateReply s (tblPart s tbl)
    else if ok e.kind && remoteKind e.kind then
      land (freeEntry s tbl ent e) e (if e.kind = .remoteLoad then
        (e.pieces.foldl (fun (acc : List (List Byte) × List Byte) p => (acc.1 ++ [acc.2.take p.size], acc.2.drop p.size)) ([], data)).1
        else chunks 4 data.length data)
    else s
  | none, some k => orphanReply s k
  | none, none => lateReply s (tblPart s tbl)

/-- Advance an entry's generation; the fifteenth advance retires it (R206). -/
def advanceGen (s : State) (tbl ent p : Nat) : State :=
  let g := genOf s tbl ent
  let s := { s with ottGen := Tab.set (0, 0) s.ottGen (entKey tbl ent) ((g.1 + 1) % 16, g.2 + 1) }
  if g.2 + 1 = 15 then s.modPart p (fun x => { x with entryRetired := x.entryRetired + 1 }) else s

/-- A request that has not replied within the timeout (R206, R461); an engine's requests end with its operation (R263). -/
def timeout (s : State) (tbl ent : Nat) : State :=
  match Tab.get none s.ott (entKey tbl ent) with
  | none => s
  | some e =>
    if s.clock < e.issued + e.limit || s.pwait.any (fun r => r.op.isSome && r.tag = some ⟨tbl, ent, (genOf s tbl ent).1⟩) then s
    else
      let g := (genOf s tbl ent).1
      let va := match e.pieces with
        | p :: _ => BitVec.ofNat 64 p.va
        | [] => 0
      let s := landPoison s e
      let s := { s with
        reqs := s.reqs.map (fun r => if r.tag = ⟨tbl, ent, g⟩ then { r with live := false } else r),
        pwait := s.pwait.map (fun r => if r.tag = some ⟨tbl, ent, g⟩ then { r with live := false } else r) }
      let s := advanceGen (freeEntry s tbl ent e) tbl ent e.part
      requestFault s e 0x1B va (wd (ent * 16 + g))

end Sys2Proof.Machine
end

