-- ==== Sys2Proof/Machine/Region.lean ====
section
/-! DEFINITION. The speculation buffer of a try region and per-lane rollback (R234 to R237). -/
namespace Sys2Proof.Machine

/-- The destination of a rolled-back lane's outstanding load: the registers below k that the rollback restored stay as they are, the
others are written (R237, log 44). -/
def Dst.rolledBack (k : Nat) : Dst → Dst
  | .v r l ty => if r < k then .none else .v r l ty
  | .vs r l n z => if r + n ≤ k then .none else .vs r l n (max z (k - r))
  | d => d

/-- A rolled-back lane's outstanding loads leave the registers that the rollback restored (R237, log 44). -/
def dropLane (s : State) (sid k l : Nat) : State :=
  { s with ott := s.ott.map (fun e => (e.1, match e.2 with
      | some x => if x.sid = sid && x.inTry && !x.gone then
          some { x with pieces := x.pieces.map (fun p => if p.lane = l then { p with dst := p.dst.rolledBack k } else p) } else some x
      | none => none)) }

/-- A lane leaves the buffer. -/
def Sector.without (b : Sector) (l : Nat) : Option Sector :=
  let b1 := { b with readers := b.readers &&& ~~~Lanes.one l }
  let b2 := if b.writer = some l then { b1 with writer := none, bytes := [] } else b1
  if b2.readers = 0 && b2.writer.isNone then none else some b2

/-- A lane rolls back (R237). -/
def Stream.rollback (t : Stream) (l : Nat) : Stream :=
  match t.tr with
  | none => t
  | some r =>
    let t1 := t.unshadow r.k (Lanes.one l)
    let cut (p : Path) : Path := { p with em := p.em &&& ~~~Lanes.one l }
    { t1 with
      lr := Tab.set 0 t1.lr l (Tab.get 0 r.ctl.lr l),
      p0 := t1.p0.map cut, p1 := t1.p1.map cut, arms := t1.arms.map cut,
      abortm := t1.abortm ||| Lanes.one l, tryst := t1.tryst ||| 64,
      tr := some { r with buf := r.buf.filterMap (fun b => b.without l) } }

/-- The sectors of a run of bytes (R234). -/
def sectorsOf (spa n : Nat) : List Nat := (List.range ((spa + n - 1) / 32 - spa / 32 + 1)).map (fun i => (spa / 32 + i) * 32)

/-- The lanes whose accesses conflict with one access of a lane (R236). -/
def conflicts (buf : List Sector) (l spa n : Nat) (store : Bool) : Lanes :=
  buf.foldl (fun m b =>
    if (sectorsOf spa n).contains b.addr then
      let w : Lanes := match b.writer with
        | some x => if x = l then 0 else Lanes.one x
        | none => 0
      m ||| w ||| (if store then b.readers &&& ~~~Lanes.one l else 0)
    else m) 0

/-- A sector's entry after an access of a lane: the reader bit, or the writer and its bytes. -/
def Sector.touch (b : Sector) (l spa : Nat) (data : Option (List Byte)) (ord : Nat) : Sector :=
  match data with
  | none => { b with readers := b.readers ||| Lanes.one l }
  | some bs => { b with
      ord := if b.writer.isNone then ord else b.ord,
      writer := some l,
      bytes := (List.range bs.length).foldl (fun m i =>
        if (spa + i) / 32 * 32 = b.addr then Tab.set none m (spa + i - b.addr) (some (nth 0 bs i)) else m) b.bytes }

/-- Make or update the entries of an access; none where a new entry does not fit (R234, R235). -/
def touchAll (r : Region) (l va spa : Nat) (data : Option (List Byte)) : List Nat → Option Region
  | [] => some r
  | a :: rest =>
    if r.buf.any (fun b => b.addr = a) then
      touchAll { r with buf := r.buf.map (fun b => if b.addr = a then b.touch l spa data r.ord else b), ord := r.ord + 1 } l va spa data rest
    else if 256 ≤ r.buf.length then none
    else touchAll { r with buf := r.buf ++ [(⟨a, va + a - spa, 0, none, [], 0⟩ : Sector).touch l spa data r.ord], ord := r.ord + 1 } l va spa data rest

/-- One access of a lane in a region, conflicts settled (R236); none where the buffer as it stands has no room for its new entries (R235). -/
def Stream.tryAccess (t : Stream) (l va spa n : Nat) (data : Option (List Byte)) : Option Stream :=
  match t.tr with
  | none => some t
  | some r =>
    if t.abortm.has l then some t
    else
      let conf := conflicts r.buf l spa n data.isSome
      let new := (sectorsOf spa n).filter (fun a => !r.buf.any (fun b => b.addr = a))
      if conf.list.any (fun k => k < l) then some (t.rollback l)
      else if 256 < r.buf.length + new.length then none
      else
        let t1 := conf.list.foldl Stream.rollback t
        match t1.tr with
        | none => some t1
        | some r1 => match touchAll r1 l va spa data (sectorsOf spa n) with
          | none => none
          | some r2 => some { t1 with tr := some r2 }

/-- The accesses of an instruction, in lane order (R236). -/
def Stream.tryAccesses (t : Stream) : List (Nat × Nat × Nat × Nat × Option (List Byte)) → Option Stream
  | [] => some t
  | (l, va, spa, n, data) :: rest => match t.tryAccess l va spa n data with
    | none => none
    | some t1 => t1.tryAccesses rest

/-- The bytes of a load that the buffer gives: those that the loading lane has written (R234). -/
def Stream.buffered (t : Stream) (l spa n : Nat) : Tab (Option Byte) :=
  match t.tr with
  | none => []
  | some r => (List.range n).foldl (fun m i =>
      match r.buf.find? (fun b => b.addr = (spa + i) / 32 * 32 && b.writer = some l) with
      | some b => match Tab.get none b.bytes (spa + i - b.addr) with
        | some x => Tab.set none m i (some x)
        | none => m
      | none => m) []

end Sys2Proof.Machine
end

