-- ==== Sys2Proof/Machine/Memory.lean ====
section
/-! DEFINITION. Memory access and atomic instructions (R181 to R209). -/
namespace Sys2Proof.Machine

/-- The displacement in field C (R76). -/
def dispOf : Opnd → Addr
  | .disp n => BitVec.ofNat 64 n
  | .dlit w => sext64 w
  | _ => 0

/-- The virtual address of a lane (R181). -/
def Ctx.va (c : Ctx) (l : Nat) : Nat := (c.pairAt (Ctx.sn c.o.a) l + zext64 (c.src c.o.b l) + dispOf c.o.c).toNat

/-- The lane as which a uniform access acts in a region: the lowest of EM, else of OWN (R234). -/
def Ctx.uniLane (c : Ctx) : Nat := (c.act.lowest.orElse (fun _ => c.p.own.lowest)).getD 0

/-- A lane's access: lane, virtual and physical address. -/
abbrev LaneAcc := Nat × Nat × Nat

/-- Every lane's access translated and checked, the lowest faulting lane first (R187). -/
def checkLanes (s : State) (w : Who) (acc : Acc) (n al : Nat) : List (Nat × Nat) → Except Flt (List LaneAcc)
  | [] => .ok []
  | (l, va) :: rest => match access s w acc va n al with
    | .error f => .error f
    | .ok spa => match checkLanes s w acc n al rest with
      | .error f => .error f
      | .ok as => .ok ((l, va, spa) :: as)

/-- Writes of other streams that happen before the issuer's next access and are not performed at their homes: what a fence or a release at die
scope or wider orders comes after them (R216, R217). -/
def portWrites (s : State) (sid : Nat) (know : Tab Nat) : Bool :=
  s.ott.any (fun e => e.2.any (fun x => (x.sid ≠ sid || x.gone) && counts x.kind && x.kind ≠ .persist && knows know x.sid x.born))
    || s.drains.any (fun d => (d.sid ≠ sid || d.gone) && knows know d.sid d.born)

/-- Other streams' writes that the issuer comes after are not performed. -/
def Ctx.othersOut (c : Ctx) : Bool := portWrites c.s c.sid c.t.know

/-- An outstanding acquire, or an unfinished release, holds the access back (R215, R217). -/
def Ctx.held (c : Ctx) (rel : Bool) : Bool :=
  !c.t.acq.isEmpty || (rel && (loadsOut c.s c.sid || (3 ≤ c.o.mod / 32 && (c.t.outst ≠ 0 || c.othersOut))))

/-- The other access comes before one of the issuer's in a lane: the lane's own earlier access to the location, or one that the issuer knows of
(R216). -/
def Ctx.after (c : Ctx) (x : Entry) (lane : Nat) (p : Piece) : Bool :=
  (x.sid = c.sid && !x.gone && p.lane = lane) || knows c.t.know x.sid x.born

/-- A fabric request to SELF that comes before a lane's access to the same bytes has not been answered: it goes another way than the cluster
port, so the access waits for it (R214, R217, R324). -/
def Ctx.loopHeld (c : Ctx) (lane spa n : Nat) : Bool :=
  c.s.ott.any (fun e => e.2.any (fun x => x.loop.any (fun t => x.pieces.any (fun p => c.after x lane p && (match lookup c.s t p.va with
    | .ok l => meet l.spa p.size spa n
    | .error _ => false)))))

/-- Some access reaches a blocked page, a sector of the drain stage that has not been sent, where it may write, or bytes that an earlier request
to SELF still has to reach (R202, R214, R246). -/
def Ctx.heldPages (c : Ctx) (wr : Bool) (n : Nat) (as : List LaneAcc) : Bool :=
  as.any (fun a => blocked c.s c.t.part a.2.1 n || (wr && drainHolds c.s c.cl a.2.2 n) || c.loopHeld a.1 a.2.2 n)

/-- The requests that an instruction adds to a state wait at their translation until their timeout, which counts from t0, and are never
performed (R202, R461). -/
def neverPerformed (old s : State) (t0 : Nat) : State :=
  { s with
    reqs := old.reqs, pwait := old.pwait,
    ott := s.ott.map (fun e => if (Tab.get none old.ott e.1).isNone then (e.1, e.2.map (fun x => { x with issued := t0 })) else e) }

/-- How an instruction that waits at a blocked page goes on: its time counts from now on, runs, or is over (R202, R206). -/
def Ctx.pageWait (c : Ctx) (due : Nat → Eff) : Eff :=
  match c.p.wait with
  | some (.since t0) => if c.s.clock < t0 + timeoutOf c.s c.t.part then .wait else due t0
  | _ => .block

/-- An instruction that may be held by a blocked page or a sector that has not been sent. The wait at a blocked page counts toward the
requester timeout; once that is due, the instruction issues requests that time out (R202, R206). -/
def Ctx.passPages (c : Ctx) (wr : Bool) (n : Nat) (as : List LaneAcc) (go : Eff) : Eff :=
  if !c.heldPages wr n as then go
  else if as.any (fun a => (wr && drainHolds c.s c.cl a.2.2 n) || c.loopHeld a.1 a.2.2 n) then .wait
  else c.pageWait (fun t0 => match go with
    | .ok s ws => .ok (neverPerformed c.s s t0) ws
    | e => e)

/-- What an instruction reads at issue has no reply yet, its page being blocked or its home port not having come to it: once the wait is
over the timeout, it traps TIMEOUT (R202, R463). The tag is that of the lowest free entry. -/
def Ctx.readBlocked (c : Ctx) (va : Nat) : Eff :=
  c.pageWait (fun _ =>
    let ent := ((freeEntries c.s (tblOf c.sid) 1).getD [0]).headD 0
    .overdue 0x1B (BitVec.ofNat 64 va) (wd (ent * 16 + (genOf c.s (tblOf c.sid) ent).1)))

/-- A failed check traps, but for one at a blocked page, whose translation waits (R202). -/
def Ctx.faulted (c : Ctx) (f : Flt) (other : Eff) : Eff := if blocked c.s c.t.part f.addr.toNat 1 then other else .trap f.code f.addr 0

/-- The ordering bit of the modifier (R190). -/
def Ctx.ordered (c : Ctx) : Bool := c.o.mod / 16 % 2 = 1

/-- Some access reaches host memory inside a region (R238). -/
def Ctx.hostInTry (c : Ctx) (as : List LaneAcc) : Bool := c.t.inTry && as.any (fun a => regionOf a.2.2 = .host)

/-- Reserve a queue entry for each bound destination (R273): their hardware queues, registers and entries. -/
def reserve (c : Ctx) (s : State) (left : Nat) : State × List (Nat × Nat × Nat) :=
  (boundRegs c.t c.written).foldl (fun (acc : State × List (Nat × Nat × Nat)) b =>
    let id := (acc.1.cluster c.cl).nqe
    (acc.1.modCluster c.cl (fun x => { x with
      nqe := id + 1, hq := Tab.set [] x.hq b.2 (Tab.get [] x.hq b.2 ++ [⟨id, left, List.replicate 96 0, false⟩]) }),
     acc.2 ++ [(b.2, b.1, id)])) (s, [])

/-- The replies of lanes that have just rolled back leave the restored registers (R237). -/
def afterTry (s : State) (sid : Nat) (old new : Stream) : State :=
  ((new.abortm &&& ~~~old.abortm).list).foldl (fun s l => dropLane s sid ((new.tr.map (fun r => r.k)).getD 0) l) (s.setStream sid new)

/-- ORD of an ordered form's packets: its scope, with the release or acquire that its kind makes it (Table 15.2, R190). -/
def Ctx.ordOf (c : Ctx) (kind : ReqKind) : Nat :=
  c.o.mod / 32 + (if kind = .load || kind = .remoteLoad then 16 else if kind = .store || kind = .remoteStore then 8 else 24)

/-- Send the requests of an instruction, under an ordered form or not, and note its acquire. -/
def sendAll (c : Ctx) (s : State) (kind : ReqKind) (acq : Bool) (ps : List Piece) : Eff :=
  let gs := byGranule ps
  let (s1, q) := reserve c s gs.length
  match emit c s1 kind q (if acq then c.ordOf kind else 0) gs with
  | none => .wait
  | some (s2, tags) =>
    .ok (if acq && (kind = .load || kind = .atomic) then s2.modStream c.sid (fun t => { t with acq := t.acq ++ tags }) else s2) []

/-- LD, LDS and LDB (R192, R193): lanes with their addresses, the size, and each lane's destination. Bytes of a committed sector come from the
drain stage, and a region's own stores over them (R234, R246, R457). -/
def loadMeaning (c : Ctx) (lanes : List (Nat × Nat)) (n : Nat) (dst : Nat → Dst) : Eff :=
  if c.held false then .wait
  else match checkLanes c.s c.who Acc.read n n lanes with
    | .error f => c.faulted f (c.readBlocked f.addr.toNat)
    | .ok as =>
      if c.hostInTry as then .abort 5
      else c.passPages false n as (
        let own (a : LaneAcc) : Tab (Option Byte) := committed c.s c.cl a.2.2 n
        if c.t.inTry then
          match c.t.tryAccesses (as.map (fun a => (a.1, a.2.1, a.2.2, n, none))) with
          | none => .abort 1
          | some t1 =>
            let as1 := as.filter (fun a => !t1.abortm.has a.1)
            sendAll c (afterTry c.s c.sid c.t t1) .load false
              (as1.map (fun a => ⟨a.1, a.2.1, a.2.2, .read n, dst a.1, across (t1.buffered a.1 a.2.2 n) (fun e m => Tab.set none m e.1 e.2) (own a)⟩))
        else sendAll c c.s .load c.ordered (as.map (fun a => ⟨a.1, a.2.1, a.2.2, .read n, dst a.1, own a⟩)))

/-- ST, STS, STB and STZ (R192, R193, R200): lanes with their addresses, the alignment, and each lane's bytes. -/
def storeMeaning (c : Ctx) (rel : Bool) (lanes : List (Nat × Nat)) (n : Nat) (data : Nat → List Byte) : Eff :=
  if c.held rel then .wait
  else match checkLanes c.s c.who Acc.write n n lanes with
    | .error f => c.faulted f (c.readBlocked f.addr.toNat)
    | .ok as =>
      if c.hostInTry as then .abort 5
      else
        if c.t.inTry then
          match c.t.tryAccesses (as.map (fun a => (a.1, a.2.1, a.2.2, n, some (data a.1)))) with
          | none => .abort 1
          | some t1 => .ok (afterTry c.s c.sid c.t t1) []
        else c.passPages true n as (sendAll c c.s .store rel (as.map (fun a => ⟨a.1, a.2.1, a.2.2, .write (data a.1), .none, []⟩)))

/-- ATOM, ATOMS, CAS and CASS (R196 to R198). -/
def atomicMeaning (c : Ctx) (hostOk : Bool) (lanes : List (Nat × Nat)) (n : Nat) (op : Nat → MemOp) (dst : Nat → Dst) : Eff :=
  if c.held c.ordered then .wait
  else match checkLanes c.s c.who (Acc.atomic hostOk) n n lanes with
    | .error f => c.faulted f (c.readBlocked f.addr.toNat)
    | .ok as =>
      c.passPages true n as (sendAll c c.s .atomic c.ordered (as.map (fun a => ⟨a.1, a.2.1, a.2.2, op a.1, dst a.1, []⟩)))

/-- The active lanes with their addresses. -/
def Ctx.vas (c : Ctx) : List (Nat × Nat) := c.act.list.map (fun l => (l, c.va l))
/-- The one access of a uniform instruction. -/
def Ctx.uva (c : Ctx) : List (Nat × Nat) := [(c.uniLane, c.va 0)]
/-- The type field. -/
def Ctx.ty (c : Ctx) : Nat := c.o.mod % 16

/-- The bytes of several consecutive vector registers in a lane. -/
def Ctx.vecBytes (c : Ctx) (n l : Nat) : List Byte :=
  (List.range n).flatMap (fun i => bytesOf ((c.view (l / 32)).vAt (c.dReg + i) l).toNat 4)

/-- The scalar destination of a load by its type. -/
def scalarDst (ty r : Nat) : Dst := if ty = 9 then .sp r else .s r ty

/-- The destination of an atomic in a lane: a vector register, a scalar, or none for s0 (R196). -/
def Ctx.atomDst (c : Ctx) (l : Nat) : Dst :=
  match c.o.d with
  | .s 0 => .none
  | .s n => .s n 0
  | _ => .v c.dReg l 0

/-- The source of ATOM and ATOMS: CADD's is FP32, so a small immediate is converted to it (R76, Table 9.7). -/
def Ctx.addend (c : Ctx) (x : Opnd) (l : Nat) : Word :=
  match x with
  | .imm b => if c.ty = 9 then wd (immBits f32 b) else c.src x l
  | x => c.src x l

/-- ATOM's operations that host memory supports (R198). -/
def atomHost (op : Nat) : Bool := op = 0 || op = 8

/-- The home ports of a run of bytes. -/
def homesOf (rs : List (Nat × Nat)) : List Nat := rs.flatMap (fun r => (List.range ((255 + r.2) / 256 + 1)).map (fun i => homeOf (r.1 + 256 * i)))

/-- Earlier requests of the cluster to the home ports of a run are performed, and no sector of it waits in the drain stage (R213). -/
def settled (s : State) (cl : Nat) (rs : List (Nat × Nat)) : Bool :=
  let hs := homesOf rs
  s.reqs.all (fun r => r.done || !r.live || r.cluster ≠ cl || !hs.contains r.home) && rs.all (fun r => !drainHolds s cl r.1 r.2)

/-- A run of memory as the issuer reads it now: of a location in a race, some value that stood there (R219). -/
def Ctx.readNow (c : Ctx) (spa n : Nat) : List Byte :=
  if inRace c.s c.t.know c.t.taint c.sid spa n then racedRead c.s spa n else c.s.readMem spa n

/-- What an instruction reads at issue, before any other effect (R163, R194, R463): the bytes, or how it ends. Where an error in another team's window
has killed that team the instruction issues again, and reads again (DESIGN CHOICE, log 73). -/
def readAtIssue (c : Ctx) (va n al : Nat) : Except Eff (List Byte) :=
  match access c.s c.who Acc.read va n al with
  | .error f => .error (c.faulted f (c.readBlocked f.addr.toNat))
  | .ok _ =>
    let rs := runs c.s c.who Acc.read va n
    if c.held false then .error .wait
    else if unready c.s c.t.part va n then .error (c.readBlocked va)
    else if !settled c.s c.cl rs then .error (c.readBlocked va)
    else match rs.find? (fun r => ueAt c.s r.1 r.2) with
      | some r => match windowOwner c.s r.1 with
        | some tm => .error (.jump (killTeam c.s tm false))
        | none => .error (.trap 0x1C (BitVec.ofNat 64 va) 0)
      | none => .ok (rs.flatMap (fun r => c.readNow r.1 r.2))

/-- The 256-byte granulesIn of a run, one address in each. -/
def granulesIn (r : Nat × Nat) : List Nat :=
  if r.2 = 0 then [] else (List.range ((r.1 + r.2 - 1) / 256 - r.1 / 256 + 1)).map (fun i => if i = 0 then r.1 else (r.1 / 256 + i) * 256)

/-- The requests by which an instruction reads at issue, one for each granule, are counted (R275). -/
def countRuns (s : State) (p : Nat) (rs : List (Nat × Nat)) : State := (rs.flatMap granulesIn).foldl (fun s a => countAccess s p a) s

/-- A stash descriptor (Table 9.6). -/
structure StashDesc where
  pb : Nat
  tb : Nat
  pp : Nat
  tp : Nat
  row0 : Nat
  ncol : Nat
  fmt : Nat
  zero : Nat
deriving DecidableEq, Repr

/-- The fields of a stash descriptor. -/
def stashDesc (bs : List Byte) : StashDesc :=
  ⟨leAt bs 0 8, leAt bs 8 8, leAt bs 16 4, leAt bs 20 4, leAt bs 24 2, leAt bs 26 1, leAt bs 27 1, leAt bs 28 4⟩

/-- The fields that fault ALIGN (R194). -/
def stashOk (d : StashDesc) : Bool :=
  let w := if d.fmt = 1 then 2 else 4
  1 ≤ d.ncol && d.ncol ≤ 32 && d.fmt ≤ 1 && d.zero = 0 && d.pb % w = 0 && d.tb % w = 0 && d.pp % w = 0 && d.tp % w = 0

/-- The elements of a stash: lane, address, bytes; the transposed ones after the plain ones (R195). A bound register gives what its queue
has popped into tv (R273). -/
def stashElems (c : Ctx) (tv : Stream) (d : StashDesc) : List (Nat × Nat × List Byte) :=
  let w := if d.fmt = 1 then 2 else 4
  let word (l r : Nat) : Word := if c.t.bound (.v r) then tv.vAt r l else (c.view (l / 32)).vAt r l
  let el (l j : Nat) : List Byte := bytesOf (word l (c.dReg + j)).toNat w
  c.act.list.flatMap (fun l => (List.range d.ncol).map (fun j => (l, (d.pb + (d.row0 + l) * d.pp + j * w) % 2 ^ 64, el l j)))
    ++ c.act.list.flatMap (fun l => (List.range d.ncol).map (fun j => (l, (d.tb + j * d.tp + (d.row0 + l) * w) % 2 ^ 64, el l j)))

/-- The lower of two faults: lane, then the order of codes, then address (R187). -/
def lowerFault (a b : Option (Nat × Flt)) : Option (Nat × Flt) :=
  match a, b with
  | none, b => b
  | a, none => a
  | some x, some y =>
    if y.1 < x.1 || (y.1 = x.1 && (y.2.rank < x.2.rank || (y.2.rank = x.2.rank && y.2.addr.toNat < x.2.addr.toNat))) then some y else some x

/-- The bytes of the elements gathered by 32-byte sector, later elements over earlier ones. -/
def gatherSectors (s : State) (w : Who) (es : List (Nat × Nat × List Byte)) : List (Nat × Nat × Tab (Option Byte)) :=
  es.foldl (fun acc e => match probe s w Acc.write e.2.1 with
    | .error _ => acc
    | .ok lf =>
      let sec := lf.spa / 32 * 32
      let put (m : Tab (Option Byte)) : Tab (Option Byte) :=
        (List.range e.2.2.length).foldl (fun m i => Tab.set none m (lf.spa + i - sec) (some (nth 0 e.2.2 i))) m
      if acc.any (fun a => a.2.1 = sec) then acc.map (fun a => if a.2.1 = sec then (a.1, a.2.1, put a.2.2) else a)
      else acc ++ [(e.2.1 - (lf.spa - sec), sec, put [])]) []

/-- The source registers of a STASH after its first (R194). -/
def stashMore (c : Ctx) (d : StashDesc) : List Reg := (List.range d.ncol).tail.map (fun j => .v (c.dReg + j))

/-- What the further source registers of a STASH make it do before its stores: trap, or wait; else the state with their queue entries popped
(R87, R207, R273, R406, R415). -/
def stashSources (c : Ctx) (d : StashDesc) : Except Eff (State × Stream) :=
  let rs := stashMore c d
  let plain := rs.filter (fun r => !c.t.bound r)
  let rq := boundRegs c.t rs
  if c.t.hnd.isSome && !rq.isEmpty then .error (.trap 0x42 0 0)
  else if plain.any (fun r => match r with
      | .v n => c.act.list.any (fun l => Tab.get false c.t.vp (96 * n + l))
      | _ => false) then .error (.trap 0x1D 0 0)
  else if plain.any c.t.hwue.contains || rq.any (fun x => (hqOf c.s c.cl x.2).head?.any (fun e => e.bad)) then
    .error (.jump (noteHw (takeTrap c.s c.sid c.k 0x40 0 0) c.sid))
  else if rq.any (fun x => x.2 < 16) then .error (.trap 0x26 0 0)
  else if busy c.s c.sid c.p.id plain then .error .wait
  else match popQueues c.s c.cl (c.view 0) rq with
    | some r => .ok r
    | none => .error .wait

/-- The stores of a STASH stand in the port's stage, and the first of them take entries at once (R204). -/
def stashStores (c : Ctx) (s : State) (secs : List (Nat × Nat × Tab (Option Byte))) (n : Nat) : State :=
  let ds : List Drain := secs.map (fun x => ⟨c.sid, c.t.part, c.cl, x.2.1, x.2.2, c.pc, x.1, none, c.t.launch, false, c.t.team, false, s.fresh⟩)
  let k := s.drains.length
  let s1 := { s with drains := s.drains ++ ds }
  let s2 := s1.modStream c.sid (fun t => { t with outst := t.outst + ds.length })
  let s3 := extWrites s2 c.sid (secs.map (fun x => (x.2.1, 32)))
  (List.range n).foldl (fun s i => sendDrain s (k + i)) s3

/-- STASH (R194, R195, R202, R204). At a blocked page it waits; once that is over the timeout, as many stores as it has entries for issue
and time out. -/
def stashMeaning (c : Ctx) : Eff :=
  let va := c.va 0
  match readAtIssue c va 32 32 with
  | .error e => e
  | .ok bs =>
    let d := stashDesc bs
    if !stashOk d then .trap 0x14 (BitVec.ofNat 64 va) 0
    else if c.t.alloc < c.dReg + d.ncol then .trap 0x07 0 0
    else match stashSources c d with
      | .error e => e
      | .ok (sq, tv) =>
        let es := stashElems c tv d
        let fault := es.foldl (fun m e => lowerFault m (match access c.s c.who Acc.write e.2.1 e.2.2.length 1 with
          | .error f => some (e.1, f)
          | .ok _ => none)) none
        match fault with
        | some f => c.faulted f.2 (c.readBlocked f.2.addr.toNat)
        | none =>
          let secs := gatherSectors c.s c.who es
          if secs.any (fun x => drainHolds c.s c.cl x.2.1 32) then .wait
          else match freeEntries c.s (tblOf c.sid) (min secs.length 96) with
            | none => .wait
            | some es1 =>
              let s0 := countRuns sq c.t.part (runs c.s c.who Acc.read va 32)
              if es.any (fun e => unready c.s c.t.part e.2.1 4) then
                c.pageWait (fun t0 =>
                  let s1 := stashStores c s0 (secs.take es1.length) es1.length
                  .ok { neverPerformed s0 s1 t0 with drains := s0.drains } [])
              else .ok (stashStores c s0 secs es1.length) []

/-- XLT's result (Table 9.8): without a leaf the fields of one are free. For an address with non-zero high bits they show the leaf of its low 48 bits
(DESIGN CHOICE, log 72). -/
def xltWord (c : Ctx) (va : Nat) (acc : Acc) : Addr :=
  let aper : Bool := va / 2 ^ 32 = 0xFFFF
  let leafBits : Option Nat :=
    if aper then (match probe c.s c.who acc va with
      | .ok l => some (bits l.spa 12 36 * 4096 + 3 * 2 ^ 60 + 512)
      | .error _ => none)
    else match lookup c.s c.t.part va with
      | .ok l => some (bits l.pte 63 1 * 2 ^ 63 + bits l.pte 60 3 * 2 ^ 60 + bits l.spa 12 36 * 4096
          + (if l.size = 12 then 0 else if l.size = 16 then 1 else if l.size = 21 then 2 else 3) * 1024)
      | .error _ => none
  let free : Nat := (Config.freeWord c.s.fresh 0).toNat % 2 ^ 4 * 2 ^ 60 + (Config.freeWord c.s.fresh 1).toNat * 4096
    + (Config.freeWord c.s.fresh 2).toNat % 4 * 1024
  let body := leafBits.getD (if aper then (Config.freeWord c.s.fresh 1).toNat * 4096 + 3 * 2 ^ 60 + 512 else free)
  match probe c.s c.who acc va with
  | .ok _ => BitVec.ofNat 64 (body + 1)
  | .error f => BitVec.ofNat 64 (body + 2 * f.code)

/-- XLT (R201). -/
def xltMeaning (c : Ctx) : Eff :=
  let va := c.va 0
  if blocked c.s c.t.part va 1 then .wait
  else .ok c.s (wrPair (Ctx.sn c.o.d) (xltWord c va (if c.o.mod = 1 then Acc.write else Acc.read)))

/-- PINV (R202). PINV.ALL lifts every block of the partition (DESIGN CHOICE, log 74). -/
def pinvMeaning (c : Ctx) : Eff :=
  if !c.t.sys then .trap 0x1A 0 0
  else if c.o.mod = 1 then .ok (c.s.modPart c.t.part (fun p => { p with tlb := [], blocks := [] })) []
  else
    let va := c.va 0
    if 2 ^ 48 ≤ va then .trap 0x10 (BitVec.ofNat 64 va) 0
    else if va / 2 ^ 32 = 0xFFFF then .ok c.s []
    else .ok (c.s.modPart c.t.part (fun p => { p with
      tlb := p.tlb.filter (fun e => e.1 / 64 ≠ va / 2 ^ (e.1 % 64)),
      blocks := p.blocks.filter (fun b => !(decide (b.1 ≤ va) && decide (va < b.1 + 2 ^ b.2))) })) []

/-- The page that holds an address: its first address and the log of its size; 4 KiB where nothing is mapped. -/
def pageOf (s : State) (p va : Nat) : Nat × Nat :=
  match lookup s p va with
  | .ok l => (va / 2 ^ l.size * 2 ^ l.size, l.size)
  | .error _ => (va / 4096 * 4096, 12)

/-- A page map holds a page of a run. -/
def pagesIn (ps : Pages) (b : Nat × Nat) : Bool := ps.any (fun x => b.1 ≤ x.1 * 4096 && x.1 * 4096 < b.1 + 2 ^ b.2)

/-- Work of a cluster's tile port or array that was translated through a page is on its way (R202, R294). -/
def tileBusy (c : Cluster) (b : Nat × Nat) : Bool :=
  c.port.any (fun x => match x.op with
    | .load _ _ _ ps => pagesIn ps b
    | .store _ _ _ ps => pagesIn ps b
    | _ => false)
  || c.cq.any (fun x => match x.cmd with
    | .drain _ _ _ _ _ _ _ _ _ _ _ ps _ => pagesIn ps b
    | .sload _ ps => pagesIn ps b
    | .sstore _ ps => pagesIn ps b
    | .sgrad _ _ _ _ _ _ ps _ => pagesIn ps b
    | _ => false)

/-- Some request translated through a page is on its way (R202). -/
def pageBusy (s : State) (p : Nat) (b : Nat × Nat) : Bool :=
  s.reqs.any (fun r => r.part = p && r.live && r.pieces.any (fun x => b.1 ≤ x.va && x.va < b.1 + 2 ^ b.2))
    || s.clusters.any (fun e => ownerOf s e.1 = some p && tileBusy e.2 b)
    || s.strm.any (fun e => bits e.2.reg.toNat 37 3 = p && (e.2.pending.any (fun q => q.box.any (fun x => pagesIn x.2 b)) || e.2.subs.any (fun y => y.moving.any (fun m => pagesIn m.pages b))))
    || s.eops.any (fun e => e.2.any (fun x => x.part = p && (pagesIn x.pages b || x.moving.any (fun m => pagesIn m.pages b))))
    || s.drains.any (fun d => d.part = p && b.1 ≤ d.va && d.va < b.1 + 2 ^ b.2)
    || s.pwait.any (fun r => r.part = p && r.live && r.va.any (fun a => b.1 ≤ a && a < b.1 + 2 ^ b.2))

/-- PWB (R202): it blocks the page, then waits for what was translated through it; a 17th block waits. -/
def pwbMeaning (c : Ctx) : Eff :=
  let va := c.va 0
  if !c.t.sys then .trap 0x1A 0 0
  else if 2 ^ 48 ≤ va then .trap 0x10 (BitVec.ofNat 64 va) 0
  else if va / 2 ^ 32 = 0xFFFF then .ok c.s []
  else
    let b := pageOf c.s c.t.part va
    match c.p.wait with
    | some _ => if pageBusy c.s c.t.part b then .wait else .ok c.s []
    | none =>
      if 16 ≤ (c.s.part c.t.part).blocks.length then .wait
      else
        let s := c.s.modPart c.t.part (fun p => { p with blocks := b :: p.blocks })
        if pageBusy s c.t.part b then .jump (s.setStream c.sid (c.t.setPath c.k (some { c.p with wait := some .begun }))) else .ok s []

/-- LD (R192). -/
def execLd (o : Opnds) (s : State) : Host.Outcome State Fault Refusal := issue 0x70 o s (fun c => loadMeaning c c.vas (typeSize c.ty) (fun l => .v c.dReg l c.ty))

/-- ST (R192). -/
def execSt (o : Opnds) (s : State) : Host.Outcome State Fault Refusal := 
  issue 0x71 o s (fun c => storeMeaning c c.ordered c.vas (typeSize c.ty) (fun l => storeBytes c.ty (c.vec o.d l)))

/-- LDS (R193). -/
def execLds32 (o : Opnds) (s : State) : Host.Outcome State Fault Refusal := issue 0x72 o s (fun c => loadMeaning c c.uva (typeSize c.ty) (fun _ => scalarDst c.ty (Ctx.sn o.d)))

/-- LDS (R193). -/
def execLds (o : Opnds) (s : State) : Host.Outcome State Fault Refusal := issue 0x72 o s (fun c => loadMeaning c c.uva (typeSize c.ty) (fun _ => scalarDst c.ty (Ctx.sn o.d)))

/-- STS (R193). -/
def execSts32 (o : Opnds) (s : State) : Host.Outcome State Fault Refusal := 
  issue 0x73 o s (fun c => storeMeaning c c.ordered c.uva (typeSize c.ty) (fun _ =>
    if c.ty = 9 then bytesOf (c.pair (Ctx.sn o.d)).toNat 8 else storeBytes c.ty (c.uni o.d)))

/-- STS (R193). -/
def execSts (o : Opnds) (s : State) : Host.Outcome State Fault Refusal := 
  issue 0x73 o s (fun c => storeMeaning c c.ordered c.uva (typeSize c.ty) (fun _ =>
    if c.ty = 9 then bytesOf (c.pair (Ctx.sn o.d)).toNat 8 else storeBytes c.ty (c.uni o.d)))

/-- LDB (R192). -/
def execLdb (o : Opnds) (s : State) : Host.Outcome State Fault Refusal := 
  issue 0x74 o s (fun c =>
    let n := if o.mod % 4 = 1 then 2 else 4
    loadMeaning c c.vas (4 * n) (fun l => .vs c.dReg l n 0))

/-- STB (R192). -/
def execStb (o : Opnds) (s : State) : Host.Outcome State Fault Refusal := 
  issue 0x75 o s (fun c =>
    let n := if o.mod % 4 = 1 then 2 else 4
    storeMeaning c c.ordered c.vas (4 * n) (c.vecBytes n))

/-- STASH (R194, R195). -/
def execStash (o : Opnds) (s : State) : Host.Outcome State Fault Refusal := issue 0x76 o s stashMeaning

/-- ATOM (R196). -/
def execAtom (o : Opnds) (s : State) : Host.Outcome State Fault Refusal := 
  issue 0x77 o s (fun c => atomicMeaning c (atomHost c.ty) c.vas 4 (fun l => .atom c.ty (c.addend o.c l) c.mode) c.atomDst)

/-- ATOMS (R197). -/
def execAtoms (o : Opnds) (s : State) : Host.Outcome State Fault Refusal := 
  issue 0x78 o s (fun c => atomicMeaning c (atomHost c.ty) c.uva 4 (fun _ => .atom c.ty (c.addend o.c 0) c.mode) c.atomDst)

/-- CAS (R197). -/
def execCas (o : Opnds) (s : State) : Host.Outcome State Fault Refusal := 
  issue 0x79 o s (fun c => atomicMeaning c true c.vas 4 (fun l => .cas (c.vec o.d l) (c.src o.c l)) c.atomDst)

/-- CASS (R197). -/
def execCass (o : Opnds) (s : State) : Host.Outcome State Fault Refusal := 
  issue 0x7A o s (fun c =>
    if o.mod % 2 = 1 then
      atomicMeaning c true c.uva 8 (fun _ => .cas64 (c.pair (Ctx.sn o.d)) (c.pair (Ctx.sn o.c))) (fun _ => .sp (Ctx.sn o.d))
    else atomicMeaning c true c.uva 4 (fun _ => .cas (c.uni o.d) (c.uni o.c)) c.atomDst)

/-- PREF has no architectural effect (R200). -/
def execPref (o : Opnds) (s : State) : Host.Outcome State Fault Refusal := issue 0x7B o s (fun c => .ok c.s [])

/-- PINV (R202). -/
def execPinv (o : Opnds) (s : State) : Host.Outcome State Fault Refusal := issue 0x7C o s pinvMeaning

/-- PWB (R202). -/
def execPwb (o : Opnds) (s : State) : Host.Outcome State Fault Refusal := issue 0x7D o s pwbMeaning

/-- XLT (R201). -/
def execXlt (o : Opnds) (s : State) : Host.Outcome State Fault Refusal := issue 0x7E o s xltMeaning

/-- STZ (R200). -/
def execStz (o : Opnds) (s : State) : Host.Outcome State Fault Refusal := issue 0x7F o s (fun c => storeMeaning c false c.uva 256 (fun _ => List.replicate 256 0))

end Sys2Proof.Machine
end

