-- ==== Sys2Proof/Machine/Ordering.lean ====
section
/-! DEFINITION. Fences and team barriers (R210 to R230). -/
namespace Sys2Proof.Machine

/-- The team of the issuer; a stream without one stands for a team of one course (log 3). -/
def Ctx.team (c : Ctx) : Team := (c.s.team? c.t.team).getD
  { part := c.t.part, launch := 0, index := 0, cluster := c.cl, courses := [], slots := [], ncourses := 1, seq := false, wbase := 0, wsize := 0, bars := [],
    restarts := 0, killed := false, cancelled := false, displaced := none }

/-- A barrier at team start (R226). -/
def Team.bar0 (tm : Team) : Bar := ⟨tm.ncourses, 0, 0, [], []⟩
/-- A barrier of a team. -/
def Team.bar (tm : Team) (n : Nat) : Bar := Tab.get tm.bar0 tm.bars n
/-- Write a barrier of the issuer's team. -/
def Ctx.setBar (c : Ctx) (s : State) (n : Nat) (b : Bar) : State :=
  let tm := c.team
  s.setTeam c.t.team (some { tm with bars := Tab.set tm.bar0 tm.bars n b })

/-- One arrival (R226), with what happens before it (R216). -/
def Bar.arrive (b : Bar) (k : Tab Nat) : Bar :=
  let a := joinClk b.arr k
  if b.cnt + 1 = b.exp then { b with cnt := 0, ph := b.ph + 1, arr := [], rel := joinClk b.rel a } else { b with cnt := b.cnt + 1, arr := a }
/-- The issuer passes a barrier: the arrivals happen before what it does next (R216). -/
def Ctx.pass (c : Ctx) (s : State) (b : Bar) : State := s.modStream c.sid (fun t => { t with know := joinClk t.know b.rel })
/-- What happens before an arrival of the issuer. -/
def Ctx.knowNow (c : Ctx) : Tab Nat := Machine.knowNow c.s c.sid c.t

/-- The barrier id of field A (R227). -/
def Ctx.barId (c : Ctx) : Nat := (c.uni c.o.a).toNat

/-- FENCE (R223). -/
def fenceMeaning (c : Ctx) : Eff :=
  let stores := c.o.mod % 4 ≠ 1
  let loads := c.o.mod % 4 ≠ 2
  if (stores && c.t.outst ≠ 0) || (loads && loadsOut c.s c.sid) then .wait else .ok c.s []

/-- A migration copy (R264). -/
def EngKind.isMig : EngKind → Bool
  | .copy 2 _ => true
  | _ => false

/-- The operation's writes are persist requests: COPY.PST, and COPY.MIG to SCM (R264, Table 12.1). -/
def EngOp.persists (x : EngOp) : Bool :=
  match x.kind with
  | .copy m _ => m = 1 || (m = 2 && regionOf x.a.base = .scm)
  | _ => false

/-- The class of an engine operation as a bit of a class mask (R222, R253, R339). -/
def EngOp.classBit (x : EngOp) : Nat :=
  match x.kind with
  | .copy _ _ => if x.persists then 5 else 2
  | .gather => 3
  | .scatter _ => 3
  | .mcst => 4
  | .mcred => 4

/-- Some request of class P that the stream made waits for acceptance (R348). -/
def persistOut (s : State) (sid : Nat) : Bool := s.pwait.any (fun r => r.live && r.sid = some sid)

/-- An operation has persist entries to hand on or to have accepted (R353, R451). -/
def EngOp.handing (x : EngOp) : Bool := x.persists && (x.pleft ≠ 0 || !x.done)

/-- A copy of class P that the stream issued has entries that are not accepted (R451). -/
def copyOut (s : State) (sid : Nat) : Bool := s.eops.any (fun e => e.2.any (fun x => x.sid = some sid && x.handing))

/-- An operation of a class that the stream issued is not complete (R224). -/
def opOut (s : State) (sid n : Nat) : Bool := s.eops.any (fun e => e.2.any (fun x => x.sid = some sid && x.classBit = n))

/-- Work of a class that the issuer started is not complete (R224). -/
def classBusy (c : Ctx) (n : Nat) : Bool :=
  match n with
  | 0 => c.t.outst ≠ 0 || loadsOut c.s c.sid || c.othersOut
  | 1 => (c.seq && (!(c.s.cluster c.cl).cq.isEmpty || !(c.s.cluster c.cl).port.isEmpty))
      || pubOut c.s c.sid
  | 5 => persistOut c.s c.sid || opOut c.s c.sid 5 || c.s.pq.any (fun e => e.sid = some c.sid)
  | n => opOut c.s c.sid n

/-- FENCE.X (R224): the source classes are done, and the accesses the issuer makes after it come after. -/
def fenceXMeaning (c : Ctx) : Eff :=
  let f := Ctx.fn c.o.d
  if (List.range 6).any (fun n => f.testBit n && classBusy c n) then .wait else .ok c.s []

/-- OUTRD (R225). -/
def outrdMeaning (c : Ctx) : Eff := .ok c.s [.s (Ctx.sn c.o.d) (wd c.t.outst)]

/-- BAR (R227, R229): the arrival is made once; the old phase stands in the path while it waits. -/
def barMeaning (c : Ctx) : Eff :=
  let n := c.barId
  match c.p.wait with
  | some (.bar ph) => if (c.team.bar n).ph.toNat = ph then .wait else .ok (c.pass c.s (c.team.bar n)) []
  | _ =>
    if 7 < n then .trap 0x1F 0 0
    else if c.t.divided then .trap 0x1E 0 0
    else if loadsOut c.s c.sid then .wait
    else
      let b := c.team.bar n
      let a := b.arrive c.knowNow
      let s := c.setBar c.s n a
      if a.ph = b.ph then .jump (s.setStream c.sid (c.t.setPath c.k (some { c.p with wait := some (.bar b.ph.toNat) }))) else .ok (c.pass s a) []

/-- BARA (R227). -/
def baraMeaning (c : Ctx) : Eff :=
  let n := c.barId
  if 7 < n then .trap 0x1F 0 0
  else if c.t.divided then .trap 0x1E 0 0
  else if loadsOut c.s c.sid then .wait
  else .ok (c.setBar c.s n ((c.team.bar n).arrive c.knowNow)) [.s (Ctx.sn c.o.d) (c.team.bar n).ph]

/-- BARW (R227). -/
def barwMeaning (c : Ctx) : Eff :=
  let n := c.barId
  if 7 < n then .trap 0x1F 0 0
  else if (c.team.bar n).ph = c.uni c.o.b then .wait else .ok (c.pass c.s (c.team.bar n)) []

/-- BARI (R227). -/
def bariMeaning (c : Ctx) : Eff :=
  let n := c.barId
  let b := (c.uni c.o.b).toNat
  if 7 < n || b = 0 || 255 < b then .trap 0x1F 0 0
  else if (c.team.bar n).cnt ≠ 0 then .trap 0x20 0 0
  else .ok (c.setBar c.s n { c.team.bar n with exp := b, cnt := 0 }) []

/-- BARQ (R227). -/
def barqMeaning (c : Ctx) : Eff :=
  let n := c.barId
  if 7 < n then .trap 0x1F 0 0
  else
    let b := c.team.bar n
    .ok c.s [.s (Ctx.sn c.o.d) ((b.ph <<< 16) ||| wd (256 * b.exp + b.cnt))]

/-- FENCE (R223). -/
def execFence (o : Opnds) (s : State) : Host.Outcome State Fault Refusal := issue 0x80 o s fenceMeaning

/-- FENCE.X (R224). -/
def execFenceX (o : Opnds) (s : State) : Host.Outcome State Fault Refusal := issue 0x81 o s fenceXMeaning

/-- OUTRD (R225). -/
def execOutrd32 (o : Opnds) (s : State) : Host.Outcome State Fault Refusal := issue 0x82 o s outrdMeaning

/-- OUTRD (R225). -/
def execOutrd (o : Opnds) (s : State) : Host.Outcome State Fault Refusal := issue 0x82 o s outrdMeaning

/-- BAR (R226, R227). -/
def execBar32 (o : Opnds) (s : State) : Host.Outcome State Fault Refusal := issue 0x83 o s barMeaning

/-- BAR (R226, R227). -/
def execBar (o : Opnds) (s : State) : Host.Outcome State Fault Refusal := issue 0x83 o s barMeaning

/-- BARA (R227). -/
def execBara32 (o : Opnds) (s : State) : Host.Outcome State Fault Refusal := issue 0x84 o s baraMeaning

/-- BARA (R227). -/
def execBara (o : Opnds) (s : State) : Host.Outcome State Fault Refusal := issue 0x84 o s baraMeaning

/-- BARW (R227). -/
def execBarw32 (o : Opnds) (s : State) : Host.Outcome State Fault Refusal := issue 0x85 o s barwMeaning

/-- BARW (R227). -/
def execBarw (o : Opnds) (s : State) : Host.Outcome State Fault Refusal := issue 0x85 o s barwMeaning

/-- BARI (R227). -/
def execBari (o : Opnds) (s : State) : Host.Outcome State Fault Refusal := issue 0x86 o s bariMeaning

/-- BARQ (R227). -/
def execBarq32 (o : Opnds) (s : State) : Host.Outcome State Fault Refusal := issue 0x87 o s barqMeaning

/-- BARQ (R227). -/
def execBarq (o : Opnds) (s : State) : Host.Outcome State Fault Refusal := issue 0x87 o s barqMeaning

end Sys2Proof.Machine
end

