-- ==== Sys2Proof/Machine/Windlass.lean ====
section
/-! DEFINITION. The persist queue and the Windlass: acceptance, drain, snapshots and erasure stripes (R346 to R350, R357 to R368, R451, R452, R466). -/
namespace Sys2Proof.Machine

-- The persist queue

/-- Capacity of the persist queue in entries (R347). -/
def pqSize : Nat := 131072

/-- A copy of class P of a stream with an earlier epoch has entries that are not accepted (R353, R451). -/
def copyBefore (s : State) (sid epoch : Nat) : Bool := s.eops.any (fun e => e.2.any (fun x => x.sid = some sid && x.epoch < epoch && x.handing))

/-- A request may be accepted: no earlier one of its cluster waits for the same media partition, and no PBAR holds it (R213, R353). -/
def mayAccept (s : State) (k : Nat) : Bool :=
  match s.pwait[k]? with
  | none => false
  | some r =>
    islandUp s 22 && s.huok && s.pq.length < pqSize
      && (s.pwait.take k).all (fun x => !x.live || x.cluster ≠ r.cluster || (homeOf x.spa ≠ homeOf r.spa && (x.run ≠ r.run || r.run = 0)))
      && (match r.sid with
        | none => true
        | some i => s.pwait.all (fun x => !x.live || x.sid ≠ some i || r.epoch ≤ x.epoch) && !copyBefore s i r.epoch)

/-- A record enters the record unit: the slot's record is valid with its step, or invalid (R360, R363, R365, R367). -/
def Snap.marked (n : Snap) (m : Mark) : Snap :=
  if m.which = 0 then
    if m.kind = 1 then
      let n := { n with loc := Tab.set none n.loc m.slot (some m.step), dirty := [], old := [] }
      if n.st = 1 then { n with st := if n.alone then 0 else 2 } else n
    else { n with loc := Tab.set none n.loc m.slot none }
  else if m.kind = 2 then
    { n with str := Tab.set none n.str m.slot (some m.step), st := if n.st = 2 then 0 else n.st }
  else { n with str := Tab.set none n.str m.slot none }

/-- The requester of a persist request; none for the Windlass, which is in the hub. -/
def PReq.sender (r : PReq) (s : State) : Option Sender :=
  match r.tag, r.op with
  | some t, _ => some t.sender
  | none, some n => (s.eop? n).map (fun x => x.sender n)
  | none, none => none
/-- The bytes of a persist request, as writes. -/
def PReq.pieces (r : PReq) : List Piece := r.bytes.map (fun b => ⟨0, 0, b.1, .write [b.2], .none, []⟩)

/-- The k-th waiting request is accepted: it is durable, its table entry is freed (R347, R348). -/
def acceptReq (s : State) (k : Nat) : State :=
  match s.pwait[k]? with
  | none => s
  | some r =>
    if mayAccept s k then
      let s := { s with
        pwait := dropNth s.pwait k, pseq := s.pseq + 1,
        pq := s.pq ++ [⟨s.pseq + 1, r.part, r.sid, r.step, r.spa, r.bytes, r.launch⟩] }
      let s := match r.sender s with
        | some x => s.exchange x r.pieces (r.pieces.map (fun _ => [])) false
        | none => s
      let s := match r.mark with
        | some m => s.modPart r.part (fun x => { x with snap := x.snap.marked m })
        | none => s
      let s := match r.op with
        | some n => (match s.eop? n with
          | some x => s.setEop n (some { x with pleft := x.pleft - 1 })
          | none => s)
        | none => s
      match r.tag, r.live with
      | some t, true => (match Tab.get none s.ott (entKey t.tbl t.ent) with
        | some e => if (genOf s t.tbl t.ent).1 = t.gen then freeEntry s t.tbl t.ent e else s
        | none => s)
      | _, _ => s
    else s

/-- SCM as it will read once every accepted entry has drained. -/
def scmNow (s : State) (a n : Nat) : List Byte :=
  let hits := s.pq.filter (fun e => e.bytes.any (fun b => a ≤ b.1 && b.1 < a + n))
  let over_ : Tab (Option Byte) := hits.foldl (fun m e => e.bytes.foldl (fun m b => Tab.set none m b.1 (some b.2)) m) []
  (s.readMem a n).zipIdx.map (fun x => (Tab.get none over_ (a + x.2)).getD x.1)

-- Snapshots

/-- CRC-32C over bytes, initialised and inverted (R144, R360). -/
def crc32c (bs : List Byte) : Word :=
  ~~~(bs.foldl (fun c b => crcBit 0x82F63B78 8 (c ^^^ b.setWidth 32)) (BitVec.allOnes 32))

/-- Pages of 64 KiB in a length. -/
def pages (n : Nat) : Nat := (65535 + n) / 65536

/-- The image length of a region (R358). -/
def SRegion.image (r : SRegion) : Nat := if r.kind = 1 then r.len * 3 / 2 else if r.kind = 2 then r.len / 2 else r.len

/-- The SCM offset of a region's image within a slot (R358). -/
def imageOff (rs : List SRegion) (i : Nat) : Nat := 65536 + ((rs.take i).map (fun r => 65536 * pages r.image)).foldl (· + ·) 0

/-- The current snapshot: the valid local record with the highest step, and its slot (R360). -/
def Snap.cur (n : Snap) : Option (Nat × Nat) :=
  match Tab.get none n.loc 0, Tab.get none n.loc 1 with
  | some a, some b => if a < b then some (b, 1) else some (a, 0)
  | some a, none => some (a, 0)
  | none, some b => some (b, 1)
  | none, none => none

/-- A snapshot is stripe-committed: this package and the nine others hold a valid stripe record of its step (R367). -/
def Snap.striped (n : Snap) (step : Nat) : Bool :=
  [0, 1].any (fun k => Tab.get none n.str k = some step) && 9 ≤ ((List.range 10).filter (fun p => n.peers.contains (p, step))).length

/-- A snapshot with at least a step is stripe-committed (R353). -/
def Snap.stripedFrom (n : Snap) (step : Nat) : Bool :=
  [0, 1].any (fun k => (Tab.get none n.str k).any (fun st => step ≤ st && n.striped st))

/-- The newest stripe record's step. -/
def Snap.newest (n : Snap) : Option Nat :=
  match Tab.get none n.str 0, Tab.get none n.str 1 with
  | some a, some b => some (max a b)
  | some a, none => some a
  | none, b => b

/-- The slot of the valid local record of a step. -/
def Snap.slotOf (n : Snap) (step : Nat) : Option Nat :=
  if Tab.get none n.loc 0 = some step then some 0 else if Tab.get none n.loc 1 = some step then some 1 else none

/-- The bytes of a commit record (Table 16.5a). -/
def recordBytes (d : SDesc) (kind step slot : Nat) : List Byte :=
  let b := bytesOf step 8 ++ bytesOf d.rgid 4 ++ bytesOf d.pos 1 ++ bytesOf slot 1 ++ bytesOf kind 1 ++ [0]
    ++ bytesOf (d.z / 65536) 4 ++ bytesOf (crc32c d.raw).toNat 4 ++ List.replicate 36 0
  b ++ bytesOf (crc32c b).toNat 4

/-- The snapshot directory (R361). -/
def dirOff : Nat := scmLimit
/-- The bytes of a directory entry (R361). -/
def dirBytes (d : SDesc) : List Byte :=
  let b := [1] ++ List.replicate 7 0 ++ bytesOf d.img 8 ++ bytesOf d.z 8 ++ bytesOf d.rgid 4 ++ bytesOf d.pos 1 ++ List.replicate 31 0
  b ++ bytesOf (crc32c b).toNat 4

/-- Bytes at an SCM offset as writes of one granule each. -/
def granules (off : Nat) (bs : List Byte) : List (Nat × List (Nat × Byte)) :=
  let f (acc : List (Nat × List (Nat × Byte))) (x : Byte × Nat) : List (Nat × List (Nat × Byte)) :=
    let a := scmSpa (off + x.2)
    match acc with
    | (g, l) :: rest => if a / 256 = g / 256 then (g, (a, x.1) :: l) :: rest else (a, [(a, x.1)]) :: acc
    | [] => [(a, [(a, x.1)])]
  ((bs.zipIdx.foldl f []).map (fun g => (g.1, g.2.reverse))).reverse

/-- The cluster number by which the hub's own requests keep their order. -/
def hubPort : Nat := 1000

/-- The Windlass enqueues untagged bytes at an SCM offset through the persist queue (R364). -/
def hubWrite (s : State) (p off : Nat) (bs : List Byte) (mark : Option Mark) : State :=
  { s with pwait := s.pwait ++ (granules off bs).map (fun g => ⟨none, none, hubPort, hubPort, 0, p, none, g.1, none, g.2, none, mark, true, 0⟩) }

/-- The Windlass enqueues bytes of a restored region, tagged with the snapshot's step (R369). -/
def hubRestore (s : State) (p off : Nat) (step : Word) (bs : List Byte) : State :=
  { s with pwait := s.pwait ++ (granules off bs).map (fun g => ⟨none, none, hubPort, hubPort, 0, p, some step, g.1, none, g.2, none, none, true, 0⟩) }

/-- Some request of the Windlass for a partition waits for acceptance. -/
def hubOut (s : State) (p : Nat) : Bool := s.pwait.any (fun r => r.part = p && r.cluster = hubPort)

/-- A record enters the persist queue. -/
def hubRecord (s : State) (p : Nat) (d : SDesc) (m : Mark) : State :=
  hubWrite s p (d.img + 2 * d.z + 128 * m.which + 64 * m.slot) (recordBytes d m.kind m.step m.slot) (some m)

/-- A byte of SCM as the armed step leaves it (R364). -/
def stepByte (s : State) (n : Snap) (a : Nat) : Byte := (Tab.get none n.old a).getD (s.byteAt a)
/-- n bytes of SCM as the armed step leaves them. -/
def stepBytes (s : State) (n : Snap) (off len : Nat) : List Byte := (List.range len).map (fun i => stepByte s n (scmSpa (off + i)))

/-- The wire bytes of a weight (R66). -/
def weightWire (w : Word) : List Byte :=
  if (f32.num false w.toNat).isNan then [0xC0, 0x7F, 0] else [w.extractLsb' 16 8, w.extractLsb' 24 8, w.extractLsb' 8 8]
/-- The wire bytes of a moment (R66). -/
def momentWire (u : Word) : List Byte :=
  if (f32.num false u.toNat).isNan then [0xC0, 0x7F] else [u.extractLsb' 16 8, u.extractLsb' 24 8]

/-- The image bytes of elements [i, i + n) of a region: 1-byte, weight or moment elements (R358, R66). -/
def imageOf (s : State) (n : Snap) (r : SRegion) (i cnt : Nat) : List Byte :=
  match r.kind with
  | 1 => (List.range cnt).flatMap (fun j =>
      weightWire (wd (ofBytes (stepBytes s n (r.base + 2 * (i + j)) 2) * 65536 + ofBytes (stepBytes s n (r.xbase + 2 * (i + j)) 2))))
  | 2 => (List.range cnt).flatMap (fun j => momentWire (wd (ofBytes (stepBytes s n (r.base + 4 * (i + j)) 4))))
  | _ => stepBytes s n (r.base + i) cnt
/-- Element size in the image, and in the region's plane. -/
def SRegion.wire (r : SRegion) : Nat × Nat := if r.kind = 1 then (3, 2) else if r.kind = 2 then (2, 4) else (1, 1)

/-- A media error in what the Windlass reads of a snapshot fails it (R370). -/
def failMedia (s : State) (p : Nat) : State := s.modPart p (fun x => { x with snap := { x.snap with st := 3, err := 3 } })

/-- The Windlass reads a run of a slot: some of its bytes hold an uncorrectable error (R370). -/
def slotBad (s : State) (off n : Nat) : Bool := ueAt s (scmSpa off) n

/-- The Windlass reads elements [i, i + cnt) of a region: some of their bytes hold an uncorrectable error (R370). -/
def mediaError (s : State) (r : SRegion) (i cnt : Nat) : Bool :=
  let w := r.wire.2
  ueAt s (scmSpa (r.base + w * i)) (w * cnt) || (r.kind = 1 && ueAt s (scmSpa (r.xbase + w * i)) (w * cnt))

/-- The Windlass writes the image of a region's elements [i, i + cnt); a media error in what it reads fails the snapshot (R364, R370). -/
def writeImage (s : State) (p : Nat) (d : SDesc) (slot ri i cnt : Nat) : State :=
  match d.regs[ri]? with
  | none => s
  | some r =>
    if mediaError s r i cnt then failMedia s p
    else hubWrite s p (d.img + slot * d.z + imageOff d.regs ri + r.wire.1 * i) (imageOf s (s.part p).snap r i cnt) none

/-- The Windlass captures a page unit (R364). -/
def capture (s : State) (p : Nat) (u : Nat × Nat) : State :=
  let n := (s.part p).snap
  match n.desc with
  | none => s
  | some d => match d.regs[u.1]? with
    | none => s
    | some r =>
      let s := s.modPart p (fun x => { x with snap := { x.snap with left := x.snap.left.filter (fun y => y ≠ u) } })
      let per := 65536 / r.wire.2
      writeImage s p d n.slot u.1 (per * u.2) per

/-- The page units of a snapshot's regions (R363, R364). -/
def allUnits (d : SDesc) : List (Nat × Nat) := d.regs.zipIdx.flatMap (fun r => (List.range (r.1.len / 65536)).map (fun i => (r.2, i)))

/-- The unit and the element of a region that an SCM offset lies in. -/
def unitAt (d : SDesc) (off : Nat) : Option ((Nat × Nat) × Nat) :=
  d.regs.zipIdx.findSome? (fun x =>
    let r := x.1
    if r.base ≤ off && off < r.base + r.len then some ((x.2, (off - r.base) / 65536), (off - r.base) / r.wire.2)
    else if r.kind = 1 && r.xbase ≤ off && off < r.xbase + r.len then some ((x.2, (off - r.xbase) / 65536), (off - r.xbase) / 2)
    else none)

/-- The units and elements that an entry's bytes lie in, each once. -/
def unitsOf (d : SDesc) (bs : List (Nat × Byte)) : List ((Nat × Nat) × Nat) :=
  bs.foldl (fun l b => match unitAt d (scmOff b.1) with
    | some u => if l.contains u then l else l ++ [u]
    | none => l) []

/-- An entry's bytes reach live SCM. -/
def liveWrite (s : State) (e : PEnt) : State :=
  let s := e.bytes.foldl (fun s b => s.writeMem b.1 [b.2]) s
  let add (l : List Nat) : List Nat := e.bytes.foldl (fun l b => if l.contains (scmOff b.1 / 65536) then l else scmOff b.1 / 65536 :: l) l
  if e.step.isSome then s.modPart e.part (fun x => { x with snap := { x.snap with dirty := add x.snap.dirty } }) else s

/-- An entry drains: copy aside, the write, and the patch (R347, R364). -/
def drainEntry (s : State) (e : PEnt) : State :=
  let n := (s.part e.part).snap
  match n.st, n.desc, e.step with
  | 1, some d, some g =>
    let us := unitsOf d e.bytes
    if n.step < g.toNat then
      let s := (us.map (fun u => u.1)).foldl (fun s u => if (s.part e.part).snap.left.contains u then capture s e.part u else s) s
      let n := (s.part e.part).snap
      let old := e.bytes.foldl (fun o b => if (unitAt d (scmOff b.1)).isSome && (Tab.get none o b.1).isNone then
        Tab.set none o b.1 (some (s.byteAt b.1)) else o) n.old
      liveWrite (s.modPart e.part (fun x => { x with snap := { x.snap with old := old } })) e
    else
      let old := e.bytes.foldl (fun o b => if (Tab.get none o b.1).isSome then Tab.set none o b.1 (some b.2) else o) n.old
      let s := liveWrite (s.modPart e.part (fun x => { x with snap := { x.snap with old := old } })) e
      us.foldl (fun s u => if (s.part e.part).snap.left.contains u.1 || n.recorded || (s.part e.part).snap.st ≠ 1 then s
        else writeImage s e.part d n.slot u.1.1 u.2 1) s
  | _, _, _ => liveWrite s e

/-- The oldest entry drains (R347). -/
def drainOldest (s : State) : State :=
  match s.pq with
  | [] => s
  | e :: rest => if islandUp s 22 then drainEntry { s with pq := rest } e else s

/-- The courses of a partition, resident or displaced (R365). -/
def coursesOf (s : State) (p : Nat) : List Stream :=
  (s.streams.filterMap (fun e => match e.2 with
    | some t => if t.part = p && !isSeq e.1 then some t else none
    | none => none))
  ++ (s.teams.flatMap (fun e => match e.2 with
    | some tm => if tm.part = p then (match tm.displaced with
        | some d => d.courses
        | none => []) else []
    | none => []))

/-- A course's copy of class P will hand on, or has handed on, entries tagged at most a step (R365). -/
def copyTagged (s : State) (p step : Nat) : Bool :=
  s.eops.any (fun e => e.2.any (fun x => x.part = p && x.handing && x.tag.any (fun g => g.toNat ≤ step)))

/-- The conditions of a local commit (R365). -/
def mayCommit (s : State) (p : Nat) : Bool :=
  let x := s.part p
  let n := x.snap
  n.st = 1 && !n.recorded && n.left.isEmpty && n.step < x.pstepmax.toNat
    && (coursesOf s p).all (fun t => n.step < t.step.toNat)
    && s.pwait.all (fun r => r.part ≠ p || ((r.sid.isSome || r.op.isSome || r.cluster ≠ hubPort)
        && (!r.live || r.step.all (fun g => n.step < g.toNat))))
    && s.pq.all (fun e => e.part ≠ p || e.step.all (fun g => n.step < g.toNat))
    && !copyTagged s p n.step

/-- The Windlass enqueues the local record once every condition holds (R365). -/
def commitLocal (s : State) (p : Nat) : State :=
  let n := (s.part p).snap
  match n.desc with
  | none => s
  | some d =>
    if mayCommit s p then
      hubRecord (s.modPart p (fun x => { x with snap := { x.snap with recorded := true } })) p d ⟨0, 1, n.step, n.slot⟩
    else s

-- DOMCTL (Table 15.1)

/-- SELF of a partition. -/
def Part.self_ (x : Part) : Nat := bits x.domctl.toNat 0 9
/-- DEN of a partition. -/
def Part.den (x : Part) : Bool := x.domctl.getLsbD 9
/-- DJOB of a partition. -/
def Part.djob (x : Part) : Nat := bits x.domctl.toNat 16 16
/-- DLAST of a partition. -/
def Part.dlast (x : Part) : Nat := bits x.domctl.toNat 32 9

/-- The partition that a fabric request reaches (R325); none once the package's routes are removed (R441). -/
def targetPart (s : State) (djob : Nat) : Option Nat :=
  (List.range 8).find? (fun p => s.routes && (s.part p).den && (s.part p).djob = djob && (s.part p).wdreset.isNone)

-- Erasure stripes

/-- Multiplication by the generator in GF(2^8), polynomial 0x11D (R366). -/
def gfDouble (b : Byte) : Byte := (b <<< 1) ^^^ (if b.getLsbD 7 then 0x1D else 0)
/-- The product with the i-th power of the generator. -/
def gfScale (b : Byte) : Nat → Byte
  | 0 => b
  | i + 1 => gfDouble (gfScale b i)
/-- The product of two elements. -/
def gfMul (a b : Byte) : Byte := (List.range 8).foldl (fun r i => if b.getLsbD i then r ^^^ gfScale a i else r) 0

/-- The stripes of a slot (R366). -/
def stripes (d : SDesc) : Nat := 10 * ((d.z / 65536 + 7) / 8)
/-- Which parity of a stripe a position holds, none where it is a data position (R366). -/
def parityOf (n pos : Nat) : Option Nat := if n % 10 = pos then some 0 else if (n + 1) % 10 = pos then some 1 else none
/-- The data index of a position in a stripe: its rank among the other eight positions (R366). -/
def dataIndex (n pos : Nat) : Nat := ((List.range pos).filter (fun q => (parityOf n q).isNone)).length
/-- The unit of a position's slot that it contributes to a stripe in which it is data (R366). -/
def dataUnit (n pos : Nat) : Nat := ((List.range n).filter (fun m => (parityOf m pos).isNone)).length
/-- Where a holder's parity unit of a stripe is stored (R366). -/
def parityUnit (n pos : Nat) : Nat := ((List.range n).filter (fun m => (parityOf m pos).isSome)).length
/-- Exclusive or of two units. -/
def xorUnits (a b : List Byte) : List Byte := (a.zip b).map (fun x => x.1 ^^^ x.2)

/-- The parity units of a package that are complete and accepted. -/
def parityDone (n : Snap) : Nat := (n.contrib.filter (fun c => c.2.1.length = 8)).length

/-- The package at a position of the recovery group. -/
def SDesc.member (d : SDesc) (pos : Nat) : Nat := nth 0 d.memb pos

/-- The unit that this package contributes to a stripe; zeros past the slot's end (R366). -/
def ownUnit (s : State) (d : SDesc) (slot n : Nat) : List Byte :=
  let j := dataUnit n d.pos
  if j < d.z / 65536 then scmNow s (scmSpa (d.img + slot * d.z + 65536 * j)) 65536 else List.replicate 65536 0

/-- The data units that this package owes the holders: stripe and parity (R367). -/
def owedUnits (d : SDesc) : List (Nat × Nat) :=
  (List.range (stripes d)).flatMap (fun n => if (parityOf n d.pos).isNone then [(n, 0), (n, 1)] else [])

/-- After its local commit the Windlass sends its next data unit to the holder of a parity (R367). -/
def sendUnit (s : State) (p : Nat) : State :=
  let n := (s.part p).snap
  match n.desc with
  | none => s
  | some d =>
    if n.st ≠ 2 then s
    else match (owedUnits d).find? (fun u => !n.sent.contains u) with
      | none => s
      | some u =>
        if dataUnit u.1 d.pos < d.z / 65536 && slotBad s (d.img + n.slot * d.z + 65536 * dataUnit u.1 d.pos) 65536 then failMedia s p
        else
          let s := s.modPart p (fun x => { x with snap := { x.snap with sent := u :: x.snap.sent } })
          { s with wout := s.wout ++
            [.unit (d.member ((u.1 + u.2) % 10)) (s.part p).djob u.1 u.2 (dataIndex u.1 d.pos) n.step (ownUnit s d n.slot u.1)] }

/-- A parity holder that serves the DJOB takes one data unit of a stripe (R367). -/
def contribute (s : State) (djob stripe idx : Nat) (step : Word) (unit : List Byte) : State :=
  match targetPart s djob with
  | none => s
  | some p =>
  let n := (s.part p).snap
  match n.desc with
  | none => s
  | some d =>
    match parityOf stripe d.pos with
    | none => s
    | some w =>
      if (n.st ≠ 1 && n.st ≠ 2) || n.alone || stripes d ≤ stripe || 8 ≤ idx || unit.length ≠ 65536 then s
      else if step.toNat ≠ n.step then s.modPart p (fun x => { x with snap := { x.snap with st := 3, err := 2 } })
      else
        let old := (n.contrib.find? (fun c => c.1 = stripe)).getD (stripe, [], List.replicate 65536 0)
        if old.2.1.contains idx then s
        else
          let add := if w = 0 then unit else unit.map (fun b => gfScale b idx)
          let new := (stripe, idx :: old.2.1, xorUnits old.2.2 add)
          let from_ := nth 0 ((List.range 10).filter (fun q => (parityOf stripe q).isNone)) idx
          let s := s.modPart p (fun x => { x with snap := { x.snap with contrib := new :: x.snap.contrib.filter (fun c => c.1 ≠ stripe) } })
          let s := { s with wout := s.wout ++ [.ack (d.member from_) djob stripe w step.toNat] }
          if new.2.1.length = 8 then hubWrite s p (d.par + n.slot * d.pz + 65536 * parityUnit stripe d.pos) new.2.2 none else s

/-- The stripe record is written once both holders have acknowledged each of the package's units and its own parity units are complete; a
member that does not answer fails the stage (R367, R452). -/
def commitStripe (s : State) (p : Nat) : State :=
  let n := (s.part p).snap
  match n.desc with
  | none => s
  | some d =>
    if n.st ≠ 2 then s
    else if d.memb.any (fun m => s.absent.contains m) then s.modPart p (fun x => { x with snap := { x.snap with st := 3, err := 1 } })
    else if !((owedUnits d).all n.acked.contains) || parityDone n < stripes d / 5 || s.pwait.any (fun r => r.part = p && r.cluster = hubPort) then s
    else hubRecord s p d ⟨1, 2, n.step, n.slot⟩

-- Descriptors

/-- The region entries of a descriptor (Table 16.4). -/
def regionsAt (bs : List Byte) (n : Nat) : List SRegion :=
  (List.range n).map (fun i => ⟨leAt bs (128 + 32 * i) 1, leAt bs (128 + 32 * i + 8) 8, leAt bs (128 + 32 * i + 16) 8, leAt bs (128 + 32 * i + 24) 8⟩)

/-- A descriptor's fields (Table 16.3). -/
def sdescOf (bs : List Byte) : SDesc :=
  { pos := leAt bs 4 1, rgid := leAt bs 8 4, img := leAt bs 16 8, z := leAt bs 24 8, par := leAt bs 32 8, pz := leAt bs 40 8,
    memb := (List.range 10).map (fun i => leAt bs (48 + 2 * i) 2), regs := regionsAt bs (leAt bs 2 2), raw := bs }

/-- The header's own limits (Table 16.3). -/
def headOk (bs : List Byte) : Bool :=
  leAt bs 0 2 = 1 && 1 ≤ leAt bs 2 2 && leAt bs 2 2 ≤ 60 && leAt bs 4 1 ≤ 9 && leAt bs 5 3 = 0 && leAt bs 12 4 = 0
    && (bs.drop 68).all (fun b => b = 0) && bs.length = 128
    && leAt bs 16 8 % 65536 = 0 && leAt bs 24 8 % 65536 = 0 && leAt bs 32 8 % 65536 = 0 && leAt bs 40 8 % 65536 = 0
    && ((List.range 10).map (fun i => leAt bs (48 + 2 * i) 2)).Nodup

/-- The SCM areas of a descriptor. -/
def areas (d : SDesc) : List (Nat × Nat) :=
  d.regs.flatMap (fun r => (r.base, r.len) :: (if r.kind = 1 then [(r.xbase, r.len)] else []))
    ++ [(d.img, 2 * d.z + 65536), (d.par, 2 * d.pz)]

/-- No two areas overlap. -/
def disjoint : List (Nat × Nat) → Bool
  | [] => true
  | a :: rest => rest.all (fun b => a.1 + a.2 ≤ b.1 || b.1 + b.2 ≤ a.1) && disjoint rest

/-- The extension bits of a region's pages are as its kind says (R359). -/
def extOk (s : State) (r : SRegion) : Bool :=
  (List.range (r.len / 65536)).all (fun i =>
    !Tab.get false s.ext (r.base / 65536 + i) && (r.kind ≠ 1 || Tab.get false s.ext (r.xbase / 65536 + i)))

/-- The checks of R359 on a whole descriptor. -/
def sdescOk (s : State) (bs : List Byte) : Bool :=
  let d := sdescOf bs
  d.regs.zipIdx.all (fun x =>
    let r := x.1
    r.kind ≤ 2 && leAt bs (128 + 32 * x.2 + 1) 7 = 0 && r.len ≠ 0 && r.len % 65536 = 0 && r.base % 65536 = 0
      && (if r.kind = 1 then r.xbase % 65536 = 0 else r.xbase = 0))
    && imageOff d.regs d.regs.length ≤ d.z
    && 65536 * 2 * ((524287 + d.z) / 524288) ≤ d.pz
    && (areas d).all (fun a => a.1 + a.2 ≤ scmLimit) && disjoint (areas d) && d.regs.all (extOk s)

/-- A record at its place is valid: its CRC matches and its KIND is the place's (R360). -/
def recordAt (s : State) (img z which slot : Nat) : Option (Nat × Nat) :=
  let bs := scmNow s (scmSpa (img + 2 * z + 128 * which + 64 * slot)) 64
  if (crc32c (bs.take 60)).toNat = leAt bs 60 4 && leAt bs 14 1 = which + 1 then some (leAt bs 0 8, leAt bs 20 4) else none

/-- A partition's valid directory entry: IMG and Z (R361). -/
def dirAt (s : State) (p : Nat) : Option (Nat × Nat) :=
  let bs := scmNow s (scmSpa (dirOff + 64 * p)) 64
  if leAt bs 0 1 = 1 && (crc32c (bs.take 60)).toNat = leAt bs 60 4 then some (leAt bs 8 8, leAt bs 16 8) else none

/-- The descriptor copy in a slot of a partition's image area (R358, R361). -/
def slotDesc (s : State) (p k : Nat) : Option SDesc :=
  (dirAt s p).map (fun a =>
    let h := scmNow s (scmSpa (a.1 + k * a.2)) 128
    sdescOf (scmNow s (scmSpa (a.1 + k * a.2)) (128 + 32 * leAt h 2 2)))

/-- Where a unit of a frozen snapshot, or of its parity slot, lies; none where this package has not frozen it (R369). -/
def frozenAt (s : State) (p step unit : Nat) (parity : Bool) : Option Nat :=
  let n := (s.part p).snap
  if n.frz && n.slotOf step = some n.fslot then
    (slotDesc s p n.fslot).map (fun d => if parity then d.par + n.fslot * d.pz + 65536 * unit else d.img + n.fslot * d.z + 65536 * unit)
  else none

/-- A unit of a frozen snapshot, or of its parity slot (R369); none also where a media error meets it (R370). -/
def frozenUnit (s : State) (p step unit : Nat) (parity : Bool) : Option (List Byte) :=
  (frozenAt s p step unit parity).bind (fun a => if slotBad s a 65536 then none else some (scmNow s (scmSpa a) 65536))

/-- A read of a frozen unit by another member: the answer, and a media error's effect (R369, R370). -/
def answerUnit (s : State) (p pkg step unit : Nat) (parity : Bool) : State :=
  let bad := (frozenAt s p step unit parity).any (fun a => slotBad s a 65536)
  let s1 := { s with wout := s.wout ++ [.answer pkg (frozenUnit s p step unit parity)] }
  if bad then failMedia s1 p else s1

/-- A message of another member of the recovery group to the partition that serves a DJOB (R367, R369): an acknowledgement of a data unit, news of a
stripe record, that it does not answer for the DJOB, or a read, which is answered from the frozen slot alone. A package that does not serve the
DJOB has no answer but that. -/
def peerMsg (s : State) (djob : Nat) (m : PeerMsg) : State :=
  match targetPart s djob, m with
  | none, .read pkg _ _ _ => { s with wout := s.wout ++ [.answer pkg none] }
  | none, _ => s
  | some p, .ack stripe parity step =>
    s.modPart p (fun x => if x.snap.step = step && x.snap.st = 2 && x.snap.sent.contains (stripe, parity) then
      { x with snap := { x.snap with acked := (stripe, parity) :: x.snap.acked } } else x)
  | some p, .record pos step => s.modPart p (fun x => { x with snap := { x.snap with peers := (pos, step) :: x.snap.peers } })
  | some p, .noJob _ => s.modPart p (fun x => if x.snap.st = 2 then { x with snap := { x.snap with st := 3, err := 1 } } else x)
  | some p, .read pkg step unit parity => answerUnit s p pkg step unit parity

/-- The snapshot state that boot finds in SCM for a partition (R360, R361). -/
def bootSnap (s : State) (p : Nat) : Snap :=
  match dirAt s p with
  | none => Snap.zero
  | some (img, z) =>
    let get (w k : Nat) : Option Nat := (recordAt s img z w k).map (fun x => x.1)
    { Snap.zero with
      loc := Tab.set none (Tab.set none [] 0 (get 0 0)) 1 (get 0 1), str := Tab.set none (Tab.set none [] 0 (get 1 0)) 1 (get 1 1) }

-- The FRU record (R439, R440)

/-- A copy of the FRU record. -/
def fruCopy (s : State) (k : Nat) : List Byte := Tab.getList 0 s.fru (128 * k) 80
/-- CRC-32C of a copy's first 76 bytes (R144, R439). -/
def fruCrc (bs : List Byte) : Nat := (crc32c (bs.take 76)).toNat
/-- A copy's CRC is valid. -/
def fruValid (bs : List Byte) : Bool := leAt bs 76 4 = fruCrc bs
/-- SEQ of a copy. -/
def fruSeq (bs : List Byte) : Nat := leAt bs 2 2
/-- The copy that a reader takes: valid, and the later SEQ modulo 2^16 (R439). -/
def fruNewest (s : State) : Nat :=
  let a := fruCopy s 0
  let b := fruCopy s 1
  if !fruValid b then 0 else if !fruValid a then 1 else if (fruSeq b + 65536 - fruSeq a) % 65536 < 32768 then 1 else 0
/-- The number of fenced clusters. -/
def fencedCount (s : State) : Nat := ((List.range 192).filter (fun c => (s.cluster c).fenced)).length

/-- The kernel writes the copy with the older SEQ (R439). -/
def fruWrite (s : State) : State :=
  let k := fruNewest s
  let old := fruCopy s k
  let body := [1, 2] ++ bytesOf ((fruSeq old + 1) % 65536) 2 ++ ((old.drop 4).take 68) ++ [s.repl] ++ bytesOf (fencedCount s) 1 ++ bytesOf s.nret 2
  { s with fru := Tab.setList 0 s.fru (128 * (1 - k)) (body ++ bytesOf (fruCrc body) 4) }

/-- REPL bits are set, with the replace request and vector 65 (R440, Table 19.1). -/
def setRepl (s : State) (b : BitVec 8) : State := (fruWrite { s with repl := s.repl ||| b ||| 1 }).raiseMsix 65

/-- The hold-up store has stayed low for 60 s of 800,000,000 clocks (R466, R440). -/
def holdupTimeout (s : State) : State := if s.huok || !s.power || s.clock < s.lowClk + 60 * 800000000 then s else setRepl s 8

/-- P_ACCEPT: the queue accepts the k-th waiting request (R347, R348, R353); a request it may not accept waits on. -/
def execPAccept (k : Nat) (s : State) : Host.Outcome State Fault Refusal := .next (acceptReq s k)

/-- PERSIST_DRAIN (R347, R364). -/
def execPersistDrain (s : State) : Host.Outcome State Fault Refusal := .next (drainOldest s)

/-- WINDLASS_SWEEP: the Windlass captures the page-th uncaptured unit; it yields while its partition does not run (R364). -/
def execWindlassSweep (part page : Nat) (s : State) : Host.Outcome State Fault Refusal :=
  .next (match (s.part part).snap.left[page]? with
    | some u => if (s.part part).snap.st = 1 && !(s.part part).halted && (s.part part).pre = 0 then capture s part u else s
    | none => s)

/-- LOCAL_COMMIT (R365). -/
def execLocalCommit (part : Nat) (s : State) : Host.Outcome State Fault Refusal := .next (commitLocal s part)

/-- STRIPE_CONTRIBUTION (R366, R367). -/
def execStripeContribution (djob stripe idx : Nat) (step : Word) (unit : List Byte) (s : State) : Host.Outcome State Fault Refusal :=
  .next (contribute s djob stripe idx step unit)

/-- STRIPE_COMMIT (R367). -/
def execStripeCommit (part : Nat) (s : State) : Host.Outcome State Fault Refusal := .next (commitStripe s part)

/-- HOLDUP_CHARGED (R466). -/
def execHoldupCharged (s : State) : Host.Outcome State Fault Refusal := .next ({ s with huok := s.power })

/-- HOLDUP_LOW (R466). -/
def execHoldupLow (s : State) : Host.Outcome State Fault Refusal :=
  .next ({ s with huok := false, lowClk := if s.huok then s.clock else s.lowClk })

/-- HOLDUP_LOW_TIMEOUT (R440, R466). -/
def execHoldupLowTimeout (s : State) : Host.Outcome State Fault Refusal := .next (holdupTimeout s)

end Sys2Proof.Machine
end

