-- ==== Sys2Proof/Machine/Persistence.lean ====
section
/-! DEFINITION. Persistence and snapshot instructions (R351 to R374). -/
namespace Sys2Proof.Machine

/-- One P request of a stream per granule: it takes a table entry and waits at the hub (R348, R352). -/
def sendPersist (c : Ctx) (run : Nat) (s : State) (g : Nat × List Piece) : State :=
  match g.2 with
  | [] => s
  | p :: _ =>
    let tbl := tblOf c.sid
    let tag : Tag := ⟨tbl, g.1, (genOf s tbl g.1).1⟩
    let bytes := g.2.flatMap (fun p => match p.op with
      | .write bs => bs.zipIdx.map (fun x => (p.spa + x.2, x.1))
      | _ => [])
    let e : Entry := { newEntry s c.t c.sid c.p.id c.pc c.p.hdr .persist g.2 [] with inTry := false }
    let s : State := { s with
      ott := Tab.set none s.ott (entKey tbl g.1) (some e),
      pwait := s.pwait ++ [(⟨some tag, some c.sid, c.cl, run, c.t.pepoch, c.t.part, some c.t.step, p.spa, some p.va, bytes, none, none, true, c.t.launch⟩ : PReq)] }
    s.modStream c.sid (fun t => { t with outst := t.outst + 1, ptag := some (match t.ptag with
      | some g => if g.toNat < c.t.step.toNat then c.t.step else g
      | none => c.t.step) })

/-- PST (R352): the lanes' accesses with their bytes. -/
def pstMeaning (c : Ctx) (lanes : List (Nat × Nat)) (n : Nat) (data : Nat → List Byte) : Eff :=
  if c.held false then .wait
  else match checkLanes c.s c.who Acc.persist n n lanes with
    | .error f => c.faulted f (c.readBlocked f.addr.toNat)
    | .ok as =>
      c.passPages true n as (
        let gs := byGranule (as.map (fun a => ⟨a.1, a.2.1, a.2.2, .write (data a.1), .none, []⟩))
        match freeEntries c.s (tblOf c.sid) gs.length with
        | none => .wait
        | some es => .ok ((es.zip gs).foldl (sendPersist c 0) c.s) [])

/-- Earlier P requests of the course are not all accepted (R353, R451). -/
def Ctx.persistBusy (c : Ctx) : Bool := persistOut c.s c.sid || copyOut c.s c.sid

/-- The course issues nothing while its path waits (R353, R369); a PBAR that waits holds nothing more (R374). -/
def Ctx.holdCourse (c : Ctx) (s : State) (w : Option Waiting) : Eff :=
  .jump (s.modStream c.sid (fun t => { (t.setPath c.k (some { c.p with wait := w })) with hold := some c.k }))

/-- The course is let go. -/
def Ctx.release (c : Ctx) (f : Stream → Stream) : Eff := .ok (c.s.setStream c.sid (f { c.t with hold := none })) []

/-- PBAR.WAIT.PKG (R353). -/
def pbarWaitMeaning (c : Ctx) : Eff := if c.persistBusy then c.holdCourse c.s none else c.release id

/-- PBAR.WAIT.STRIPE (R353). -/
def pbarStripeMeaning (c : Ctx) : Eff :=
  match c.t.ptag with
  | none => c.release id
  | some g =>
    if c.t.step.toNat ≤ g.toNat then .trap 0x37 0 0
    else if (c.s.part c.t.part).snap.stripedFrom g.toNat then c.release (fun t => { t with ptag := none })
    else c.holdCourse c.s none

/-- PBAR.PKG, or its wait (R353). -/
def pbarMeaning (c : Ctx) : Eff := .ok (c.s.setStream c.sid { c.t with pepoch := c.t.pepoch + 1 }) []

/-- PFLUSH (R355): the entries accepted before its issue, by the last one's number. -/
def pflushMeaning (c : Ctx) : Eff :=
  let upTo := match c.p.wait with
    | some (.flush n) => n
    | _ => c.s.pseq
  if c.s.pq.any (fun e => e.part = c.t.part && e.seq ≤ upTo) then
    .jump (c.s.setStream c.sid (c.t.setPath c.k (some { c.p with wait := some (.flush upTo) })))
  else .ok c.s []

/-- PQST's word (Table 16.2). -/
def pqWord (s : State) : Word := wd ((if s.huok then 2 ^ 31 else 0) + s.pq.length)

/-- STEPSET (R356). -/
def stepsetMeaning (c : Ctx) : Eff :=
  let v := c.uni c.o.a
  if v.toNat < c.t.step.toNat then .trap 0x37 0 0
  else
    let s := c.s.setStream c.sid { c.t with step := v }
    .ok (s.modPart c.t.part (fun x => { x with pstepmax := if x.pstepmax.toNat < v.toNat then v else x.pstepmax })) []

/-- The address of the instruction's descriptor or buffer. -/
def Ctx.snapVa (c : Ctx) : Nat := (c.pair (Ctx.sn c.o.a) + dispOf c.o.c).toNat

/-- The class V read of the descriptor is counted (R275, R357). -/
def Ctx.snapRead (c : Ctx) (d : SDesc) (s : State) : State :=
  countRuns s c.t.part (runs c.s c.who Acc.read c.snapVa d.raw.length)

/-- The snapshot descriptor at the instruction's address: read, with as many region entries as its NREG allows, then checked (R357, R359, R373). -/
def readSnapDesc (c : Ctx) : Except Eff SDesc :=
  let va := c.snapVa
  match readAtIssue c va 128 64 with
  | .error e => .error e
  | .ok h =>
    let n := leAt h 2 2
    match readAtIssue c va (if 1 ≤ n && n ≤ 60 then 128 + 32 * n else 128) 64 with
    | .error e => .error e
    | .ok bs => if headOk h && sdescOk c.s bs then .ok (sdescOf bs) else .error (.trap 0x38 0 0)

/-- The step operand. -/
def Ctx.snapStep (c : Ctx) : Nat := (c.uni c.o.b).toNat

/-- The slot that does not hold the current snapshot (R363). -/
def Snap.target (n : Snap) : Nat :=
  match n.cur with
  | some (_, k) => 1 - k
  | none => 0

/-- A snapshot is armed, or the newest is not stripe-committed, or the target slot is frozen (R363, R367, R452). -/
def takeBusy (n : Snap) (alone : Bool) : Bool :=
  n.st = 1 || (!alone && (n.st = 2 || n.cur.any (fun x => !n.striped x.1))) || (n.frz && n.fslot = n.target)

/-- SNAP.TAKE (R363, R452). -/
def snapTakeMeaning (c : Ctx) : Eff :=
  match readSnapDesc c with
  | .error e => e
  | .ok d =>
    let p := c.t.part
    let x := c.s.part p
    let n := x.snap
    let step := c.snapStep
    let alone := !x.domctl.getLsbD 9
    if (n.cur).any (fun y => step ≤ y.1) || step < x.pstepmax.toNat then .trap 0x37 0 0
    else if takeBusy n alone then .trap 0x39 0 0
    else
      let slot := n.target
      let s := hubWrite (c.snapRead d c.s) p (dirOff + 64 * p) (dirBytes d) none
      let s := hubRecord s p d ⟨0, 0, step, slot⟩
      let s := hubRecord s p d ⟨1, 0, step, slot⟩
      let s := hubWrite s p (d.img + slot * d.z) (d.raw ++ List.replicate (65536 - d.raw.length) 0) none
      .ok (s.modPart p (fun x => { x with snap := { x.snap with
        st := 1, err := 0, step := step, slot := slot, desc := some d, left := allUnits d, old := [], alone := alone, contrib := [], sent := [], acked := [],
        recorded := false } })) []

/-- A restored weight: its BF16 half and its extension (R67). -/
def weightBack (bs : List Byte) : Nat × Nat :=
  let b := leAt bs 0 2
  let x := leAt bs 2 1
  (b, if (bits b 7 8 = 0 || bits b 7 8 = 255) && bits b 0 7 = 0 && x = 0 then 0 else x * 256 + 128)

/-- A restored moment (R67). -/
def momentBack (bs : List Byte) : Nat :=
  let b := leAt bs 0 2
  b * 65536 + (if (bits b 7 8 = 0 || bits b 7 8 = 255) && bits b 0 7 = 0 then 0 else 0x8000)

/-- One region rebuilt from its image through the persist queue (R67, R369); one whose image meets a media error is left as it is, and the snapshot
fails (R370, log 70). -/
def restoreRegion (s : State) (p : Nat) (d : SDesc) (slot : Nat) (step : Word) (x : SRegion × Nat) : State :=
  let r := x.1
  let off := d.img + slot * d.z + imageOff d.regs x.2
  let img := scmNow s (scmSpa off) r.image
  if slotBad s off r.image then failMedia s p
  else match r.kind with
  | 1 =>
    let ws := (chunks 3 (r.len / 2) img).map weightBack
    hubRestore (hubRestore s p r.base step (ws.flatMap (fun w => bytesOf w.1 2))) p r.xbase step (ws.flatMap (fun w => bytesOf w.2 2))
  | 2 => hubRestore s p r.base step ((chunks 2 (r.len / 4) img).flatMap (fun m => bytesOf (momentBack m) 4))
  | _ => hubRestore s p r.base step img

/-- An instruction that waits for the Windlass's writes to be accepted, then ends (R369). -/
def Ctx.afterHub (c : Ctx) (f : State → State) : Eff :=
  if hubOut c.s c.t.part then c.holdCourse c.s (some .hub) else .ok (f (c.s.setStream c.sid { c.t with hold := none })) []

/-- Another course of the partition has not retired (R369). -/
def otherCourses (c : Ctx) : Bool :=
  (streamsOf c.s c.t.part).any (fun i => !isSeq i && i ≠ c.sid)
    || c.s.teams.any (fun e => match e.2 with
      | some tm => tm.part = c.t.part && tm.displaced.isSome
      | none => false)

/-- SNAP.RESTORE (R67, R369). -/
def snapRestoreMeaning (c : Ctx) : Eff :=
  let step := c.uni c.o.b
  if !c.t.sys then .trap 0x1A 0 0
  else if c.p.wait = some .hub then
    c.afterHub (fun s => (s.modStream c.sid (fun t => { t with step := step })).modPart c.t.part (fun x => { x with pstepmax := step }))
  else match readSnapDesc c with
    | .error e => e
    | .ok d =>
      if otherCourses c then .trap 0x39 0 0
      else match (c.s.part c.t.part).snap.slotOf step.toNat with
        | none => .trap 0x38 0 0
        | some k =>
          if (recordAt c.s d.img d.z 0 k).any (fun r => r.1 = step.toNat && r.2 = (crc32c d.raw).toNat) then
            c.holdCourse (d.regs.zipIdx.foldl (fun s x => restoreRegion s c.t.part d k step x) (c.snapRead d c.s)) (some .hub)
          else .trap 0x38 0 0

/-- SNAP.FREEZE (R369). -/
def snapFreezeMeaning (c : Ctx) : Eff :=
  if !c.t.sys then .trap 0x1A 0 0
  else match (c.s.part c.t.part).snap.slotOf c.snapStep with
    | none => .trap 0x38 0 0
    | some k => .ok (c.s.modPart c.t.part (fun x => { x with snap := { x.snap with frz := true, fslot := k } })) []

/-- SNAP.THAW (R369). -/
def snapThawMeaning (c : Ctx) : Eff :=
  if !c.t.sys then .trap 0x1A 0 0
  else .ok (c.s.modPart c.t.part (fun x => { x with snap := { x.snap with frz := false } })) []

/-- A unit of zeros. -/
def zeroUnit : List Byte := List.replicate 65536 0

/-- The partition of this package, if any, that holds a position of the group for a DJOB, with the snapshot frozen (R369). -/
def ownHolder (s : State) (djob pkg step : Nat) : Option Nat :=
  (List.range 8).find? (fun p => (s.part p).den && (s.part p).djob = djob && (s.part p).self_ = pkg && (frozenAt s p step 0 false).isSome)

/-- What a rebuild reads: the group, the partition's DJOB, the step, and the state. -/
structure Survivors where
  s : State
  d : SDesc
  djob : Nat
  step : Nat

/-- The surviving member at a position is this package itself. -/
def Survivors.own (v : Survivors) (pos : Nat) : Bool := (List.range 8).any (fun p => (v.s.part p).den && (v.s.part p).djob = v.djob && (v.s.part p).self_ = v.d.member pos)

/-- A unit that a surviving member answers with: this package's own frozen unit where it holds the position; else what the member holds is not this
package's to know (R369, logs 4 and 51). -/
def memberUnit (v : Survivors) (pos unit parity : Nat) : List Byte :=
  match ownHolder v.s v.djob (v.d.member pos) v.step with
  | some p => (frozenUnit v.s p v.step unit (parity = 1)).getD zeroUnit
  | none => (List.range 65536).map (fun i => Config.outside v.s.fresh (((pos * 2 ^ 32 + unit) * 2 + parity) * 65536 + i))

/-- A data unit of a position in a stripe; zeros past the slot's end (R366). -/
def stripeUnit (v : Survivors) (u n pos : Nat) : List Byte := if dataUnit n pos < u then memberUnit v pos (dataUnit n pos) 0 else List.replicate 65536 0

/-- A unit with each byte multiplied. -/
def scaleUnit (k : Byte) (u : List Byte) : List Byte := u.map (gfMul k)
/-- A power of the generator. -/
def gfPow (i : Nat) : Byte := gfScale 1 i
/-- The inverse in GF(2^8): the power 254. -/
def gfInv (b : Byte) : Byte := (List.range 253).foldl (fun r _ => gfMul r b) b

/-- The parity sum of the data units that have not been lost: weight 1 for P0, the powers of the generator for P1. -/
def paritySum (v : Survivors) (u n : Nat) (lost : List Nat) (w : Nat) : List Byte :=
  ((List.range 10).filter (fun q => (parityOf n q).isNone && !lost.contains q)).foldl (fun a q =>
    xorUnits a (if w = 0 then stripeUnit v u n q else scaleUnit (gfPow (dataIndex n q)) (stripeUnit v u n q))) zeroUnit

/-- A surviving parity unit with the surviving data taken out: what the lost data units sum to under its weights. -/
def lostSum (v : Survivors) (u n : Nat) (lost : List Nat) (w : Nat) : List Byte :=
  let h := (n + w) % 10
  xorUnits (memberUnit v h (parityUnit n h) 1) (paritySum v u n lost w)

/-- A lost data unit of a stripe, from the survivors (R368). -/
def lostData (v : Survivors) (u n : Nat) (lost : List Nat) (pos : Nat) : List Byte :=
  let a := dataIndex n pos
  match (lost.filter (fun q => q ≠ pos && (parityOf n q).isNone)).head? with
  | none => if lost.contains (n % 10) then scaleUnit (gfInv (gfPow a)) (lostSum v u n lost 1) else lostSum v u n lost 0
  | some q =>
    let b := dataIndex n q
    scaleUnit (gfInv (gfPow a ^^^ gfPow b)) (xorUnits (lostSum v u n lost 1) (scaleUnit (gfPow b) (lostSum v u n lost 0)))

/-- The unit of a lost position in a stripe: a parity is computed again, from the data as recovered (R366, R368). -/
def lostUnit (v : Survivors) (u n : Nat) (lost : List Nat) (pos : Nat) : List Byte :=
  match parityOf n pos with
  | none => lostData v u n lost pos
  | some w => (lost.filter (fun q => (parityOf n q).isNone)).foldl (fun a q =>
      xorUnits a (if w = 0 then lostData v u n lost q else scaleUnit (gfPow (dataIndex n q)) (lostData v u n lost q)))
      (paritySum v u n lost w)

/-- The positions whose units cannot be read: the rebuilt one, and members that do not answer (R368, R452). -/
def lostPositions (s : State) (d : SDesc) : List Nat :=
  (List.range 10).filter (fun q => q = d.pos || s.absent.contains (d.member q))

/-- A surviving member has frozen the snapshot (R369): known of this package itself, which answers from no unit with a media error; not this
package's to know of another (logs 4 and 51). -/
def memberFrozen (v : Survivors) (pos : Nat) : Bool :=
  if v.own pos then (ownHolder v.s v.djob (v.d.member pos) v.step).any (fun p =>
    (List.range (stripes v.d)).all (fun n => match parityOf n pos with
      | some _ => (frozenUnit v.s p v.step (parityUnit n pos) true).isSome
      | none => v.d.z / 65536 ≤ dataUnit n pos || (frozenUnit v.s p v.step (dataUnit n pos) false).isSome))
  else Config.freeBit v.s.fresh pos

/-- SNAP.REBUILD (R368, R369): every survivor has frozen the snapshot, and at most two shares are lost. The partition's directory entry names the
slot that it writes (R361, log 51). -/
def snapRebuildMeaning (c : Ctx) : Eff :=
  if !c.t.sys then .trap 0x1A 0 0
  else if c.p.wait = some .hub then c.afterHub id
  else match readSnapDesc c with
    | .error e => e
    | .ok d =>
      let p := c.t.part
      let u := d.z / 65536
      let slot := (c.s.part p).snap.target
      let lost := lostPositions c.s d
      let v : Survivors := ⟨c.s, d, (c.s.part p).djob, c.snapStep⟩
      if 2 < lost.length || (List.range 10).any (fun q => !lost.contains q && !memberFrozen v q) then .trap 0x38 0 0
      else
      let put (s : State) (n : Nat) : State :=
        let bs := lostUnit v u n lost d.pos
        match parityOf n d.pos with
        | some _ => hubWrite s p (d.par + slot * d.pz + 65536 * parityUnit n d.pos) bs none
        | none => if dataUnit n d.pos < u then hubWrite s p (d.img + slot * d.z + 65536 * dataUnit n d.pos) bs none else s
      let s := (List.range (stripes d)).foldl put (hubWrite (c.snapRead d c.s) p (dirOff + 64 * p) (dirBytes d) none)
      let head := ((List.range (stripes d)).find? (fun n => (parityOf n d.pos).isNone)).getD 0
      let d' := { d with raw := (lostUnit v u head lost d.pos).take d.raw.length }
      let s := hubRecord s p d' ⟨0, 1, c.snapStep, slot⟩
      c.holdCourse (hubRecord s p d' ⟨1, 2, c.snapStep, slot⟩) (some .hub)

/-- The region pages of the current snapshot's descriptor, in region order (R369). -/
def currentPages (s : State) (p : Nat) : List Nat :=
  match (s.part p).snap.cur.bind (fun x => slotDesc s p x.2) with
  | some d =>
    d.regs.flatMap (fun r =>
      let f (b : Nat) : List Nat := (List.range (r.len / 65536)).map (fun i => b / 65536 + i)
      f r.base ++ (if r.kind = 1 then f r.xbase else []))
  | none => []

/-- The bitmap of the pages written since (R369). -/
def deltaBytes (s : State) (p : Nat) : List Byte :=
  let ps := (currentPages s p).map (fun a => (s.part p).snap.dirty.contains a)
  (chunks 8 ps.length ps).map (fun c => BitVec.ofNat 8 (c.zipIdx.foldl (fun n x => n + (if x.1 then 2 ^ x.2 else 0)) 0))

/-- SNAP.DELTA (R369). -/
def snapDeltaMeaning (c : Ctx) : Eff :=
  if !c.t.sys then .trap 0x1A 0 0
  else
    let va := c.snapVa
    let bs := deltaBytes c.s c.t.part
    if bs.isEmpty then .ok c.s []
    else match access c.s c.who Acc.write va bs.length 1 with
      | .error f => c.faulted f (c.readBlocked f.addr.toNat)
      | .ok _ => if unready c.s c.t.part va bs.length then c.readBlocked va else .ok (writeVa c.s c.who Acc.write va bs) []

/-- SNAPST (R370, R452): the step of no armed or failed snapshot is free. -/
def snapWord (s : State) (p mod : Nat) : Word :=
  let n := (s.part p).snap
  match mod with
  | 1 => if n.st = 0 then Config.freeWord s.fresh 1 else wd n.step
  | 2 => (n.cur.map (fun x => wd x.1)).getD 0
  | 3 => (n.newest.map wd).getD 0
  | _ => wd (n.st * 2 ^ 30 + (if n.frz then 2 ^ 29 else 0) + n.fslot * 2 ^ 28 + n.err * 65536 + min n.left.length 0xFFFF)

/-- PST (R352). -/
def execPst (o : Opnds) (s : State) : Host.Outcome State Fault Refusal :=
  issue 0xD8 o s (fun c =>
    if isVec o.d then pstMeaning c c.vas (typeSize c.ty) (fun l => storeBytes c.ty (c.vec o.d l))
    else pstMeaning c c.uva (typeSize c.ty) (fun _ =>
      if c.ty = 9 then bytesOf (c.pair (Ctx.sn o.d)).toNat 8 else storeBytes c.ty (c.uni o.d)))

/-- PBAR.PKG (R353). -/
def execPbar32 (o : Opnds) (s : State) : Host.Outcome State Fault Refusal := issue 0xD9 o s pbarMeaning

/-- PBAR.PKG (R353). -/
def execPbar (o : Opnds) (s : State) : Host.Outcome State Fault Refusal := issue 0xD9 o s pbarMeaning

/-- PBAR.WAIT.PKG (R353). -/
def execPbarWaitPkg (o : Opnds) (s : State) : Host.Outcome State Fault Refusal := issue 0xD9 o s pbarWaitMeaning

/-- PBAR.WAIT.STRIPE (R353). -/
def execPbarWaitStripe (o : Opnds) (s : State) : Host.Outcome State Fault Refusal := issue 0xD9 o s pbarStripeMeaning

/-- PFLUSH (R355). -/
def execPflush32 (o : Opnds) (s : State) : Host.Outcome State Fault Refusal := issue 0xDA o s pflushMeaning

/-- PFLUSH (R355). -/
def execPflush (o : Opnds) (s : State) : Host.Outcome State Fault Refusal := issue 0xDA o s pflushMeaning

/-- PQST (R355). -/
def execPqst32 (o : Opnds) (s : State) : Host.Outcome State Fault Refusal :=
  issue 0xDB o s (fun c => .ok c.s [.s (Ctx.sn o.d) (pqWord c.s)])

/-- PQST (R355). -/
def execPqst (o : Opnds) (s : State) : Host.Outcome State Fault Refusal := issue 0xDB o s (fun c => .ok c.s [.s (Ctx.sn o.d) (pqWord c.s)])

/-- STEPSET (R356). -/
def execStepset32 (o : Opnds) (s : State) : Host.Outcome State Fault Refusal := issue 0xDC o s stepsetMeaning

/-- STEPSET (R356). -/
def execStepset (o : Opnds) (s : State) : Host.Outcome State Fault Refusal := issue 0xDC o s stepsetMeaning

/-- STEPRD (R356). -/
def execSteprd32 (o : Opnds) (s : State) : Host.Outcome State Fault Refusal := issue 0xDD o s (fun c => .ok c.s [.s (Ctx.sn o.d) c.t.step])

/-- STEPRD (R356). -/
def execSteprd (o : Opnds) (s : State) : Host.Outcome State Fault Refusal := issue 0xDD o s (fun c => .ok c.s [.s (Ctx.sn o.d) c.t.step])

/-- SNAP.TAKE (R363). -/
def execSnapTake (o : Opnds) (s : State) : Host.Outcome State Fault Refusal := issue 0xDE o s snapTakeMeaning

/-- SNAP.RESTORE (R369). -/
def execSnapRestore (o : Opnds) (s : State) : Host.Outcome State Fault Refusal := issue 0xDE o s snapRestoreMeaning

/-- SNAP.FREEZE (R369). -/
def execSnapFreeze (o : Opnds) (s : State) : Host.Outcome State Fault Refusal := issue 0xDE o s snapFreezeMeaning

/-- SNAP.THAW (R369). -/
def execSnapThaw (o : Opnds) (s : State) : Host.Outcome State Fault Refusal := issue 0xDE o s snapThawMeaning

/-- SNAP.REBUILD (R369). -/
def execSnapRebuild (o : Opnds) (s : State) : Host.Outcome State Fault Refusal := issue 0xDE o s snapRebuildMeaning

/-- SNAP.DELTA (R369). -/
def execSnapDelta (o : Opnds) (s : State) : Host.Outcome State Fault Refusal := issue 0xDE o s snapDeltaMeaning

/-- SNAPST (R370). -/
def execSnapst32 (o : Opnds) (s : State) : Host.Outcome State Fault Refusal :=
  issue 0xDF o s (fun c => .ok c.s [.s (Ctx.sn o.d) (snapWord c.s c.t.part o.mod)])

/-- SNAPST (R370). -/
def execSnapst (o : Opnds) (s : State) : Host.Outcome State Fault Refusal :=
  issue 0xDF o s (fun c => .ok c.s [.s (Ctx.sn o.d) (snapWord c.s c.t.part o.mod)])

end Sys2Proof.Machine
end

