-- ==== Sys2Proof/Machine/Update.lean ====
section
/-! DEFINITION. UPDM, the optimiser step (R163 to R166, R453). -/
namespace Sys2Proof.Machine

/-- The update record (Table 7.5). -/
structure UpdRec where
  wb : Nat
  xb : Nat
  mb : Nat
  vb : Nat
  lr : Nat
  b1 : Nat
  b2 : Nat
  eps : Nat
  wdk : Nat
  bc1 : Nat
  bc2 : Nat
deriving DecidableEq, Repr

/-- The fields of an update record. -/
def updRec (bs : List Byte) : UpdRec :=
  ⟨leAt bs 0 8, leAt bs 8 8, leAt bs 16 8, leAt bs 24 8, leAt bs 32 4, leAt bs 36 4, leAt bs 40 4, leAt bs 44 4, leAt bs 48 4, leAt bs 52 4,
   leAt bs 56 4⟩

/-- A value that UPDM takes from its record, a plane or a register: under DAZ a subnormal one reads as zero of its sign (R54). -/
def updIn (mode : Word) (w : Nat) : Nat := if dazOf mode && bits w 23 8 = 0 then w / 2 ^ 31 * 2 ^ 31 else w
/-- FP32 arithmetic of UPDM on bits: R of R164. A value inside the instruction passes on as it was rounded (R54). -/
def updNum (w : Nat) : Num := f32.num false w
def updMul (mode : Word) (a b : Nat) : Nat := f32.rne mode (mulNum (updNum a) (updNum b))
def updAdd (mode : Word) (a b : Nat) : Nat := f32.rne mode (sumNum false [updNum a, updNum b])
def updSub (mode : Word) (a b : Nat) : Nat := f32.rne mode (sumNum false [updNum a, (updNum b).neg])
def updDiv (mode : Word) (a b : Nat) : Nat := (f32.quotient (ftzOf mode) (updNum a) (updNum b)).1
/-- The square root rounded once; a negative value gives the canonical NaN. -/
def updSqrt (mode : Word) (a : Nat) : Nat :=
  match updNum a with
  | .nan _ => f32.qnan
  | .inf neg => if neg then f32.qnan else f32.infBits
  | .fin neg m e => if m = 0 then f32.sign neg else if neg then f32.qnan else (f32.sqrt (ftzOf mode) m e).1

/-- One FP32 one. -/
def updOne : Nat := 0x3F800000

/-- The record's FP32 fields as source reads (R54). -/
def UpdRec.read (mode : Word) (r : UpdRec) : UpdRec :=
  let f := updIn mode
  { r with lr := f r.lr, b1 := f r.b1, b2 := f r.b2, eps := f r.eps, wdk := f r.wdk, bc1 := f r.bc1, bc2 := f r.bc2 }

/-- UPDM.SGD on one element: the weight and the moment, by R164. -/
def sgdOf (mode : Word) (r : UpdRec) (w g m : Nat) : Nat × Nat :=
  let g1 := updAdd mode g (updMul mode r.wdk w)
  let m1 := updAdd mode (updMul mode r.b1 m) g1
  let u := if r.mb ≠ 0 then m1 else g1
  (updSub mode w (updMul mode r.lr u), m1)

/-- UPDM.ADAM on one element: the weight and both moments, by R164. -/
def adamOf (mode : Word) (r : UpdRec) (w g m v : Nat) : Nat × Nat × Nat :=
  let m1 := updAdd mode (updMul mode r.b1 m) (updMul mode (updSub mode updOne r.b1) g)
  let v1 := updAdd mode (updMul mode r.b2 v) (updMul mode (updSub mode updOne r.b2) (updMul mode g g))
  let den := updAdd mode (updSqrt mode (updMul mode v1 r.bc2)) r.eps
  let q := updDiv mode (updMul mode m1 r.bc1) den
  (updSub mode w (updMul mode r.lr (updAdd mode q (updMul mode r.wdk w))), m1, v1)

/-- What an UPDM access needs of its page: either tier, and the extension attribute or not (R65, R165). -/
def updAcc (ext : Bool) : Acc := ⟨true, true, false, some ext, none, none, none⟩

/-- An element's place in one plane: lane, plane, virtual and physical address, size. -/
structure UpdEl where
  lane : Nat
  plane : Nat
  va : Nat
  spa : Nat
  n : Nat
deriving DecidableEq, Repr

/-- The planes an UPDM touches with their bases and element sizes: BF16, extension, first and second moment (R165). -/
def updPlanes (adam : Bool) (r : UpdRec) : List (Nat × Nat × Nat) :=
  [(0, r.wb, 2), (1, r.xb, 2)] ++ (if adam || r.mb ≠ 0 then [(2, r.mb, 4)] else []) ++ (if adam then [(3, r.vb, 4)] else [])

/-- Every element of a lane translated and checked in order (R165). A zero base under .ADAM traps ALIGN before the faults of that plane
(DESIGN CHOICE, log 66). -/
def updLane (c : Ctx) (adam : Bool) (l i : Nat) : List (Nat × Nat × Nat) → Except Flt (List UpdEl)
  | [] => .ok []
  | (k, base, n) :: rest =>
    let va := (base + n * i) % 2 ^ 64
    if adam && base = 0 then .error ⟨7, 0x14, BitVec.ofNat 64 va⟩
    else match access c.s c.who (updAcc (k = 1)) va n n with
      | .error f => .error f
      | .ok spa => match updLane c adam l i rest with
        | .error f => .error f
        | .ok es => .ok (⟨l, k, va, spa, n⟩ :: es)

/-- Every lane's elements, the lowest faulting lane first. -/
def updLanes (c : Ctx) (adam : Bool) (r : UpdRec) : List Nat → Except Flt (List UpdEl)
  | [] => .ok []
  | l :: rest => match updLane c adam l (c.vec c.o.b l).toNat (updPlanes adam r) with
    | .error f => .error f
    | .ok es => match updLanes c adam r rest with
      | .error f => .error f
      | .ok more => .ok (es ++ more)

/-- The elements of one lane computed over a working memory (R164). -/
def updOne_ (c : Ctx) (adam : Bool) (r : UpdRec) (els : List UpdEl) (m : State) (l : Nat) : State :=
  let at_ (k : Nat) : Option UpdEl := els.find? (fun e => e.lane = l && e.plane = k)
  let rd (k : Nat) : Nat := match at_ k with
    | some e => ofBytes (m.readMem e.spa e.n)
    | none => 0
  let wr (m : State) (k x : Nat) : State := match at_ k with
    | some e => m.writeMem e.spa (bytesOf x e.n)
    | none => m
  let g := updIn c.mode (c.vec c.o.d l).toNat
  let w := updIn c.mode (rd 0 * 65536 + rd 1)
  let r := r.read c.mode
  if adam then
    let y := adamOf c.mode r w g (updIn c.mode (rd 2)) (updIn c.mode (rd 3))
    wr (wr (wr (wr m 2 y.2.1) 3 y.2.2) 0 (y.1 / 65536)) 1 (y.1 % 65536)
  else
    let y := sgdOf c.mode r w g (updIn c.mode (rd 2))
    wr (wr (wr m 2 y.2) 0 (y.1 / 65536)) 1 (y.1 % 65536)

/-- An earlier SCM write of the course to a granule that the instruction reads has not drained (R165). -/
def updUndrained (c : Ctx) (els : List UpdEl) : Bool :=
  els.any (fun e => regionOf e.spa = .scm &&
    (c.s.pwait.any (fun r => r.live && r.sid = some c.sid && r.spa / 256 = e.spa / 256)
      || c.s.pq.any (fun r => r.sid = some c.sid && r.spa / 256 = e.spa / 256)))

/-- Insert a granule's pieces by address. -/
def insertGranule (g : List Piece) : List (List Piece) → List (List Piece)
  | [] => [g]
  | h :: rest =>
    let a (x : List Piece) : Nat := match x with
      | p :: _ => p.spa / 256
      | [] => 0
    if a g < a h then g :: h :: rest else h :: insertGranule g rest

/-- The pieces that an UPDM writes in one plane, by granule in increasing address (R453). -/
def updPieces (m : State) (els : List UpdEl) (k : Nat) (scm : Bool) : List (List Piece) :=
  let mine := els.filter (fun e => e.plane = k && (decide (regionOf e.spa = .scm)) = scm)
  (byGranule (mine.map (fun e => ⟨e.lane, e.va, e.spa, .write (m.readMem e.spa e.n), .none, []⟩))).foldl (fun l g => insertGranule g l) []

/-- UPDM (R163 to R166, R453). -/
def updmMeaning (c : Ctx) : Eff :=
  let adam := c.o.mod = 1
  let va := (c.pair (Ctx.sn c.o.a)).toNat
  match readAtIssue c va 64 64 with
  | .error e => e
  | .ok bs =>
    let r := updRec bs
    match updLanes c adam r c.act.list with
    | .error f => c.faulted f (c.readBlocked f.addr.toNat)
    | .ok els =>
      let rs := els.map (fun e => (e.spa, e.n))
      match els.find? (fun e => unready c.s c.t.part e.va e.n) with
      | some e => c.readBlocked e.va
      | none =>
      if updUndrained c els then .wait
      else if !settled c.s c.cl rs then c.readBlocked (nth va (els.map (fun e => e.va)) 0)
      else match els.find? (fun e => ueAt c.s e.spa e.n) with
        | some e => (match windowOwner c.s e.spa with
          | some tm => .jump (killTeam c.s tm false)
          | none => .trap 0x1C (BitVec.ofNat 64 e.va) 0)
        | none =>
          let m := c.act.list.foldl (updOne_ c adam r els) c.s
          let hbm := [0, 1, 2, 3].flatMap (fun k => updPieces m els k false)
          let scm := [0, 1, 2, 3].flatMap (fun k => updPieces m els k true)
          match freeEntries c.s (tblOf c.sid) (hbm.length + scm.length) with
          | none => .wait
          | some es =>
            let s := countRuns c.s c.t.part (runs c.s c.who Acc.read va 64 ++ rs)
            let s := ((es.take hbm.length).zip hbm).foldl (fun s g => sendReq s c.sid c.p.id c.pc c.p.hdr .store [] 0 g.1 g.2) s
            let s := ((es.drop hbm.length).zip scm).foldl (sendPersist c (s.fresh + 1)) s
            .ok (extWrites s c.sid (scm.flatMap (fun g => g.map (fun p => (p.spa, p.size))))) []

/-- UPDM (R163 to R166). -/
def execUpdm (o : Opnds) (s : State) : Host.Outcome State Fault Refusal := issue 0x56 o s updmMeaning

end Sys2Proof.Machine
end

