-- ==== Sys2Proof/Machine/Counters.lean ====
section
/-! DEFINITION. Completion counters (R375, R376), the rings' fault report (R378), and the watchdog timers a decrement restarts (R412). -/
namespace Sys2Proof.Machine

/-- The fields of a completion counter (Table 17.1). -/
structure Cnt where
  v : Bool
  done : Bool
  can : Bool
  part : Nat
  level : Nat
  pv : Bool
  parent : Nat
  fail : Nat
  value : Nat
deriving DecidableEq, Repr

/-- The fields of a counter's 64 bits. -/
def cntOf (x : BitVec 64) : Cnt :=
  let f (lo n : Nat) : Nat := bits x.toNat lo n
  ⟨x.getLsbD 63, x.getLsbD 62, x.getLsbD 61, f 58 3, f 56 2, x.getLsbD 55, f 43 12, f 32 11, f 0 32⟩

/-- The 64 bits of a counter's fields. -/
def Cnt.word (c : Cnt) : BitVec 64 :=
  let b (x : Bool) (k : Nat) : Nat := if x then 2 ^ k else 0
  BitVec.ofNat 64 (b c.v 63 + b c.done 62 + b c.can 61 + c.part % 8 * 2 ^ 58 + c.level % 4 * 2 ^ 56 + b c.pv 55 + c.parent % 4096 * 2 ^ 43
    + c.fail % 2048 * 2 ^ 32 + c.value % 2 ^ 32)

/-- A counter's fields. -/
def State.cnt (s : State) (c : Nat) : Cnt := cntOf (s.counter c)
/-- Write a counter's fields. -/
def State.setCnt (s : State) (c : Nat) (x : Cnt) : State := s.setCounter c x.word
/-- A counter that is allocated to a partition. -/
def ownCnt (s : State) (p c : Nat) : Bool := c < 4096 && (s.cnt c).v && (s.cnt c).part = p

/-- The counters from one upward along PARENT (R376). -/
def chainOf (s : State) : Nat → Nat → List Nat
  | 0, _ => []
  | f + 1, c => c :: (if (s.cnt c).pv then chainOf s f (s.cnt c).parent else [])
/-- A unit whose own counter is given is in counter c (R376). -/
def inCounter (s : State) (c own : Nat) : Bool := (chainOf s 4096 own).contains c
/-- Some counter of the chain is cancelled (R386). -/
def chainCan (s : State) (c : Nat) : Bool := (chainOf s 4096 c).any (fun x => (s.cnt x).can)

-- Watchdog timers (R412): a timer is the clock at which it expires, 0 while it does not run

/-- The clock at which a timer of a partition that restarts now will expire; 0 where WDCFG disables it (Table 18.8a). -/
def wdDeadline (s : State) (p : Nat) : Nat :=
  let w := bits (s.part p).wdcfg.toNat 0 5
  if w = 0 then 0 else s.clock + 2 ^ max 20 w
/-- A queue has a packet that is not complete. -/
def HQ.busy (q : HQ) : Bool := !q.open_.isEmpty || q.waiting.isSome
/-- A queue with its timer restarted. -/
def HQ.restart (q : HQ) (deadline : Nat) : HQ := { q with timer := if q.busy then deadline else 0 }
/-- A decrement of a counter restarts the timers that depend on it (R412). -/
def restartTimers (s : State) (c : Nat) : State :=
  { s with
    queues := s.queues.map (fun e => (e.1,
      if e.2.open_.contains c || e.2.waiting = some c then e.2.restart (wdDeadline s e.2.part) else e.2)),
    parts := s.parts.map (fun e => (e.1, if e.2.awopen.contains c then { e.2 with awd := wdDeadline s e.1 } else e.2)) }

/-- A counter has become DONE: its packets are complete, and the WAITs that hold on it end (R381, R412). -/
def releaseWaits (s : State) (c : Nat) : State :=
  let q1 (q : HQ) : HQ :=
    let r : HQ := { q with open_ := q.open_.filter (fun x => x ≠ c), waiting := if q.waiting = some c then none else q.waiting,
                           st := if q.waiting = some c && q.st = 2 then 1 else q.st }
    if r.busy then r else { r with timer := 0 }
  let p1 (p : Part) : Part :=
    let l := p.awopen.filter (fun x => x ≠ c)
    { p with awopen := l, awd := if l.isEmpty then 0 else p.awd }
  { s with queues := s.queues.map (fun e => (e.1, q1 e.2)), parts := s.parts.map (fun e => (e.1, p1 e.2)) }

/-- A DECREMENT OF A COUNTER (R376). A chain that meets itself ends at a DONE counter, so 4,097 links suffice. -/
def decFrom : Nat → State → Nat → Bool → State
  | 0, s, _, _ => s
  | f + 1, s, c, failed =>
    let x := s.cnt c
    if x.done then s.modPart x.part (fun p => { p with cntUnder := p.cntUnder + 1 })
    else
      let value := (x.value + 2 ^ 32 - 1) % 2 ^ 32
      let fail := if failed then min (x.fail + 1) 2047 else x.fail
      let s := (restartTimers s c).setCnt c { x with value := value, fail := fail, done := decide (value = 0) }
      if value = 0 then
        let s := releaseWaits s c
        if x.pv then decFrom f s x.parent (fail ≠ 0 || x.can) else s
      else s
/-- A decrement. -/
def dec (s : State) (c : Nat) (failed : Bool) : State := decFrom 4097 s c failed

/-- A counter gains a member (R376, R398). -/
def addMember (s : State) (c : Nat) : State := s.setCnt c { s.cnt c with value := ((s.cnt c).value + 1) % 2 ^ 32 }

/-- SIGNAL.SET (R381); a PARENT that is not valid keeps no stated bits (log 4). -/
def setSignal (s : State) (c value : Nat) (parent level : Nat) : State :=
  let pv := decide (32768 ≤ parent)
  let par := if pv then parent % 4096 else (Config.freeWord s.fresh c).toNat % 4096
  let s := s.setCnt c ⟨(s.cnt c).v, decide (value = 0), false, (s.cnt c).part, level, pv, par, 0, value⟩
  if value = 0 then releaseWaits s c else s

-- The rings' control block (R378)

/-- The asker that a partition's ring is. -/
def ringWho (p : Nat) : Who := ⟨p, 0, 0, 0⟩
/-- Two addresses lie in one page of the partition. -/
def samePage (s : State) (p a b : Nat) : Bool :=
  match lookup s p a with
  | .ok l => a / 2 ^ l.size = b / 2 ^ l.size
  | .error _ => a / 4096 = b / 4096
/-- Write bytes of a ring's control block. -/
def ringPut (s : State) (p va : Nat) (bs : List Byte) : Except Flt State :=
  match access s (ringWho p) Acc.write va bs.length 1 with
  | .error f => .error f
  | .ok _ => .ok (writeVa s (ringWho p) Acc.write va bs)
/-- The offset of a queue's control block from slot 0. -/
def HQ.ctl (q : HQ) (off : Nat) : Nat := (q.ring.toNat + 2 ^ 64 - 64 + off) % 2 ^ 64
/-- The fault report of a queue's ring: QFLT, QROW and QADDR, unless the fault lies in the control block's own page; a bad shape has no address
(R378, R382). -/
def ringReport (s : State) (q code row : Nat) (addr : Option Addr) : State :=
  let h := s.queue q
  if addr.any (fun a => samePage s h.part (h.ctl 0) a.toNat) then s
  else match ringPut s h.part (h.ctl 16) (bytesOf code 4 ++ bytesOf row 4 ++ bytesOf (addr.getD 0).toNat 8) with
    | .ok s' => s'
    | .error _ => s

/-- A ring's COPY ends: its fault report, where it ended on a fault, and its counter's decrement (R382). -/
def ringEnd (s : State) (x : EngOp) (fault : Option (Nat × Addr)) : State :=
  match x.ring with
  | none => s
  | some (q, c) =>
    match fault with
    | some (code, addr) => dec (ringReport s q code x.unit (some addr)) c true
    | none => dec s c false

end Sys2Proof.Machine
end

