-- ==== Sys2Proof/Machine/Async.lean ====
section
/-! DEFINITION. Shape registers, copy and gather engines, completion barriers, queue registers and access counters (R251 to R278). -/
namespace Sys2Proof.Machine

-- Shapes

/-- The fields of a shape register (Table 12.2). -/
def shapeOf (w : BitVec 512) : Shape :=
  let f (lo n : Nat) : Nat := bits w.toNat lo n
  { base := f 0 64, elem := f 64 8, rank := f 72 8, d0 := f 128 32, d1 := f 160 32, d2 := f 192 32, d3 := f 224 32,
    t1 := f 256 32, t2 := f 288 32, t3 := f 320 32, fill := wd (f 352 32) }

/-- The element size. -/
def Shape.w (h : Shape) : Nat := typeSize h.elem
/-- The extents of the dimensions in use. -/
def Shape.dims (h : Shape) : List Nat := [h.d0, h.d1, h.d2, h.d3].take h.rank
/-- The element count. -/
def Shape.count (h : Shape) : Nat := h.dims.foldl (· * ·) 1
/-- An extent, 1 where the dimension is not in use. -/
def dim1 (n : Nat) : Nat := max 1 n
/-- The number of rows. -/
def Shape.rows (h : Shape) : Nat := dim1 h.d1 * dim1 h.d2 * dim1 h.d3
/-- The address of row r (R257). -/
def Shape.rowAt (h : Shape) (r : Nat) : Nat :=
  (h.base + r % dim1 h.d1 * h.t1 + r / dim1 h.d1 % dim1 h.d2 * h.t2 + r / (dim1 h.d1 * dim1 h.d2) * h.t3) % 2 ^ 64
/-- The address of element n of the traversal (R257). -/
def Shape.elemAt (h : Shape) (n : Nat) : Nat := (h.rowAt (n / h.d0) + n % h.d0 * h.w) % 2 ^ 64

/-- The runs of cnt elements of the traversal from element n: addresses and lengths. -/
def Shape.segs (h : Shape) : Nat → Nat → Nat → List (Nat × Nat)
  | 0, _, _ => []
  | f + 1, n, cnt =>
    if cnt = 0 then []
    else
      let k := min cnt (h.d0 - n % h.d0)
      (h.elemAt n, k * h.w) :: h.segs f (n + k) (cnt - k)

/-- A shape register is valid (R256). -/
def shapeOk (w : BitVec 512) : Bool :=
  let h := shapeOf w
  let dim (d t k : Nat) : Bool := if k < h.rank then d ≠ 0 else d = 0 && t = 0
  bits w.toNat 80 48 = 0 && bits w.toNat 384 128 = 0 && h.elem ≤ 9 && 1 ≤ h.rank && h.rank ≤ 4
    && dim h.d0 0 0 && dim h.d1 h.t1 1 && dim h.d2 h.t2 2 && dim h.d3 h.t3 3
    && h.base % h.w = 0 && h.t1 % h.w = 0 && h.t2 % h.w = 0 && h.t3 % h.w = 0 && h.count ≤ 2 ^ 32 - 1

/-- A shape operand, checked. -/
def Ctx.shape? (c : Ctx) (x : Opnd) : Option Shape := if shapeOk (c.t.shAt (Ctx.fn x)) then some (shapeOf (c.t.shAt (Ctx.fn x))) else none

/-- SHLD (R260). -/
def shldMeaning (c : Ctx) : Eff := loadMeaning c c.uva 64 (fun _ => .sh (Ctx.fn c.o.d))

/-- SHST (R260). -/
def shstMeaning (c : Ctx) : Eff := storeMeaning c false c.uva 64 (fun _ => bytesOf (c.t.shAt (Ctx.fn c.o.d)).toNat 64)

/-- A field of n bits at lo replaced. -/
def putField (w : BitVec 512) (lo n x : Nat) : BitVec 512 :=
  BitVec.ofNat 512 (w.toNat - bits w.toNat lo n * 2 ^ lo + x % 2 ^ n * 2 ^ lo)

/-- SHSET's new register (R261). -/
def shsetOf (c : Ctx) (w : BitVec 512) : BitVec 512 :=
  let add := c.o.mod / 16 = 1
  let v := (c.uni c.o.a).toNat
  let f (lo n x : Nat) : BitVec 512 := putField w lo n (if add then bits w.toNat lo n + x else x)
  match c.o.mod % 16 with
  | 0 => f 0 64 (if add then (sext64 (c.uni c.o.a)).toNat else (c.pair (Ctx.sn c.o.a)).toNat)
  | 1 => f 64 8 (v % 256)
  | 2 => f 72 8 (v % 256)
  | 3 => f 128 32 v
  | 4 => f 160 32 v
  | 5 => f 192 32 v
  | 6 => f 224 32 v
  | 7 => f 256 32 v
  | 8 => f 288 32 v
  | 9 => f 320 32 v
  | _ => f 352 32 v

/-- SHSET (R261). -/
def shsetMeaning (c : Ctx) : Eff :=
  let n := Ctx.fn c.o.d
  .ok (c.s.setStream c.sid { c.t with sh := Tab.set 0 c.t.sh n (shsetOf c (c.t.shAt n)) }) []

-- Completion barriers

/-- Change a completion barrier of a stream. -/
def modCb (s : State) (sid n : Nat) (f : Word → Word) : State :=
  s.modStream sid (fun t => { t with cb := Tab.set 0 t.cb n (f (t.cbAt n)) })
/-- PEND of a status word (Table 12.5). -/
def pend (w : Word) : Nat := bits w.toNat 0 8

/-- The stream that issued an operation still holds its slot. -/
def EngOp.held (x : EngOp) (s : State) : Bool :=
  match x.sid.bind s.stream? with
  | some t => x.team = some t.team
  | none => false

/-- An operation leaves its barrier with status bits (R263, R268). -/
def leaveCb (s : State) (x : EngOp) (bits_ : Word) : State :=
  match x.sid with
  | some i => if x.held s then modCb s i x.cb (fun w => (if pend w = 0 then w else w - 1) ||| bits_) else s
  | none => s

/-- CBINIT (R269). -/
def cbinitMeaning (c : Ctx) : Eff :=
  let n := Ctx.fn c.o.d
  if pend (c.t.cbAt n) ≠ 0 then .trap 0x28 0 0 else .ok (modCb c.s c.sid n (fun _ => 0)) []
/-- CBPOLL (R269). -/
def cbpollMeaning (c : Ctx) : Eff := .ok c.s [.s (Ctx.sn c.o.d) (c.t.cbAt (Ctx.fn c.o.a))]
/-- CBWAIT (R269). -/
def cbwaitMeaning (c : Ctx) : Eff := if pend (c.t.cbAt (Ctx.fn c.o.a)) ≠ 0 then .wait else cbpollMeaning c

-- Starting an operation

/-- Operations queued on a die (R251). -/
def dieOps (s : State) (die : Nat) : Nat := (s.eops.filter (fun e => match e.2 with
  | some x => x.die = die && !x.kind.collective
  | none => false)).length

/-- An operation of the issuer with its fields so far. -/
def Ctx.newOp (c : Ctx) (kind : EngKind) (a b i : Shape) (coll : Coll) (tag : Option Word) : EngOp :=
  { kind := kind, die := dieOf c.cl, part := c.t.part, sid := some c.sid, team := some c.t.team, pc := c.pc, em := if c.seq then 1 else c.act,
    cb := Ctx.fn c.o.d, a := a, b := b, c := i, coll := coll, mode := c.mode, tag := tag, unit := 0, off := 0, idx := 0, moved := 0,
    atUnit := true, done := false, cut := false, started := false, seq := 0, ans := [], stopped := false, ring := none, pleft := 0, epoch := c.t.pepoch, pages := [], launch := c.t.launch,
    since := c.s.clock, limit := timeoutOf c.s c.t.part, moving := none }

/-- PEND rises and the operation is enqueued (R251). -/
def Ctx.enqueue (c : Ctx) (x : EngOp) : State :=
  let s := modCb c.s c.sid x.cb (fun w => w + 1)
  { s.setEop s.neop (some x) with neop := s.neop + 1 }

/-- The operation issues once the queue has room and PEND is below 255 (R251). -/
def Ctx.start (c : Ctx) (x : EngOp) : Eff :=
  if 1024 ≤ dieOps c.s (dieOf c.cl) || 255 ≤ pend (c.t.cbAt x.cb) then .wait else .ok (c.enqueue x) []

/-- No collective. -/
def Coll.zero : Coll := ⟨0, 0, 0, 0, 0, 0, 0, 0, 0⟩
/-- No shape. -/
def Shape.zero : Shape := ⟨0, 0, 0, 0, 0, 0, 0, 0, 0, 0, 0⟩

/-- A shape that COPY.MIG takes (R264). -/
def migOk (h : Shape) : Bool := h.rank = 1 && h.elem = 6 && h.d0 % 65536 = 0 && h.base % 65536 = 0

/-- COPY (R262, R264, R270). -/
def copyMeaning (c : Ctx) : Eff :=
  let mode := c.o.mod % 4
  let res := c.o.mod / 4 % 2 = 1
  let tile := (c.uni c.o.c).toNat
  if res && 65535 < tile then .trap 0x02 0 0
  else if mode = 2 && !c.t.sys then .trap 0x1A 0 0
  else match c.shape? c.o.a, c.shape? c.o.b with
    | some a, some b =>
      if a.count ≠ b.count || a.w ≠ b.w || (mode = 2 && !(migOk a && migOk b)) then .trap 0x24 0 0
      else
        let tag := if mode = 0 || c.seq then none else some c.t.step
        match c.start (c.newOp (.copy mode (if res then some tile else none)) a b Shape.zero Coll.zero tag) with
        | .ok s ws => .ok (if !c.seq && (mode = 1 || (mode = 2 && regionOf a.base = .scm)) then s.modStream c.sid (fun t => { t with ptag := some (match t.ptag with
              | some g => if g.toNat < t.step.toNat then t.step else g
              | none => t.step) }) else s) ws
        | e => e
    | _, _ => .trap 0x24 0 0

/-- GATHER and SCATTER (R266): n rows of DIM0(table) elements. -/
def gatherMeaning (c : Ctx) (kind : EngKind) (table rows : Opnd) : Eff :=
  match c.shape? table, c.shape? rows, c.shape? c.o.c with
  | some t, some r, some i =>
    let addOk := match kind with
      | .scatter true => t.elem = 0 || t.elem = 5 || t.elem = 8
      | _ => true
    if i.rank ≠ 1 || (i.elem ≠ 5 && i.elem ≠ 8) || t.rank ≠ 2 || r.count ≠ i.d0 * t.d0 || r.w ≠ t.w || !addOk then .trap 0x24 0 0
    else c.start (c.newOp kind t r i Coll.zero none)
  | _, _, _ => .trap 0x24 0 0

-- Engines

/-- The asker that an operation is: its die, and its team's window. -/
def EngOp.who (x : EngOp) (s : State) : Who :=
  match x.team.bind s.team? with
  | some tm => ⟨x.part, x.die, tm.wbase, tm.wsize⟩
  | none => ⟨x.part, x.die, 0, 0⟩

/-- The lowest faulting page of a run. -/
def runFault (s : State) (w : Who) (acc : Acc) (r : Nat × Nat) : Option Flt :=
  (pagesOf r.1 r.2).findSome? (fun a => match probe s w acc a with
    | .error f => some f
    | .ok _ => none)

/-- The lower address of two faults. -/
def lowerAddr (a b : Option Flt) : Option Flt :=
  match a, b with
  | none, b => b
  | a, none => a
  | some x, some y => if y.addr.toNat < x.addr.toNat then some y else some x

/-- The lowest faulting address of several runs. -/
def runsFault (s : State) (w : Who) (acc : Acc) (rs : List (Nat × Nat)) : Option Flt :=
  rs.foldl (fun m r => lowerAddr m (runFault s w acc r)) none

/-- The bytes of several runs. -/
def readRuns (s : State) (w : Who) (acc : Acc) (rs : List (Nat × Nat)) : List Byte := rs.flatMap (fun r => readVa s w acc r.1 r.2)

/-- Write bytes over several runs. -/
def writeSegs (s : State) (w : Who) (acc : Acc) : List (Nat × Nat) → List Byte → State
  | [], _ => s
  | (a, n) :: rest, bs => writeSegs (writeVa s w acc a (bs.take n)) w acc rest (bs.drop n)

/-- The first byte of several runs that holds an uncorrectable error: its virtual and physical place. -/
def runsUe (s : State) (w : Who) (acc : Acc) (rs : List (Nat × Nat)) : Option (Nat × Nat) :=
  rs.findSome? (fun r => (runs s w acc r.1 r.2).findSome? (fun x => if ueAt s x.1 x.2 then some (r.1, x.1) else none))

/-- Some page of the runs is blocked (R202). -/
def runsBlocked (s : State) (p : Nat) (rs : List (Nat × Nat)) : Bool := rs.any (fun r => unready s p r.1 r.2)

/-- The first run of several that lies in a blocked page. -/
def firstBlocked (s : State) (p : Nat) (rs : List (Nat × Nat)) : Nat := ((rs.find? (fun r => unready s p r.1 r.2)).map (fun r => r.1)).getD 0

/-- The granules of the runs are counted (R275). -/
def countGranules (s : State) (p : Nat) (w : Who) (acc : Acc) (rs : List (Nat × Nat)) : State :=
  rs.foldl (fun s r => countRuns s p (runs s w acc r.1 r.2)) s

/-- An engine reads runs: each granule is a request (R275, R327). Requests of class P are not counted (R275). -/
def engReads (s : State) (n : Nat) (x : EngOp) (w : Who) (rs : List (Nat × Nat)) : State :=
  (if x.persists then s else countGranules s x.part w Acc.read rs).wireReads (x.sender n) (rs.flatMap (fun r => runs s w Acc.read r.1 r.2))

/-- An operation leaves its engine. -/
def dropOp (s : State) (n : Nat) : State := s.setEop n none

/-- The stream whose course or sequencer an operation's fault is attributed to, and the course that handles it (R263, R405). -/
def opHandler (s : State) (x : EngOp) : Option Nat :=
  match x.sid with
  | some i => (match s.stream? i with
    | some t => if x.held s then handlerOf s i t else none
    | none => none)
  | none => none

/-- An operation that a kill or a CANCEL ends leaves its engine: a ring's COPY decrements its counter with the failed flag (R254, R382). -/
def cutEnd (s : State) (n : Nat) (x : EngOp) : State :=
  freeKilled (match x.ring with
    | some (_, c) => dec (dropOp s n) c true
    | none => dropOp s n)

/-- An operation ends on a fault: FLT, one less pending, a stop record, the halt line (R263, R267); a ring's COPY as R382 says; one of a killed
team without a record (R254). -/
def faultOp (s : State) (n : Nat) (x : EngOp) (cause : Nat) (addr : Addr) : State :=
  if x.cut then cutEnd s n x
  else if x.ring.isSome then ringEnd (dropOp s n) x (some (cause, addr))
  else
  let s := leaveCb (dropOp s n) x (if cause = 0x1C then 0x300 else 0x100)
  arbiter s x.part ⟨0, eopIndex n x, opHandler s x, cause, x.pc, addr, wd x.unit, x.em, 1, false, none, none, 0, x.sid.any isSeq⟩

/-- The stream that an operation leaves may have waited for it alone (R254). -/
def settleOp (s : State) (x : EngOp) : State :=
  match x.sid with
  | some i => if x.held s then settle s i else s
  | none => s

/-- An operation ends on an uncorrectable error: the kill of a window's team without a fault, else MEM_UE (R208, R263). -/
def ueOp (s : State) (n : Nat) (x : EngOp) (bad : Nat × Nat) : State :=
  match windowOwner s bad.2 with
  | some tm => let s := ringEnd (leaveCb (dropOp s n) x 0x200) x (some (0x1C, BitVec.ofNat 64 bad.1))
               killTeam (settleOp s x) tm false
  | none => faultOp s n x 0x1C (BitVec.ofNat 64 bad.1)

/-- An engine moves no further: it is stopped, or waits for its entries' acceptance (R265, R402). -/
def EngOp.idle (x : EngOp) : Bool := x.stopped || x.done

/-- Elements between two boundaries at which an operation stops: 4 KiB of destination, or 256 elements (Table 1.9, R265, R267). -/
def EngOp.pitch (x : EngOp) : Nat :=
  match x.kind with
  | .copy _ _ => 4096 / x.a.w
  | _ => 256

/-- The elements of its unit that an operation moves next: to the unit's end or the next boundary. -/
def EngOp.chunk (x : EngOp) : Nat := min (x.a.d0 - x.off) (x.pitch - x.moved % x.pitch)

/-- The operation after k elements of its unit (R263, R265, R267). -/
def EngOp.advance (x : EngOp) (s : State) (total k : Nat) : EngOp :=
  let last := decide (x.a.d0 ≤ x.off + k)
  let n := k * x.a.w
  { x with
    off := if last then 0 else x.off + k, unit := if last then x.unit + 1 else x.unit, moved := x.moved + k,
    atUnit := !last || decide ((x.moved + k) % x.pitch = 0), since := s.clock, limit := timeoutOf s x.part, done := last && decide (total ≤ x.unit + 1),
    moving := if last then none else x.moving.map (fun m => { m with runs := dropRuns m.runs n, data := m.data.drop n }) }

/-- The operation past an index that names no row (R266). -/
def EngOp.skip (x : EngOp) (s : State) (total : Nat) : EngOp :=
  { x with unit := x.unit + 1, atUnit := decide (x.moved % x.pitch = 0), since := s.clock, limit := timeoutOf s x.part, done := decide (total ≤ x.unit + 1) }

/-- An operation goes on; one of a killed or cancelled team, or of a cancelled counter, ends at its boundary (R254, R396). -/
def goOn (s : State) (n : Nat) (x : EngOp) : State := if x.cut && (x.atUnit || x.done) then cutEnd s n x else s.setEop n (some x)

/-- What a copy's destination needs (R264). -/
def copyAcc (mode : Nat) : Acc := if mode = 1 then Acc.persist else Acc.write

/-- Bytes over runs of physical addresses, by granule in order. -/
def granulesOf (rs : List (Nat × Nat)) (bs : List Byte) : List (Nat × List (Nat × Byte)) :=
  let pairs := (rs.foldl (fun (acc : List (Nat × Byte) × List Byte) r =>
    (acc.1 ++ ((acc.2.take r.2).zipIdx.map (fun b => (r.1 + b.2, b.1))), acc.2.drop r.2)) ([], bs)).1
  (pairs.foldl (fun (gs : List (Nat × List (Nat × Byte))) b =>
    match gs with
    | (g, l) :: rest => if g = b.1 / 256 then (g, l ++ [b]) :: rest else (b.1 / 256, [b]) :: gs
    | [] => [(b.1 / 256, [b])]) []).reverse

/-- The persist requests of a part of a destination row, one per granule: P requests of the issuer, each with an entry of its table and
counted as a store (R347, R348, R451); none where the table has too few. A ring's COPY has no issuer's table. -/
def rowPersist (s : State) (n : Nat) (x : EngOp) (va : Nat) (rs : List (Nat × Nat)) (bs : List Byte) : Option State :=
  let groups := granulesOf rs bs
  let step := x.tag.getD (s.part x.part).pstepmax
  let preq (t : Option Tag) (g : Nat × List (Nat × Byte)) : PReq :=
    ⟨t, x.sid, 2000 + n, 0, x.epoch, x.part, some step, g.1 * 256, some va, g.2, some n, none, true, x.launch⟩
  let put (s : State) (ps : List PReq) : State :=
    { s with pwait := s.pwait ++ ps }.setEop n (some { x with pleft := x.pleft + ps.length })
  match x.sid with
  | none => some (put s (groups.map (preq none)))
  | some i =>
    let tbl := tblOf i
    match freeEntries s tbl groups.length with
    | none => none
    | some es =>
      let gone := !x.held s
      let entry (g : Nat × List (Nat × Byte)) : Entry :=
        { sid := i, path := 2 ^ 32, pc := x.pc, hdr := 0, kind := .persist, part := x.part, issued := s.clock,
          pieces := [⟨0, va, g.1 * 256, .write (g.2.map (fun b => b.2)), .none, []⟩], inTry := false, inHnd := false, drop := gone, gone := gone,
          q := [], launch := x.launch, team := x.team.getD 0, born := s.fresh, limit := x.limit, loop := none, killed := false }
      let s1 := (es.zip groups).foldl (fun s g => { s with ott := Tab.set none s.ott (entKey tbl g.1) (some (entry g.2)) }) s
      let s2 := if gone then s1 else s1.modStream i (fun t => { t with outst := t.outst + groups.length })
      some (put s2 ((es.zip groups).map (fun g => preq (some ⟨tbl, g.1, (genOf s tbl g.1).1⟩) g.2)))

/-- The lowest address of a row that translates outside the cistern (R263, R270). -/
def outsideCistern (s : State) (w : Who) (acc : Acc) (row : Nat × Nat) : Option Nat :=
  (pagesOf row.1 row.2).find? (fun a => match probe s w acc a with
    | .ok l => regionOf l.spa ≠ .cistern
    | .error _ => false)

/-- The first frame of a migration's destination that is none of HBM or SCM (R264). -/
def badFrame (spa len : Nat) : Option Nat :=
  ((List.range (len / 65536)).map (fun i => spa + 65536 * i)).find? (fun a => regionOf a ≠ .hbm && regionOf a ≠ .scm)

/-- The check of a copy's row, destination first, before any byte of it is written (R262 to R264, R270): how it ends the operation. A migration to a
frame of the cistern or of host memory ends with PA_RANGE (DESIGN CHOICE, log 75). -/
def copyFault (s : State) (w : Who) (x : EngOp) (mode : Nat) (res : Option Nat) (dst src : List (Nat × Nat)) : Option (Nat × Addr) :=
  let f (x : Option Flt) : Option (Nat × Addr) := x.map (fun f => (f.code, f.addr))
  if mode = 2 then ((badFrame x.a.base (x.a.d0 * x.a.w)).map (fun a => (0x16, BitVec.ofNat 64 a))).or (f (runsFault s w Acc.read src))
  else (f (runsFault s w (copyAcc mode) dst)).or
    (((if res.isSome then (dst.head?.bind (outsideCistern s w (copyAcc mode))) else none).map (fun a => (0x45, BitVec.ofNat 64 a))).or
      (f (runsFault s w Acc.read src)))

/-- What an operation's unit becomes as it begins: the move ends there, waiting or at a fault, or the unit is open. -/
abbrev Opening := Except State (State × EngOp)

/-- The unit is open: its destination translated, and the bytes for it (R262, R263). -/
def EngOp.opened (x : EngOp) (s : State) (w : Who) (acc : Acc) (dst : List (Nat × Nat)) (bs : List Byte) : EngOp :=
  { x with moving := some ⟨dst.flatMap (fun r => runs s w acc r.1 r.2), bs, pagesFor s w acc dst⟩ }

/-- A copy engine begins a destination row, or goes on in one after a stop: before any byte of it is written, every page of the row and of its
sources is translated and checked, and the sources are read (R262 to R264, R270). -/
def openCopy (s : State) (n : Nat) (x : EngOp) (mode : Nat) (res : Option Nat) : Opening :=
  let w := x.who s
  let k := x.a.d0 - x.off
  let dst := [((if mode = 2 then x.a.base else x.a.rowAt x.unit) + x.off * x.a.w, k * x.a.w)]
  let src := x.b.segs (k + 1) (x.unit * x.a.d0 + x.off) k
  if mode ≠ 2 && runsBlocked s x.part (dst ++ src) then .error s
  else match copyFault s w x mode res dst src with
    | some f => .error (faultOp s n x f.1 f.2)
    | none => match runsUe s w Acc.read src with
      | some b => .error (ueOp s n x b)
      | none =>
        let bs := readRuns s w Acc.read src
        .ok (engReads s n x w src,
          if mode = 2 then { x with moving := some ⟨dst, bs, []⟩ } else x.opened s w (copyAcc mode) dst bs)

/-- The requests of a part that an engine writes: an atomic for each element of a SCATTER.ADD (R266), else writes. -/
def EngOp.pieces (x : EngOp) (rs : List (Nat × Nat)) (bs : List Byte) : List Piece :=
  match x.kind with
  | .scatter true => ((rs.flatMap (fun r => (List.range (r.2 / x.a.w)).map (fun i => r.1 + i * x.a.w))).zip (chunks x.a.w bs.length bs)).map (fun e =>
      ⟨0, 0, e.1, .atom 0 (wd (ofBytes e.2)) 0, .none, []⟩)
  | _ => writePieces (rs.flatMap splitRun) bs

/-- An engine writes the part of its open unit up to the next boundary (R265, R267). new gives the bytes that the part's runs take, old bytes
first. -/
def movePart (s : State) (n : Nat) (x : EngOp) (m : Moving) (total : Nat) (new : List Byte → List Byte → List Byte) : State :=
  let k := x.chunk
  let rs := takeRuns m.runs (k * x.a.w)
  let old := rs.flatMap (fun r => s.readMem r.1 r.2)
  let ps := x.pieces rs (m.data.take (k * x.a.w))
  let s1 := (countRuns (writeRuns s rs (new old (m.data.take (k * x.a.w)))) x.part rs).exchange (x.sender n) ps (ps.map (fun p => s.readMem p.spa p.size)) false
  goOn s1 n (x.advance s total k)

/-- The part of an open row that a .PST or .MIG copy hands to the persist queue; it waits where the issuer's table has too few entries. Requests
of class P are not counted (R275). -/
def persistPart (s : State) (n : Nat) (x : EngOp) (m : Moving) : Option State :=
  let k := x.chunk
  let va := if x.kind.isMig then x.b.elemAt (x.unit * x.a.d0 + x.off) else x.a.rowAt x.unit + x.off * x.a.w
  (rowPersist s n x va (takeRuns m.runs (k * x.a.w)) (m.data.take (k * x.a.w))).map
    (fun s1 => goOn s1 n (((s1.eop? n).getD x).advance s x.a.rows k))

/-- A copy engine writes the part of a destination row up to the next boundary, a row it begins being checked first (R262 to R265, R270). -/
def copyRow (s : State) (n : Nat) (x : EngOp) (mode : Nat) (res : Option Nat) : State :=
  let go (s1 : State) (y : EngOp) (m : Moving) : State :=
    if x.persists then (persistPart s1 n y m).getD s else movePart s1 n y m x.a.rows (fun _ b => b)
  match x.moving with
  | some m => go s x m
  | none => match openCopy s n x mode res with
    | .error s' => s'
    | .ok (s1, y) => match y.moving with
      | some m => go s1 y m
      | none => s1

/-- The low w bytes of FILL, zero-extended (R266, Table 12.2). -/
def fillBytes (h : Shape) : List Byte := bytesOf h.fill.toNat h.w

/-- The index that a gather engine reads for a unit. -/
def indexAt (s : State) (x : EngOp) : Nat := ofBytes (readVa s (x.who s) Acc.read (x.c.elemAt x.unit) 4)

/-- The table number under which REQUEST_TIMEOUT names an engine operation (log 45). -/
def engTbl : Nat := 960

/-- Where the requests of an operation's unit go: its reads and its writes (R262, R266, R339). -/
def EngOp.unitAddrs (x : EngOp) (k : Nat) : List Nat :=
  match x.kind with
  | .copy _ _ => [x.b.elemAt (x.unit * x.a.d0 + x.off), x.a.rowAt x.unit + x.off * x.a.w]
  | .gather => [x.c.elemAt x.unit, x.a.rowAt k, x.b.elemAt (x.unit * x.a.d0)]
  | .scatter _ => [x.c.elemAt x.unit, x.b.elemAt (x.unit * x.a.d0), x.a.rowAt k]
  | .mcst => [x.coll.src]
  | .mcred => [x.coll.src]

/-- The address of the request that timed out: which request of the unit it was is free (log 45). -/
def EngOp.lateAddr (s : State) (x : EngOp) (k : Nat) : Addr :=
  let as := x.unitAddrs k
  BitVec.ofNat 64 (nth 0 as ((Config.freeWord s.fresh 2).toNat % as.length))

/-- The persist requests of an operation time out: settled, their entries free, with new generations (R206, R461). -/
def lateEntries (s : State) (n : Nat) (x : EngOp) : State :=
  (s.pwait.filter (fun r => r.op = some n)).foldl (fun s r => match r.tag with
    | some t => (match Tab.get none s.ott (entKey t.tbl t.ent) with
      | some e => advanceGen (freeEntry s t.tbl t.ent e) t.tbl t.ent x.part
      | none => s)
    | none => s) { s with pwait := s.pwait.map (fun r => if r.op = some n then { r with live := false } else r) }

/-- A request of an engine has not replied within the timeout (R206, R263); a collective that has started completes whole (R345). -/
def engineTimeout (s : State) (n : Nat) : State :=
  match s.eop? n with
  | none => s
  | some x =>
    if s.clock < x.since + x.limit || x.started then s
    else if 0 < x.pleft then
      let y := if x.off = 0 then { x with unit := x.unit - 1 } else x
      faultOp (lateEntries s n x) n y 0x1B (y.lateAddr s 0)
    else if x.idle || x.moving.isSome then s
    else faultOp s n x 0x1B (x.lateAddr s (if x.off = 0 then indexAt s x else x.idx))

/-- An operation met an index outside its table (R266). -/
def setOor (s : State) (x : EngOp) : State :=
  match x.sid with
  | some i => if x.held s then modCb s i x.cb (fun w => w ||| 0x800) else s
  | none => s

/-- The place of k elements of table row i, from the one the unit is at. -/
def EngOp.tableRow (x : EngOp) (i off k : Nat) : Nat × Nat := ((x.a.base + i * x.a.t1 + off * x.a.w) % 2 ^ 64, k * x.a.w)
/-- The runs of k elements of the unit's row in the row box, from element off. -/
def EngOp.boxRow (x : EngOp) (off k : Nat) : List (Nat × Nat) := x.b.segs (k + 1) (x.unit * x.a.d0 + off) k
/-- The runs of the unit's index, which is read as the unit begins. -/
def EngOp.idxRun (x : EngOp) : List (Nat × Nat) := if x.off = 0 then [(x.c.elemAt x.unit, 4)] else []
/-- The index of the unit. -/
def EngOp.index (x : EngOp) (s : State) : Nat := if x.off = 0 then indexAt s x else x.idx

/-- A gather engine begins an output row, or goes on in one after a stop (R266, R267). -/
def openGather (s : State) (n : Nat) (x : EngOp) : Opening :=
  let w := x.who s
  let k := x.a.d0 - x.off
  let out := x.boxRow x.off k
  if runsBlocked s x.part (x.idxRun ++ out) then .error s
  else match lowerAddr (runsFault s w Acc.read x.idxRun) (runsFault s w Acc.write out) with
    | some f => .error (faultOp s n x f.code f.addr)
    | none => match runsUe s w Acc.read x.idxRun with
      | some b => .error (ueOp s n x b)
      | none =>
        let i := x.index s
        let y := { x with idx := i }
        let row := [x.tableRow i x.off k]
        let s0 := engReads s n x w x.idxRun
        if i < x.a.d1 then
          if runsBlocked s x.part row then .error s
          else match runsFault s w Acc.read row with
            | some f => .error (faultOp s n x f.code f.addr)
            | none => match runsUe s w Acc.read row with
              | some b => .error (ueOp s n x b)
              | none => .ok (engReads s0 n x w row, y.opened s w Acc.write out (readRuns s w Acc.read row))
        else .ok (setOor s0 x, y.opened s w Acc.write out ((List.range k).flatMap (fun _ => fillBytes x.a)))

/-- A gather engine writes the part of an output row up to the next boundary (R266, R267). -/
def gatherRow (s : State) (n : Nat) (x : EngOp) : State :=
  let go (s1 : State) (y : EngOp) (m : Moving) : State := movePart s1 n y m x.c.d0 (fun _ b => b)
  match x.moving with
  | some m => go s x m
  | none => match openGather s n x with
    | .error s' => s'
    | .ok (s1, y) => match y.moving with
      | some m => go s1 y m
      | none => s1

/-- One element add of SCATTER.ADD (R266). -/
def scatterAdd (x : EngOp) (old new : List Byte) : List Byte :=
  if x.a.elem = 0 then
    let f (b : List Byte) : Num := f32.num (dazOf x.mode) (ofBytes b)
    bytesOf (f32.rne x.mode (sumNum false [f old, f new])) 4
  else bytesOf ((ofBytes old + ofBytes new) % 2 ^ 32) 4

/-- What a scatter's table row needs (R266). -/
def scatterAcc (add : Bool) : Acc := if add then Acc.atomic true else Acc.write

/-- A gather engine begins an index of a scatter, or goes on in one after a stop; an index that names no row is skipped (R266, R267). -/
def openScatter (s : State) (n : Nat) (x : EngOp) (add : Bool) : Opening :=
  let w := x.who s
  let k := x.a.d0 - x.off
  let inn := x.boxRow x.off k
  let whole := x.idxRun ++ inn
  if runsBlocked s x.part whole then .error s
  else match runsFault s w Acc.read whole with
    | some f => .error (faultOp s n x f.code f.addr)
    | none => match runsUe s w Acc.read whole with
      | some b => .error (ueOp s n x b)
      | none =>
        let i := x.index s
        let y := { x with idx := i }
        let s0 := engReads (engReads s n x w x.idxRun) n x w inn
        if x.a.d1 ≤ i then .error (goOn (setOor s0 x) n (y.skip s x.c.d0))
        else
          let row := [x.tableRow i x.off k]
          if runsBlocked s x.part row then .error s
          else match runsFault s w (scatterAcc add) row with
            | some f => .error (faultOp s n x f.code f.addr)
            | none => match (if add then runsUe s w (scatterAcc add) row else none) with
              | some b => .error (ueOp s n x b)
              | none => .ok (s0, y.opened s w (scatterAcc add) row (readRuns s w Acc.read inn))

/-- A gather engine applies the part of an index of a scatter up to the next boundary (R266, R267). An error that has struck the row's other
elements since its check ends the operation there (log 46). -/
def scatterIndex (s : State) (n : Nat) (x : EngOp) (add : Bool) : State :=
  let go (s1 : State) (y : EngOp) (m : Moving) : State :=
    let k := y.chunk
    let bad := if add then (takeRuns m.runs (k * y.a.w)).find? (fun r => ueAt s1 r.1 r.2) else none
    match bad with
    | some r => ueOp s1 n y ((y.tableRow y.idx y.off k).1, r.1)
    | none => movePart s1 n y m x.c.d0 (fun old b =>
        if add then ((chunks x.a.w k old).zip (chunks x.a.w k b)).flatMap (fun e => scatterAdd x e.1 e.2) else b)
  match x.moving with
  | some m => go s x m
  | none => match openScatter s n x add with
    | .error s' => s'
    | .ok (s1, y) => match y.moving with
      | some m => go s1 y m
      | none => s1

-- Queue registers

/-- QBIND (R272). -/
def qbindMeaning (c : Ctx) : Eff :=
  let q := Ctx.fn c.o.d
  let h := (c.uni c.o.b).toNat
  let r := (vIndex (c.view 0) c.o.a).getD 0
  if 31 < h || (List.range 16).any (fun i => i ≠ q && (match c.t.qAt i with
      | some b => b.reg = r
      | none => false)) then .trap 0x27 0 0
  else .ok (c.s.setStream c.sid { c.t with q := Tab.set none c.t.q q (some ⟨h, r⟩) }) []

/-- QBIND.FREE (R272). -/
def qfreeMeaning (c : Ctx) : Eff := .ok (c.s.setStream c.sid { c.t with q := Tab.set none c.t.q (Ctx.fn c.o.d) none }) []

/-- QSTAT's word (Table 12.6); without a binding only V is given, and the rest is zero. OCC counts a reserved entry too (DESIGN CHOICE, log 76). -/
def qstatWord (c : Ctx) : Word :=
  match c.t.qAt (Ctx.fn c.o.a) with
  | some b => wd (2 ^ 31 + (if 16 ≤ b.hq then 2 ^ 30 else 0) + b.hq * 2 ^ 25 + b.reg * 4096 + (hqOf c.s c.cl b.hq).length)
  | none => 0

-- Access counters

/-- PGACC (R276): only translation faults apply; storage without counters gives a free byte (log 4). -/
def pgaccMeaning (c : Ctx) : Eff :=
  let va := c.va 0
  if !c.t.sys then .trap 0x1A 0 0
  else match probe c.s c.who ⟨false, false, false, none, none, none, none⟩ va with
    | .error f => c.faulted f (c.readBlocked f.addr.toNat)
    | .ok l =>
      if blocked c.s c.t.part va 1 then c.readBlocked va
      else
        let f := l.spa / 65536
        let counted := regionOf l.spa = .hbm || regionOf l.spa = .scm
        let x : Word := if counted then wd (Tab.get 0 c.s.acc f) else Config.freeWord c.s.fresh 0 &&& 255
        .ok (if c.o.mod = 1 && counted then { c.s with acc := Tab.set 0 c.s.acc f 0 } else c.s) [.s (Ctx.sn c.o.d) x]

/-- SHLD (R260). -/
def execShld (o : Opnds) (s : State) : Host.Outcome State Fault Refusal := issue 0x98 o s shldMeaning

/-- SHSET (R261). -/
def execShset (o : Opnds) (s : State) : Host.Outcome State Fault Refusal := issue 0x99 o s shsetMeaning

/-- SHST (R260). -/
def execShst (o : Opnds) (s : State) : Host.Outcome State Fault Refusal := issue 0x9A o s shstMeaning

/-- COPY (R262 to R264, R270). -/
def execCopy (o : Opnds) (s : State) : Host.Outcome State Fault Refusal := issue 0x9B o s copyMeaning

/-- GATHER (R266). -/
def execGather (o : Opnds) (s : State) : Host.Outcome State Fault Refusal := issue 0x9C o s (fun c => gatherMeaning c .gather o.b o.a)

/-- SCATTER (R266). -/
def execScatter (o : Opnds) (s : State) : Host.Outcome State Fault Refusal :=
  issue 0x9D o s (fun c => gatherMeaning c (.scatter (o.mod = 1)) o.a o.b)

/-- CBINIT (R269). -/
def execCbinit32 (o : Opnds) (s : State) : Host.Outcome State Fault Refusal := issue 0x9E o s cbinitMeaning

/-- CBINIT (R269). -/
def execCbinit (o : Opnds) (s : State) : Host.Outcome State Fault Refusal := issue 0x9E o s cbinitMeaning

/-- CBWAIT (R269). -/
def execCbwait32 (o : Opnds) (s : State) : Host.Outcome State Fault Refusal := issue 0x9F o s cbwaitMeaning

/-- CBWAIT (R269). -/
def execCbwait (o : Opnds) (s : State) : Host.Outcome State Fault Refusal := issue 0x9F o s cbwaitMeaning

/-- CBPOLL (R269). -/
def execCbpoll32 (o : Opnds) (s : State) : Host.Outcome State Fault Refusal := issue 0xA0 o s cbpollMeaning

/-- CBPOLL (R269). -/
def execCbpoll (o : Opnds) (s : State) : Host.Outcome State Fault Refusal := issue 0xA0 o s cbpollMeaning

/-- QBIND (R272). -/
def execQbind (o : Opnds) (s : State) : Host.Outcome State Fault Refusal := issue 0xA1 o s qbindMeaning

/-- QBIND.FREE (R272). -/
def execQbindFree (o : Opnds) (s : State) : Host.Outcome State Fault Refusal := issue 0xA1 o s qfreeMeaning

/-- QSTAT (R274). -/
def execQstat32 (o : Opnds) (s : State) : Host.Outcome State Fault Refusal :=
  issue 0xA2 o s (fun c => .ok c.s [.s (Ctx.sn o.d) (qstatWord c)])

/-- QSTAT (R274). -/
def execQstat (o : Opnds) (s : State) : Host.Outcome State Fault Refusal :=
  issue 0xA2 o s (fun c => .ok c.s [.s (Ctx.sn o.d) (qstatWord c)])

/-- PGACC (R276). -/
def execPgacc (o : Opnds) (s : State) : Host.Outcome State Fault Refusal := issue 0xA3 o s pgaccMeaning

/-- COPY_ROW (R262 to R265). -/
def execCopyRow (op : Nat) (s : State) : Host.Outcome State Fault Refusal :=
  .next (match s.eop? op with
    | some x => if x.idle || x.pleft ≠ 0 || !islandUp s (16 + x.die) then s else (match x.kind with
      | .copy mode res => copyRow s op x mode res
      | _ => s)
    | none => s)

/-- GATHER_ROW (R266). -/
def execGatherRow (op : Nat) (s : State) : Host.Outcome State Fault Refusal :=
  .next (match s.eop? op with
    | some x => if x.idle || !islandUp s (16 + x.die) then s else (match x.kind with
      | .gather => gatherRow s op x
      | _ => s)
    | none => s)

/-- SCATTER_INDEX (R266). -/
def execScatterIndex (op : Nat) (s : State) : Host.Outcome State Fault Refusal :=
  .next (match s.eop? op with
    | some x => if x.idle || !islandUp s (16 + x.die) then s else (match x.kind with
      | .scatter add => scatterIndex s op x add
      | _ => s)
    | none => s)

end Sys2Proof.Machine
end

