-- ==== Sys2Proof/Machine/Control.lean ====
section
/-! DEFINITION. Control instructions (R96 to R127). -/
namespace Sys2Proof.Machine

/-- Transfer the issuing path, changed by f, to a header (R82, R104); the transfer has taken its issue slots (R85). -/
def transfer (c : Ctx) (t : Stream) (f : Path → Path) (check : Bool) (va : Addr) : Eff :=
  match t.path? c.k with
  | none => .jump c.s
  | some p => .jump (enterHeader (c.s.setStream c.sid (t.setPath c.k (some (f { p with slot := c.p.slot + 1 + c.o.stall, wait := none })))) c.sid c.k 0x05 check va)

/-- The first target of the instruction. -/
def Ctx.target (c : Ctx) : Addr := nth 0 (targets c) 0

/-- The condition of BRC (Table 5.5). -/
def brcTaken (c : Ctx) : Bool :=
  match c.o.mod with
  | 0 => c.triple (Ctx.sn c.o.a) &&& c.act ≠ 0
  | 1 => c.act &&& ~~~(c.triple (Ctx.sn c.o.a)) = 0
  | 2 => c.triple (Ctx.sn c.o.a) &&& c.act = 0
  | 3 => c.uni c.o.a ≠ 0
  | _ => c.uni c.o.a = 0

/-- Open a record for the issuing path, or reuse the one it owes: the stream, or the trap (R102, R113). JSEQ counts on past 255 while some
record stays open (DESIGN CHOICE, log 66). -/
def openJoin (c : Ctx) (n : Nat) : Except Nat Stream :=
  if c.p.owe = some n then .ok c.t
  else if !(blockHdr c.p).rcv then .error 0x0C
  else if (c.t.join n).jv then .error 0x0D
  else
    let top := ((List.range 8).filter (fun i => (c.t.join i).jv)).foldl (fun m i => max m ((c.t.join i).jseq + 1)) 0
    .ok (c.t.setJoin n ⟨c.act, true, 0, c.p.hdr + BitVec.ofInt 64 (4 * (blockHdr c.p).rcoff), none, c.p.owe, top⟩)

/-- A fresh arm of a split (R100, R113). Loads that the splitting path issued before do not hold it (DESIGN CHOICE, log 66). -/
def armPath (t : Stream) (m : Lanes) (n : Nat) (va : Addr) : Path := ⟨t.nid, va, m, [], m, some n, 0, [], 0, [], [], none, true, true, false⟩

/-- Put one arm into the free slot or on the stack. -/
def Stream.addArm (t : Stream) (m : Lanes) (n : Nat) (va : Addr) : Stream := { t with nid := t.nid + 1 }.addPath (armPath t m n va)

/-- Arms that need the pending stack fit on it (R100). -/
def armsFit (t : Stream) (n : Nat) : Bool :=
  t.arms.length + (n - (if t.p0.isSome && t.p1.isSome then 0 else 1)) ≤ 32

/-- BRD (R113). -/
def brdMeaning (c : Ctx) : Eff :=
  let n := Ctx.fn c.o.d
  let cond := c.triple (Ctx.sn c.o.a)
  let tt := c.pc + (brdOffs c.o.b).1
  let tf := c.pc + (brdOffs c.o.b).2
  let yes := c.act &&& cond
  let no := c.act &&& ~~~cond
  match openJoin c n with
  | .error e => .trap e 0 0
  | .ok t =>
    if no = 0 then transfer c t (fun p => { p with owe := some n }) true tt
    else if yes = 0 then transfer c t (fun p => { p with owe := some n }) true tf
    else if !armsFit t 1 then .trap 0x0B 0 0
    else transfer c (t.addArm no n tf)
      (fun p => { p with em := yes, emp := [], own := yes ||| (c.p.own &&& ~~~c.act), owe := some n }) true tt

/-- The groups of equal targets, ordered by their lowest lane (R115). -/
def jarvGroups (c : Ctx) : List (Addr × Lanes) :=
  c.act.list.foldl (fun gs l =>
    let a := jarvTarget c l
    if gs.any (fun g => g.1 = a) then gs.map (fun g => if g.1 = a then (g.1, g.2 ||| Lanes.one l) else g)
    else gs ++ [(a, Lanes.one l)]) []

/-- JARV (R115). The lowest of the remaining groups takes a free slot or ends nearest the top of the stack. With no active lane it opens and
checks nothing (DEDUCED, log 65). -/
def jarvMeaning (c : Ctx) : Eff :=
  match jarvGroups c with
  | [] => .ok c.s []
  | (a, m) :: rest =>
    let n := Ctx.fn c.o.d
    match openJoin c n with
    | .error e => .trap e 0 0
    | .ok t =>
      if !armsFit t rest.length then .trap 0x0B 0 0
      else
        let first := if t.p0.isSome && t.p1.isSome then [] else rest.take 1
        let later := if t.p0.isSome && t.p1.isSome then rest else rest.drop 1
        let t1 := (first ++ later.reverse).foldl (fun t g => t.addArm g.2 n g.1) t
        transfer c t1 (fun p => { p with em := m, emp := [], own := m ||| (c.p.own &&& ~~~c.act), owe := some n }) true a

/-- Record n stands in the chain that begins at a record (R102). -/
def Stream.inChain (t : Stream) (n : Nat) : Nat → Option Nat → Bool
  | 0, _ => false
  | _, none => false
  | f + 1, some m => m = n || t.inChain n f (t.join m).jp

/-- Every expected lane has arrived or exited (R103). -/
def joinFull (t : Stream) (j : Join) : Bool := j.mask &&& ~~~(j.ja ||| ~~~t.live) = 0

/-- JOIN (R103). The path has no variable-latency write pending. -/
def joinMeaning (c : Ctx) : Eff :=
  let n := Ctx.fn c.o.a
  if c.s.ott.any (fun e => match e.2 with
      | some x => x.sid = c.sid && x.path = c.p.id && !x.drop && !x.gone && x.pieces.any (fun q => q.dst ≠ .none)
      | none => false) then .wait
  else
    let j := c.t.join n
    let p := { c.p with pend := [], fl := [], owe := if c.t.inChain n 9 c.p.owe then j.jp else c.p.owe }
    if !j.jv then .ok (c.s.setStream c.sid (c.t.setPath c.k (some p))) []
    else
      let j1 := { j with ja := j.ja ||| c.p.own }
      if joinFull c.t j1 then
        let p1 := { p with em := c.t.emCap (j.mask &&& c.t.live), emp := [], own := j1.ja &&& c.t.live, owe := j.jp }
        .ok (c.s.setStream c.sid ((c.t.setPath c.k (some p1)).setJoin n { j1 with jv := false, ja := 0 })) []
      else
        let j2 := { j1 with jr := some (j.jr.getD (c.nextPc, c.p.hdr, c.p.blk)) }
        .jump (c.s.setStream c.sid ((c.t.setJoin n j2).endPath c.k))

/-- All lanes of a mask hold one link (R108). -/
def linkOf (t : Stream) (m : Lanes) : Option Addr :=
  match m.list with
  | [] => some 0
  | l :: ls => if ls.all (fun i => t.lrAt i = t.lrAt l) then some (t.lrAt l) else none

/-- Write the link register of the lanes of a mask. -/
def Stream.setLinks (t : Stream) (m : Lanes) (a : Addr) : Stream :=
  { t with lr := m.list.foldl (fun lr l => Tab.set 0 lr l a) t.lr }

/-- CALL and CALLX (R117). -/
def callMeaning (c : Ctx) : Eff :=
  match linkOf c.t c.p.own with
  | none => .trap 0x09 0 0
  | some a =>
    if 16 ≤ c.t.rstk.length then .trap 0x0A 0 0
    else transfer c ({ c.t with rstk := ⟨a, c.p.own⟩ :: c.t.rstk }.setLinks c.p.own c.nextPc) id false c.target

/-- Take the lanes of a mask out of return-stack entries and drop the empty ones (R118, R119). -/
def dropRet (m : Lanes) (l : List Ret) : List Ret :=
  (l.map (fun e => { e with lanes := e.lanes &&& ~~~m })).filter (fun e => e.lanes ≠ 0)

/-- Take lanes out of the topmost entry that holds one of them. -/
def popRet (m : Lanes) : List Ret → List Ret
  | [] => []
  | e :: t => if e.lanes &&& m ≠ 0 then (if e.lanes &&& ~~~m = 0 then t else { e with lanes := e.lanes &&& ~~~m } :: t) else e :: popRet m t

/-- RET (R118). -/
def retMeaning (c : Ctx) : Eff :=
  match c.t.rstk.find? (fun e => e.lanes &&& c.p.own ≠ 0) with
  | none => .trap 0x08 0 0
  | some e => match linkOf c.t c.p.own with
    | none => .trap 0x09 0 0
    | some a =>
      if c.p.own &&& ~~~e.lanes ≠ 0 then .trap 0x09 0 0
      else if !targetOk c.s c.who a then .trap 0x05 0 0
      else transfer c ({ c.t with rstk := popRet c.p.own c.t.rstk }.setLinks c.p.own e.link) id false a

/-- Complete a record that is open, holds lanes and has them all: its lanes go on at JR (R119, R125). -/
def Stream.complete (t : Stream) (n : Nat) : Stream :=
  let j := t.join n
  if j.jv && j.ja ≠ 0 && joinFull t j then
    ({ t with nid := t.nid + 1 }.addPath (t.released j (j.mask &&& t.live) (j.ja &&& t.live))).setJoin n
      { j with jv := false, ja := 0, jr := none }
  else t

/-- Lanes leave a path. -/
def Path.without (p : Path) (m : Lanes) : Path := { p with em := p.em &&& ~~~m, own := p.own &&& ~~~m }

/-- Pending arms without the lanes of a mask; those left with none are deleted (R119). -/
def dropArms (m : Lanes) (l : List Path) : List Path := (l.map (fun p => p.without m)).filter (fun p => p.own ≠ 0)

/-- Saved control state without the lanes of a mask (R119). -/
def Ctl.without (c : Ctl) (m : Lanes) : Ctl :=
  { c with p0 := c.p0.map (fun p => p.without m), p1 := c.p1.map (fun p => p.without m), arms := dropArms m c.arms,
           jm := c.jm.map (fun e => (e.1, { e.2 with ja := e.2.ja &&& ~~~m })), rstk := dropRet m c.rstk }

/-- Completions of records by the exit of lanes, lowest record first, each taking a slot or the stack before the exiting path's slot is
free (R119; the order is a DESIGN CHOICE, log 66). -/
def Stream.completeAll (t : Stream) : Stream := (List.range 8).foldl Stream.complete t

/-- The lanes of a mask leave the course (R119), the state that a handler has saved and a region's checkpoint included (R97). -/
def Stream.exitLanes (t : Stream) (m : Lanes) : Stream :=
  Stream.completeAll { t with
    live := t.live &&& ~~~m,
    p0 := t.p0.map (fun p => p.without m), p1 := t.p1.map (fun p => p.without m), arms := dropArms m t.arms,
    jm := t.jm.map (fun e => (e.1, { e.2 with ja := e.2.ja &&& ~~~m })), rstk := dropRet m t.rstk,
    hnd := t.hnd.map (fun h => { h with ctl := h.ctl.without m }),
    tr := t.tr.map (fun r => { r with ctl := r.ctl.without m, emt := r.emt &&& ~~~m, own := r.own &&& ~~~m }) }

/-- A path that carries no lane ends (R100). -/
def Stream.endIfEmpty (t : Stream) (k : Nat) : Stream :=
  match t.path? k with
  | some p => if p.own = 0 then t.endPath k else t
  | none => t

/-- EXIT (R119, R279). -/
def exitMeaning (c : Ctx) : Eff :=
  if c.seq then .jump (settle (c.s.setStream c.sid { c.t with ended := true }) c.sid)
  else
    let t1 := c.t.exitLanes c.act
    match t1.path? c.k with
    | none => .jump c.s
    | some p =>
      if p.own = 0 then .jump (settle (c.s.setStream c.sid (t1.endIfEmpty c.k)) c.sid)
      else .ok (c.s.setStream c.sid t1) []

/-- LOOP (R120). -/
def loopMeaning (c : Ctx) : Eff :=
  let w := c.uni c.o.d - 1
  let wr : Wr := .s (Ctx.sn c.o.d) w
  if w = 0 then .ok c.s [wr]
  else transfer c (if (c.lost c.written).contains wr.reg then c.t else (c.t.overtake c.k [wr.reg]).put c.seq c.k wr) id true c.target

/-- A word-by-word operation on mask triples (R122). -/
def maskMeaning (op : Nat) (o : Opnds) (f : Lanes → Lanes → Lanes) (s : State) : Host.Outcome State Fault Refusal :=
  issue op o s (fun c => .ok c.s (wrTriple (Ctx.sn o.d) (f (c.triple (Ctx.sn o.a)) (c.triple (Ctx.sn o.b)))))

/-- MSET's mask, from the bounds as each bit's beat reads them (R89, R123). -/
def msetMask (a b : Nat → Word) : Lanes :=
  (List.range 96).foldl (fun m l => if (a l).toNat ≤ l && l < (b l).toNat then m ||| Lanes.one l else m) 0

/-- VOTE (R124). -/
def voteOf (mod : Nat) (m em : Lanes) : Word :=
  match mod with
  | 0 => if m &&& em ≠ 0 then 1 else 0
  | 1 => if em &&& ~~~m = 0 then 1 else 0
  | _ => wd (m &&& em).count

/-- A path's owed record renamed. -/
def renameOwe (a d : Nat) (x : Option Nat) : Option Nat := if x = some a then some d else x

/-- RJMV (R125). -/
def rjmvMeaning (c : Ctx) : Eff :=
  let a := Ctx.fn c.o.a
  let d := Ctx.fn c.o.d
  if a = d then .ok c.s []
  else if (c.t.join d).jv then .trap 0x0D 0 0
  else
    let ren (p : Path) : Path := { p with owe := renameOwe a d p.owe }
    let j := c.t.join a
    let t1 := (c.t.setJoin d j).setJoin a { j with jv := false, ja := 0, jr := none }
    let t2 := (List.range 8).foldl (fun t i => t.setJoin i { t.join i with jp := renameOwe a d (t.join i).jp }) t1
    .ok (c.s.setStream c.sid { t2 with p0 := t2.p0.map ren, p1 := t2.p1.map ren, arms := t2.arms.map ren }) []

/-- JMLD (R125). -/
def jmldMeaning (c : Ctx) : Eff :=
  let n := Ctx.fn c.o.d
  .ok (c.s.setStream c.sid ((c.t.setJoin n { c.t.join n with mask := c.triple (Ctx.sn c.o.a) }).complete n)) []

/-- NOP (R121). -/
def execNop32 (o : Opnds) (s : State) : Host.Outcome State Fault Refusal := issue 0x00 o s (fun c => .ok c.s [])

/-- NOP (R121). -/
def execNop (o : Opnds) (s : State) : Host.Outcome State Fault Refusal := issue 0x00 o s (fun c => .ok c.s [])

/-- BRA (R111). -/
def execBra (o : Opnds) (s : State) : Host.Outcome State Fault Refusal := issue 0x01 o s (fun c => transfer c c.t id true c.target)

/-- BRC (R112). -/
def execBrc (o : Opnds) (s : State) : Host.Outcome State Fault Refusal := issue 0x02 o s (fun c => if brcTaken c then transfer c c.t id true c.target else .ok c.s [])

/-- BRD (R113). -/
def execBrd (o : Opnds) (s : State) : Host.Outcome State Fault Refusal := issue 0x03 o s brdMeaning

/-- BRX (R114). -/
def execBrx32 (o : Opnds) (s : State) : Host.Outcome State Fault Refusal := issue 0x04 o s (fun c => transfer c c.t id true c.target)

/-- BRX (R114). -/
def execBrx (o : Opnds) (s : State) : Host.Outcome State Fault Refusal := issue 0x04 o s (fun c => transfer c c.t id true c.target)

/-- JOIN (R103, R116). -/
def execJoin32 (o : Opnds) (s : State) : Host.Outcome State Fault Refusal := issue 0x05 o s joinMeaning

/-- JOIN (R103, R116). -/
def execJoin (o : Opnds) (s : State) : Host.Outcome State Fault Refusal := issue 0x05 o s joinMeaning

/-- JARV (R115). -/
def execJarv32 (o : Opnds) (s : State) : Host.Outcome State Fault Refusal := issue 0x06 o s jarvMeaning

/-- JARV (R115). -/
def execJarv (o : Opnds) (s : State) : Host.Outcome State Fault Refusal := issue 0x06 o s jarvMeaning

/-- CALL (R117). -/
def execCall (o : Opnds) (s : State) : Host.Outcome State Fault Refusal := issue 0x07 o s callMeaning

/-- CALLX (R117). -/
def execCallx32 (o : Opnds) (s : State) : Host.Outcome State Fault Refusal := issue 0x08 o s callMeaning

/-- CALLX (R117). -/
def execCallx (o : Opnds) (s : State) : Host.Outcome State Fault Refusal := issue 0x08 o s callMeaning

/-- RET (R118). -/
def execRet32 (o : Opnds) (s : State) : Host.Outcome State Fault Refusal := issue 0x09 o s retMeaning

/-- RET (R118). -/
def execRet (o : Opnds) (s : State) : Host.Outcome State Fault Refusal := issue 0x09 o s retMeaning

/-- EXIT (R119). -/
def execExit32 (o : Opnds) (s : State) : Host.Outcome State Fault Refusal := issue 0x0A o s exitMeaning

/-- EXIT (R119). -/
def execExit (o : Opnds) (s : State) : Host.Outcome State Fault Refusal := issue 0x0A o s exitMeaning

/-- LOOP (R120). -/
def execLoop (o : Opnds) (s : State) : Host.Outcome State Fault Refusal := issue 0x0B o s loopMeaning

/-- YIELD has no architectural effect (R121). -/
def execYield32 (o : Opnds) (s : State) : Host.Outcome State Fault Refusal := issue 0x0C o s (fun c => .ok c.s [])

/-- YIELD has no architectural effect (R121). -/
def execYield (o : Opnds) (s : State) : Host.Outcome State Fault Refusal := issue 0x0C o s (fun c => .ok c.s [])

/-- MAND (R122). -/
def execMand32 (o : Opnds) (s : State) : Host.Outcome State Fault Refusal := maskMeaning 0x0D o (fun a b => a &&& b) s

/-- MAND (R122). -/
def execMand (o : Opnds) (s : State) : Host.Outcome State Fault Refusal := maskMeaning 0x0D o (fun a b => a &&& b) s

/-- MOR (R122). -/
def execMor32 (o : Opnds) (s : State) : Host.Outcome State Fault Refusal := maskMeaning 0x0E o (fun a b => a ||| b) s

/-- MOR (R122). -/
def execMor (o : Opnds) (s : State) : Host.Outcome State Fault Refusal := maskMeaning 0x0E o (fun a b => a ||| b) s

/-- MXOR (R122). -/
def execMxor32 (o : Opnds) (s : State) : Host.Outcome State Fault Refusal := maskMeaning 0x0F o (fun a b => a ^^^ b) s

/-- MXOR (R122). -/
def execMxor (o : Opnds) (s : State) : Host.Outcome State Fault Refusal := maskMeaning 0x0F o (fun a b => a ^^^ b) s

/-- MNOT (R122). -/
def execMnot32 (o : Opnds) (s : State) : Host.Outcome State Fault Refusal := maskMeaning 0x10 o (fun a _ => ~~~a) s

/-- MNOT (R122). -/
def execMnot (o : Opnds) (s : State) : Host.Outcome State Fault Refusal := maskMeaning 0x10 o (fun a _ => ~~~a) s

/-- MANDN (R122). -/
def execMandn32 (o : Opnds) (s : State) : Host.Outcome State Fault Refusal := maskMeaning 0x11 o (fun a b => a &&& ~~~b) s

/-- MANDN (R122). -/
def execMandn (o : Opnds) (s : State) : Host.Outcome State Fault Refusal := maskMeaning 0x11 o (fun a b => a &&& ~~~b) s

/-- MSET (R123). -/
def execMset32 (o : Opnds) (s : State) : Host.Outcome State Fault Refusal := issue 0x12 o s (fun c => .ok c.s (wrTriple (Ctx.sn o.d) (msetMask (c.src o.a) (c.src o.b))))

/-- MSET (R123). -/
def execMset (o : Opnds) (s : State) : Host.Outcome State Fault Refusal := issue 0x12 o s (fun c => .ok c.s (wrTriple (Ctx.sn o.d) (msetMask (c.src o.a) (c.src o.b))))

/-- MFFS (R123). -/
def execMffs32 (o : Opnds) (s : State) : Host.Outcome State Fault Refusal := 
  issue 0x13 o s (fun c => .ok c.s [.s (Ctx.sn o.d) (wd ((c.triple (Ctx.sn o.a)).lowest.getD 96))])

/-- MFFS (R123). -/
def execMffs (o : Opnds) (s : State) : Host.Outcome State Fault Refusal := 
  issue 0x13 o s (fun c => .ok c.s [.s (Ctx.sn o.d) (wd ((c.triple (Ctx.sn o.a)).lowest.getD 96))])

/-- VOTE (R124). -/
def execVote32 (o : Opnds) (s : State) : Host.Outcome State Fault Refusal := 
  issue 0x14 o s (fun c => .ok c.s [.s (Ctx.sn o.d) (voteOf o.mod (c.triple (Ctx.sn o.a)) c.act)])

/-- VOTE (R124). -/
def execVote (o : Opnds) (s : State) : Host.Outcome State Fault Refusal := 
  issue 0x14 o s (fun c => .ok c.s [.s (Ctx.sn o.d) (voteOf o.mod (c.triple (Ctx.sn o.a)) c.act)])

/-- RJMV (R125). -/
def execRjmv32 (o : Opnds) (s : State) : Host.Outcome State Fault Refusal := issue 0x15 o s rjmvMeaning

/-- RJMV (R125). -/
def execRjmv (o : Opnds) (s : State) : Host.Outcome State Fault Refusal := issue 0x15 o s rjmvMeaning

/-- JMLD (R125). -/
def execJmld (o : Opnds) (s : State) : Host.Outcome State Fault Refusal := issue 0x16 o s jmldMeaning

/-- JMST (R125). -/
def execJmst32 (o : Opnds) (s : State) : Host.Outcome State Fault Refusal := issue 0x17 o s (fun c => .ok c.s (wrTriple (Ctx.sn o.d) (c.t.join (Ctx.fn o.a)).mask))

/-- JMST (R125). -/
def execJmst (o : Opnds) (s : State) : Host.Outcome State Fault Refusal := issue 0x17 o s (fun c => .ok c.s (wrTriple (Ctx.sn o.d) (c.t.join (Ctx.fn o.a)).mask))

/-- A word with an unassigned opcode traps ILLEGAL_OP for the issuing path (R93). -/
def execIllegalOp (_ : Opnds) (s : State) : Host.Outcome State Fault Refusal := 
  match s.stream? s.cur.1 with
  | none => .fault .noIssuer
  | some t => match preIssue s s.cur.1 s.cur.2 t, t.path? s.cur.2 with
    | some s', _ => .next s'
    | none, some _ => .next (takeTrap s s.cur.1 s.cur.2 0x01 0 0)
    | none, none => .fault .noIssuer

end Sys2Proof.Machine
end

