-- ==== Sys2Proof/Machine/Matrix.lean ====
section
/-! DEFINITION. Matrix and tile instructions, the tile port, the array and operand streams (R279 to R303). -/
namespace Sys2Proof.Machine

-- Tile control words

/-- A tile control word that is valid (R282, R284). -/
structure Tc where
  fmt : Nat
  rows : Nat
  cols : Nat
deriving DecidableEq, Repr

/-- The element width of a format in bits (Table 13.2). -/
def tileBits (fmt : Nat) : Nat := if fmt = 0 || fmt = 5 then 32 else if fmt = 1 || fmt = 2 then 16 else if fmt = 11 then 4 else 8
/-- A block floating-point format. -/
def isBx (fmt : Nat) : Bool := fmt = 10 || fmt = 11
/-- The bytes of the data plane (R293). -/
def Tc.plane (t : Tc) : Nat := t.rows * t.cols * tileBits t.fmt / 8
/-- The bytes of the exponent plane (R293). -/
def Tc.expPlane (t : Tc) : Nat := t.rows * t.cols / 16
/-- Where the exponent plane begins (R284). -/
def expBase : Nat := 0x7000
/-- The fields of a tile control word, none where it is invalid (R284). -/
def tcOf (w : Word) : Option Tc :=
  let t : Tc := ⟨bits w.toNat 28 4, bits w.toNat 20 8, bits w.toNat 0 12⟩
  let known := t.fmt ≤ 3 || t.fmt = 5 || isBx t.fmt
  if known && 1 ≤ t.rows && t.rows ≤ 128 && t.cols ≠ 0 && bits w.toNat 12 8 = 0 && !(isBx t.fmt && t.cols % 32 ≠ 0)
      && t.plane ≤ (if isBx t.fmt then 28672 else 32768) then some t else none

/-- A tile control register. -/
def Cluster.tcAt (c : Cluster) (n : Nat) : Word := Tab.get 0 c.tc n
/-- Bytes of a tile. -/
def Cluster.tile (c : Cluster) (n off len : Nat) : List Byte := Tab.getList 0 c.t (32768 * n + off) len
/-- Write bytes of a tile. -/
def Cluster.putTile (c : Cluster) (n off : Nat) (bs : List Byte) : Cluster := { c with t := Tab.setList 0 c.t (32768 * n + off) bs }
/-- An element of a tile's data plane (R60, R284). -/
def Cluster.elem (c : Cluster) (n : Nat) (t : Tc) (r col : Nat) : Nat :=
  let w := tileBits t.fmt
  let bit := (r * t.cols + col) * w
  if w = 4 then bits (ofBytes (c.tile n (bit / 8) 1)) (bit % 8) 4 else ofBytes (c.tile n (bit / 8) (w / 8))
/-- Write an element of a tile's data plane. -/
def Cluster.putElem (c : Cluster) (n : Nat) (t : Tc) (r col x : Nat) : Cluster :=
  let w := tileBits t.fmt
  let bit := (r * t.cols + col) * w
  if w = 4 then
    let old := ofBytes (c.tile n (bit / 8) 1)
    c.putTile n (bit / 8) (bytesOf (if bit % 8 = 0 then old / 16 * 16 + x % 16 else old % 16 + x % 16 * 16) 1)
  else c.putTile n (bit / 8) (bytesOf x (w / 8))

-- The scoreboard of tiles and accumulators (R281): tile n is n, accumulator n is 16 + n

/-- What a command reads. -/
def Cmd.reads : Cmd → List Nat
  | .mma d a b _ _ _ _ _ _ => [a, b, 16 + d]
  | .drain a _ _ _ _ _ _ _ _ _ _ _ _ => [16 + a]
  | .seval d a _ _ acc _ _ => if acc then [a, d] else [a]
  | .sder d a b _ _ _ acc _ _ => if acc then [a, b, d] else [a, b]
  | .sgrad _ a b _ _ _ _ _ => [a, b]
  | _ => []
/-- What a command writes. -/
def Cmd.writes : Cmd → List Nat
  | .mma d _ _ _ _ _ _ _ _ => [16 + d]
  | .drain a tile _ _ _ keep _ _ _ _ _ _ _ => tile.toList ++ (if keep then [] else [16 + a])
  | .accz a all => if all then (List.range 16).map (fun i => 16 + i) else [16 + a]
  | .seval d _ _ _ _ _ _ => [d]
  | .sder d _ _ _ _ _ _ _ _ => [d]
  | _ => []
/-- What a tile-port operation reads. -/
def TileOp.reads : TileOp → List Nat
  | .mov _ a => [a]
  | .xpose _ a _ => [a]
  | .store a _ _ _ => [a]
  | .spub _ a => [a]
  | _ => []
/-- What a tile-port operation writes. -/
def TileOp.writes : TileOp → List Nat
  | .zero d => [d]
  | .fill d _ => [d]
  | .mov d _ => [d]
  | .xpose d _ _ => [d]
  | .load d _ _ _ => [d]
  | .loadq d _ _ _ _ => [d]
  | .ssub d _ _ => [d]
  | _ => []

/-- An earlier and a later operation conflict. -/
def clash (r1 w1 r2 w2 : List Nat) : Bool := w2.any (fun x => r1.contains x || w1.contains x) || r2.any w1.contains
/-- No earlier operation of the stream conflicts with one of a given place, reads and writes (R281). -/
def Cluster.clear (c : Cluster) (stamp : Nat) (r w : List Nat) : Bool :=
  c.cq.all (fun x => stamp ≤ x.stamp || !clash x.cmd.reads x.cmd.writes r w)
    && c.port.all (fun x => stamp ≤ x.stamp || !clash x.op.reads x.op.writes r w)

/-- The command the array may execute now (R280, R402): the head of the queue, begun before, or 16 clocks old, with the array not
stopped. -/
def arrayHead (s : State) (cl : Nat) : Option (CmdSt × Cluster) :=
  let c := s.cluster cl
  match c.cq with
  | x :: _ => if !c.stopped && x.issued + 16 ≤ s.clock && c.clear x.stamp x.cmd.reads x.cmd.writes then some (x, c) else none
  | [] => none

-- Boxes and their pages (R294)

/-- The runs of a whole box in traversal order. -/
def Shape.box (h : Shape) : List (Nat × Nat) := h.segs (h.rows + 1) 0 h.count
/-- The bytes of a box. -/
def Shape.bytes (h : Shape) : Nat := h.count * h.w

/-- The fault that several accesses take: the lowest code in the order of R187, then the lowest address (log 24). -/
def boxFault (s : State) (w : Who) (acc : Acc) (al : Nat) (rs : List (Nat × Nat)) : Option Flt :=
  rs.foldl (fun m r => match access s w acc r.1 r.2 al with
    | .ok _ => m
    | .error f => match m with
      | none => some f
      | some g => if f.rank < g.rank || (f.rank = g.rank && f.addr.toNat < g.addr.toNat) then some f else some g) none

/-- The physical address of a byte under translated pages. -/
def spaIn (ps : Pages) (va : Nat) : Nat :=
  match ps.find? (fun p => p.1 = va / 4096) with
  | some p => p.2 * 4096 + va % 4096
  | none => 0
/-- The physical addresses of every byte of several runs. -/
def spasIn (ps : Pages) (rs : List (Nat × Nat)) : List Nat :=
  rs.flatMap (fun r => (List.range r.2).map (fun i => spaIn ps ((r.1 + i) % 2 ^ 64)))
/-- Bytes read at physical addresses; one in a granule with an uncorrectable error is free (R463). -/
def readSpas (s : State) (as : List Nat) : List Byte :=
  as.map (fun a => if s.ue.contains (a / 256) then Config.freeByte s.fresh a else s.byteAt a)
/-- Bytes written at physical addresses. -/
def writeSpas (s : State) (as : List Nat) (bs : List Byte) : State :=
  (as.zip bs).foldl (fun s x => s.writeMem x.1 [x.2]) s
/-- Each granule of a run of addresses counts once (R275). -/
def countSpas (s : State) (p : Nat) (as : List Nat) : State :=
  (as.foldl (fun (acc : State × Option Nat) a =>
    if acc.2 = some (a / 256) then acc else (countAccess acc.1 p a, some (a / 256))) (s, none)).1

/-- A box that a cluster's tile port or array reads: its requests (R275, R327). -/
def boxReads (s : State) (p cl : Nat) (as : List Nat) : State := (countSpas s p as).wireReads (boxSender cl) (spaRuns as)
/-- A box that a cluster's tile port or array has written: its requests (R275, R327). -/
def boxWrites (s : State) (p cl : Nat) (as : List Nat) (bs : List Byte) : State := (countSpas s p as).wireWrites (boxSender cl) (spaRuns as) bs

/-- A fault that comes due for a stream on work it issued before (R463, R415). -/
def streamFault (s : State) (sid cause : Nat) (pc addr : Addr) : State :=
  match s.stream? sid with
  | none => s
  | some t =>
    arbiter (if t.hnd.isSome then s else s.setStream sid { t with stopped := true }) t.part
      ⟨0, recIndex sid, handlerOf s sid t, cause, pc, addr, 0, t.recordEm sid none, 1, false, none, none, 0, isSeq sid⟩

/-- HW_UE for a cluster's sequencer, with the PC of its next instruction (R415). -/
def seqUe (s : State) (cl : Nat) : State :=
  match (s.stream? (seqBase + cl)).bind (fun t => t.p0) with
  | some p => streamFault (noteHw s (seqBase + cl)) (seqBase + cl) 0x40 p.pc 0
  | none => noteHw s (seqBase + cl)

/-- A command reads a cell, by 128 * row + column (R287 to R289, R315 to R319). -/
def Cmd.readsCell (n : Nat) : Cmd → Bool
  | .mma _ _ _ rows cols _ _ _ _ => n / 128 < rows && n % 128 < cols
  | .drain _ _ _ _ _ _ rows cols _ _ _ _ _ => n / 128 < rows && n % 128 < cols
  | .accz _ _ => false
  | .amode _ => false
  | .sload _ _ => false
  | .szero => false
  | .sstore _ _ => true
  | .seval _ _ _ _ _ _ _ => true
  | .sder _ _ _ _ _ _ _ _ _ => true
  | .sgrad _ _ _ _ _ _ _ _ => true
  | .srefine _ _ _ _ => true
/-- A command writes whole cells. -/
def Cmd.clearsCells : Cmd → Bool
  | .accz _ all => all
  | .szero => true
  | _ => false

/-- Some tile among the sources of the scoreboard holds an uncorrectable error (R415). -/
def Cluster.badTile (c : Cluster) (r : List Nat) : Bool := r.any c.tue.contains

/-- The head command is over: the queue moves on, and an ended stream may retire (R280, R279); where it read a cell or a tile that holds an error,
HW_UE is raised (R415). -/
def popCmd (s : State) (cl : Nat) (c : Cluster) : State :=
  let reads (n : Nat) : Bool := c.cq.head?.any (fun x => x.cmd.readsCell n)
  let clears : Bool := c.cq.head?.any (fun x => x.cmd.clearsCells)
  let s1 := s.setCluster cl { c with cq := c.cq.tail, cue := if clears then [] else c.cue.filter (fun n => !reads n) }
  let s2 := if c.cue.any reads || c.cq.head?.any (fun x => c.badTile x.cmd.reads) then seqUe s1 cl else s1
  if (s2.stream? (seqBase + cl)).isNone then freeKilled s2 else settle s2 (seqBase + cl)

/-- An uncorrectable error among bytes that the tile port, the array or a publication reads (R208, R463). -/
def ueSpas (s : State) (sid : Nat) (pc : Addr) (rs : List (Nat × Nat)) (as : List Nat) : State :=
  match as.findIdx? (fun a => s.ue.contains (a / 256)) with
  | none => s
  | some i =>
    let vas := rs.flatMap (fun r => (List.range r.2).map (fun j => (r.1 + j) % 2 ^ 64))
    match windowOwner s (nth 0 as i) with
    | some tm => killTeam s tm false
    | none => streamFault s sid 0x1C pc (BitVec.ofNat 64 (nth 0 vas i))

/-- A write of a whole tile ends an error it held (R415, log 25). -/
def Cluster.fixTile (c : Cluster) (d : Nat) : Cluster := { c with tue := c.tue.filter (fun n => n ≠ d) }

-- Issue

/-- The issuer's cluster. -/
def Ctx.clu (c : Ctx) : Cluster := c.s.cluster c.cl
/-- A tile register's number. -/
def Ctx.td (c : Ctx) : Nat := Ctx.fn c.o.d
/-- The captured mode (R56). -/
def Ctx.cmode (c : Ctx) : Word := c.mode &&& 0xFF

/-- A pending subscription read writes one of the tile control registers an instruction uses (R281). -/
def Ctx.tcBusy (c : Ctx) (ns : List Nat) : Bool := c.clu.port.any (fun x => match x.op with
  | .ssub d _ _ => ns.contains d
  | _ => false)

/-- Enqueue an array command with a change of issue-side state (R280). -/
def Ctx.pushCmd (c : Ctx) (cmd : Cmd) (f : Cluster → Cluster) : Eff :=
  if 32 ≤ c.clu.cq.length then .wait
  else .ok (c.s.modCluster c.cl (fun x => f { x with
    cq := x.cq ++ [⟨cmd, x.nstamp, c.s.clock, c.pc, false, 0, [], []⟩], nstamp := x.nstamp + 1 })) []

/-- Give an operation to the tile port (R281). A slot that has its bytes and is not yet published counts no more among the 16 (DESIGN CHOICE, log 77). -/
def Ctx.pushTile (c : Ctx) (s : State) (op : TileOp) : Eff :=
  if 16 ≤ c.clu.port.length then .wait
  else .ok (s.modCluster c.cl (fun x => { x with port := x.port ++ [⟨x.nstamp, op, c.pc⟩], nstamp := x.nstamp + 1 })) []

/-- The box of a tile instruction against its plane, translated and checked (R293, R294). -/
def Ctx.tileBox (c : Ctx) (x : Opnd) (size : Nat) (acc : Acc) (go : Shape → Pages → Eff) : Eff :=
  match c.shape? x with
  | none => .trap 0x24 0 0
  | some h =>
    if h.bytes ≠ size then .trap 0x24 0 0
    else match boxFault c.s c.who acc 1 h.box with
      | some f => c.faulted f (c.readBlocked f.addr.toNat)
      | none => if runsBlocked c.s c.t.part h.box then c.readBlocked (firstBlocked c.s c.t.part h.box) else go h (pagesFor c.s c.who acc h.box)

/-- MOVTC (R284): it never checks. -/
def movtcMeaning (c : Ctx) : Eff :=
  if c.tcBusy [c.td] then .wait
  else .ok (c.s.modCluster c.cl (fun x => { x with tc := Tab.set 0 x.tc c.td (c.uni c.o.a) })) []

/-- RDTC (R284). -/
def rdtcMeaning (c : Ctx) : Eff :=
  let n := Ctx.fn c.o.a
  if c.tcBusy [n] then .wait else .ok c.s [.s (Ctx.sn c.o.d) (c.clu.tcAt n)]

/-- TXPOSE (R293). -/
def txposeMeaning (c : Ctx) : Eff :=
  let a := Ctx.fn c.o.a
  if c.tcBusy [c.td, a] then .wait
  else match tcOf (c.clu.tcAt a), tcOf (c.clu.tcAt c.td) with
    | some x, some d =>
      if isBx x.fmt || d.fmt ≠ x.fmt || d.rows ≠ x.cols || d.cols ≠ x.rows then .trap 0x2C 0 0
      else c.pushTile c.s (.xpose c.td a (c.clu.tcAt a))
    | _, _ => .trap 0x2C 0 0

/-- The plane that a load or store of a tile moves: its base and size (R293). -/
def tcPlane (t : Tc) (e : Bool) : Option (Nat × Nat) :=
  if e then (if isBx t.fmt then some (expBase, t.expPlane) else none) else some (0, t.plane)

/-- TLOAD (R293, R294). -/
def tloadMeaning (c : Ctx) : Eff :=
  if c.tcBusy [c.td] then .wait
  else match (tcOf (c.clu.tcAt c.td)).bind (fun t => tcPlane t (c.o.mod % 2 = 1)) with
    | none => .trap 0x2C 0 0
    | some (base, size) =>
      if c.o.mod / 2 = 1 then
        let h := (c.uni c.o.a).toNat
        if 15 < h then .trap 0x26 0 0 else c.pushTile c.s (.loadq c.td h base size 0)
      else c.tileBox c.o.a size Acc.read (fun h ps => c.pushTile c.s (.load c.td h base ps))

/-- TSTORE (R293, R294). -/
def tstoreMeaning (c : Ctx) : Eff :=
  if c.tcBusy [c.td] then .wait
  else match (tcOf (c.clu.tcAt c.td)).bind (fun t => tcPlane t (c.o.mod = 1)) with
    | none => .trap 0x2C 0 0
    | some (base, size) =>
      c.tileBox c.o.a size Acc.write (fun h ps => c.pushTile c.s (.store c.td h base ps))

/-- A legal combination of Table 13.4 (R286): the two tiles, the block and .SKIP. -/
def mmaOk (a b : Tc) (fb : List Byte) (skip : Bool) : Bool :=
  let f (i : Nat) : Nat := leAt fb i 1
  let bx := isBx a.fmt
  f 0 = a.fmt && f 1 = b.fmt && a.fmt = b.fmt && (bx || a.fmt = 1 || a.fmt = 2) && f 3 = (if bx then 32 else 0) && (bx || !skip)
    && a.cols = b.cols && (f 2 ≤ 3 || f 2 = 5) && leAt fb 4 4 = 0 && leAt fb 32 32 = 0

/-- A chain record (R287). -/
def Cluster.chain (c : Cluster) (n : Nat) : Chain := Tab.get Chain.zero c.chains n
/-- Write a chain record. -/
def Cluster.setChain (c : Cluster) (n : Nat) (x : Chain) : Cluster := { c with chains := Tab.set Chain.zero c.chains n x }

/-- MMA at issue (R288). -/
def mmaMeaning (c : Ctx) : Eff :=
  let a := Ctx.fn c.o.a
  let b := Ctx.fn c.o.b
  let va := (c.pair (Ctx.sn c.o.c)).toNat
  if c.clu.mode then .trap 0x2D 0 0
  else if c.tcBusy [a, b] then .wait
  else match tcOf (c.clu.tcAt a), tcOf (c.clu.tcAt b) with
    | some ta, some tb =>
      match readAtIssue c va 64 64 with
      | .error e => e
      | .ok fb =>
        let ch := c.clu.chain c.td
        if !mmaOk ta tb fb (c.o.mod = 1) then .trap 0x29 0 0
        else if ch.opened && (ch.key ≠ fb.take 32 || ch.m ≠ ta.rows || ch.n ≠ tb.rows) then .trap 0x2A 0 0
        else match c.pushCmd (.mma c.td a b ta.rows tb.rows ta.cols ta.fmt (c.o.mod = 1) c.cmode)
            (fun x => if ch.opened then x else x.setChain c.td ⟨true, fb.take 32, ta.rows, tb.rows⟩) with
          | .ok s ws => .ok (countRuns s c.t.part (runs c.s c.who Acc.read va 64)) ws
          | e => e
    | _, _ => .trap 0x2C 0 0

/-- The addresses of the scales of a chain: rows, columns, tensor; none where the block gives address 0 (R285, R289). -/
def scaleRuns (ch : Chain) : List (Nat × Nat) :=
  let run (base n : Nat) : List (Nat × Nat) := if base = 0 then [] else (List.range n).map (fun i => ((base + 4 * i) % 2 ^ 64, 4))
  run (leAt ch.key 8 8) ch.m ++ run (leAt ch.key 16 8) ch.n ++ run (leAt ch.key 24 8) 1

/-- DRAIN at issue (R289). -/
def drainMeaning (c : Ctx) : Eff :=
  let a := Ctx.fn c.o.a
  let ch := c.clu.chain a
  let q := c.o.mod % 2 = 1
  let keep := c.o.mod / 4 = 1
  let df := leAt ch.key 2 1
  let h := (c.uni c.o.d).toNat
  if c.clu.mode then .trap 0x2D 0 0
  else if !ch.opened then .trap 0x2B 0 0
  else if !q && c.tcBusy [c.td] then .wait
  else if !q && tcOf (c.clu.tcAt c.td) ≠ some ⟨df, ch.m, ch.n⟩ then .trap 0x2C 0 0
  else if q && (h < 16 || 31 < h) then .trap 0x26 0 0
  else match boxFault c.s c.who Acc.read 4 (scaleRuns ch) with
    | some f => c.faulted f (c.readBlocked f.addr.toNat)
    | none =>
      if runsBlocked c.s c.t.part (scaleRuns ch) then c.readBlocked (firstBlocked c.s c.t.part (scaleRuns ch))
      else c.pushCmd (.drain a (if q then none else some c.td) (if q then some h else none) df (c.o.mod / 2 % 2 = 1) keep ch.m ch.n
            (leAt ch.key 8 8) (leAt ch.key 16 8) (leAt ch.key 24 8) (pagesFor c.s c.who Acc.read (scaleRuns ch)) c.cmode)
          (fun x => if keep then x else x.setChain a Chain.zero)

/-- ACCZ at issue (R290). -/
def acczMeaning (c : Ctx) : Eff :=
  let all := c.o.mod = 1
  if c.clu.mode then .trap 0x2D 0 0
  else c.pushCmd (.accz (if all then 0 else c.td) all) (fun x => if all then { x with chains := [] } else x.setChain c.td Chain.zero)

/-- AMODE at issue (R292). -/
def amodeMeaning (c : Ctx) : Eff :=
  c.pushCmd (.amode (c.o.mod = 1)) (fun x => { x with mode := decide (c.o.mod = 1), chains := [] })

/-- AWAIT (R292). -/
def awaitMeaning (c : Ctx) : Eff := if c.clu.cq.isEmpty && c.clu.port.isEmpty && !pubOut c.s c.sid then .ok c.s [] else .wait

/-- RQPOP (R291): one issue counts LOSS_DECOUPLE once; the count stands in the path while it waits. -/
def rqpopMeaning (c : Ctx) : Eff :=
  match c.clu.rq with
  | w :: rest => .ok (c.s.modCluster c.cl (fun x => { x with rq := rest })) [.s (Ctx.sn c.o.d) w]
  | [] =>
    if c.clu.cq.any (fun x => match x.cmd with
        | .drain _ _ _ _ rq _ _ _ _ _ _ _ _ => rq
        | _ => false) then
      match c.p.wait with
      | some _ => .wait
      | none =>
        .jump ((c.s.modCluster c.cl (fun x => { x with loss := x.loss + 1 })).setStream c.sid (c.t.setPath c.k (some { c.p with wait := some .begun })))
    else .trap 0x2E 0 0

-- Operand streams

/-- The key of a stream of the issuer's die. -/
def Ctx.strm (c : Ctx) (st : Nat) : Nat := 64 * dieOf c.cl + st
/-- NSLOT (Table 13.5). -/
def StrmEnt.nslot (e : StrmEnt) : Nat := bits e.reg.toNat 52 4 + 1
/-- The stream is enabled for a partition (R300). -/
def StrmEnt.usable (e : StrmEnt) (part : Nat) : Bool := bits e.reg.toNat 63 1 = 1 && bits e.reg.toNat 37 3 = part
/-- A cluster's subscription. -/
def StrmEnt.sub? (e : StrmEnt) (cl : Nat) : Option Sub := e.subs.find? (fun x => x.cluster = cl)
/-- Change a cluster's subscription. -/
def StrmEnt.modSub (e : StrmEnt) (cl : Nat) (f : Sub → Sub) : StrmEnt := { e with subs := e.subs.map (fun x => if x.cluster = cl then f x else x) }
/-- The slots of a stream that SSUBs still in tile ports have yet to copy: they are not written again before (R281, R298). -/
def slotsHeld (s : State) (key : Nat) : List Nat :=
  s.clusters.flatMap (fun e => e.2.port.filterMap (fun x => match x.op with
    | .ssub _ st slot => if st = key then some slot else none
    | _ => none))
/-- The lowest slot of a stream that is still to be read: of the open subscriptions, and of SSUBs in tile ports; WI where there is none
(R296, R298). -/
def lowSlot (s : State) (key : Nat) (e : StrmEnt) : Nat := (slotsHeld s key).foldl min (e.subs.foldl (fun m x => min m x.ri) e.wi)
/-- The physical address of slot i of a stream (R295). -/
def slotSpa (key : Nat) (e : StrmEnt) (i : Nat) : Nat :=
  4 * 2 ^ 40 + key / 64 * 2 ^ 30 + bits e.reg.toNat 15 15 * 32768 + i % e.nslot * 32768
/-- The subscriptions a cluster holds (R296). -/
def subsOf (s : State) (cl : Nat) : Nat := (s.strm.filter (fun e => (e.2.sub? cl).isSome)).length

/-- A stream operand, checked (R300). -/
def Ctx.stream (c : Ctx) (x : Opnd) : Option (Nat × StrmEnt) :=
  let st := (c.uni x).toNat
  let e := c.s.strmEnt (c.strm st)
  if 63 < st || !e.usable c.t.part then none else some (c.strm st, e)

/-- SPUB (R297): it holds the stream's next slot until the slot is complete. -/
def spubMeaning (c : Ctx) : Eff :=
  match c.stream c.o.d with
  | none => .trap 0x2F 0 0
  | some (key, e) =>
    let full := e.pending.isSome || e.nslot ≤ e.wi - lowSlot c.s key e
    if c.seq then
      let a := Ctx.fn c.o.a
      if c.tcBusy [a] then .wait
      else if (tcOf (c.clu.tcAt a)).isNone then .trap 0x2C 0 0
      else if full then .wait
      else c.pushTile (c.s.setStrm key { e with pending := some ⟨c.sid, c.t.launch, c.pc, c.clu.tcAt a, none, none⟩ }) (.spub key a)
    else match c.shape? c.o.a with
      | none => .trap 0x24 0 0
      | some h =>
        if 32768 < h.bytes then .trap 0x24 0 0
        else match boxFault c.s c.who Acc.read 1 h.box with
          | some f => c.faulted f (c.readBlocked f.addr.toNat)
          | none =>
            if full then .wait
            else if runsBlocked c.s c.t.part h.box then c.readBlocked (firstBlocked c.s c.t.part h.box)
            else .ok (c.s.setStrm key { e with
              pending := some ⟨c.sid, c.t.launch, c.pc, c.uni c.o.c, some (h, pagesFor c.s c.who Acc.read h.box), none⟩ }) []

/-- SSUB (R298): it waits at issue until the slot is published. -/
def ssubMeaning (c : Ctx) : Eff :=
  match c.stream c.o.a with
  | none => .trap 0x2F 0 0
  | some (key, e) => match e.sub? c.cl with
    | none => .trap 0x2F 0 0
    | some x =>
      let j := (c.uni c.o.b).toNat
      if x.w ≤ j then .trap 0x2F 0 0
      else if e.wi ≤ x.ri + j || c.tcBusy [c.td] then .wait
      else c.pushTile c.s (.ssub c.td key (x.ri + j))

/-- A subscription may be opened with a window (R296, R300). -/
def Ctx.mayOpen (c : Ctx) (e : StrmEnt) (w : Nat) : Bool :=
  (e.sub? c.cl).isNone && subsOf c.s c.cl < 4 && e.subs.length < 64 && 1 ≤ w && w ≤ e.nslot

/-- SSUB.OPEN (R298). -/
def ssubOpenMeaning (c : Ctx) : Eff :=
  let w := (c.uni c.o.b).toNat
  match c.stream c.o.a with
  | none => .trap 0x2F 0 0
  | some (key, e) =>
    if c.mayOpen e w then .ok (c.s.setStrm key { e with subs := e.subs ++ [⟨c.cl, e.wi, w, none, none, c.t.team, c.pc⟩] }) []
    else .trap 0x2F 0 0

/-- SSUB.CLOSE (R298). -/
def ssubCloseMeaning (c : Ctx) : Eff :=
  match c.stream c.o.a with
  | none => .trap 0x2F 0 0
  | some (key, e) =>
    if (e.sub? c.cl).isNone then .trap 0x2F 0 0
    else .ok (c.s.setStrm key { e with subs := e.subs.filter (fun x => x.cluster ≠ c.cl) }) []

/-- SSUB.COPY (R298). -/
def ssubCopyMeaning (c : Ctx) : Eff :=
  let w := (c.uni c.o.b).toNat
  match c.stream c.o.a with
  | none => .trap 0x2F 0 0
  | some (key, e) =>
    if !c.mayOpen e w then .trap 0x2F 0 0
    else match c.shape? c.o.d with
      | none => .trap 0x24 0 0
      | some h =>
        if 32768 < h.bytes then .trap 0x24 0 0
        else .ok (c.s.setStrm key { e with subs := e.subs ++ [⟨c.cl, e.wi, w, some (h, 0), none, c.t.team, c.pc⟩] }) []

/-- SREL (R298). -/
def srelMeaning (c : Ctx) : Eff :=
  let n := (c.uni c.o.b).toNat
  match c.stream c.o.a with
  | none => .trap 0x2F 0 0
  | some (key, e) => match e.sub? c.cl with
    | none => .trap 0x2F 0 0
    | some x =>
      if n < 1 || e.wi - x.ri < n then .trap 0x2F 0 0
      else .ok (c.s.setStrm key (e.modSub c.cl (fun y => { y with ri := y.ri + n }))) []

/-- SSTAT (R299, Table 13.6). -/
def sstatMeaning (c : Ctx) : Eff :=
  match c.stream c.o.a with
  | none => .trap 0x2F 0 0
  | some (_, e) =>
    let av := match e.sub? c.cl with
      | some x => min (e.wi - x.ri) 255 * 256 + 1
      | none => 0
    .ok c.s [.s (Ctx.sn c.o.d) (wd (e.wi % 65536 * 65536 + av))]

/-- The slot that a publisher fills is complete: its bytes, WI and the tc word (R297), and a sequencer that has waited for it alone ends (R279); the streams of a pre-empted partition wait (R300). -/
def publish (s : State) (key : Nat) : State :=
  let e := s.strmEnt key
  if (s.part (bits e.reg.toNat 37 3)).pre = 2 then s else
  match e.pending with
  | none => s
  | some p =>
    let fin (s : State) (bs : List Byte) : State :=
      settle ((s.writeMem (slotSpa key e e.wi) (bs ++ List.replicate (32768 - bs.length) 0)).setStrm key
        { e with wi := e.wi + 1, pending := none, tcs := Tab.set 0 e.tcs (e.wi % e.nslot) p.tc }) p.sid
    match p.box, p.bytes with
    | some (h, ps), _ =>
      let as := spasIn ps h.box
      let part := bits e.reg.toNat 37 3
      ueSpas (boxReads (fin s (readSpas s as)) part (clusterOf p.sid) as) p.sid p.pc h.box as
    | none, some bs => fin s bs
    | none, none => s

/-- A copy subscription faults: it closes, and its record, attributed to the sequencer of the team that opened it, and the halt follow
(R263, R298, R405). The record is that of copy engine 0 of the die (DESIGN CHOICE, log 78). -/
def faultCopySub (s : State) (key cl cause : Nat) (addr : Addr) (x : Sub) (k : Nat) : State :=
  let e := s.strmEnt key
  let s := s.setStrm key { e with subs := e.subs.filter (fun y => y.cluster ≠ cl) }
  let course := (((s.team? x.team).map (fun tm => tm.courses)).getD []).find? (fun i => (s.stream? i).any (fun t => t.idx = 0))
  arbiter s (bits e.reg.toNat 37 3) ⟨0, 12480 + 16 * (key / 64), course, cause, x.pc, addr, wd k, 1, 1, false, none, none, 0, true⟩

/-- The copy engines write the next 4 KiB of a copy subscription's slot: the box is checked, translated and the slot read as the slot begins
(R298, R263), and between two parts the engine can stop (R28, R265). -/
def copySlot (s : State) (key cl : Nat) : State :=
  let e := s.strmEnt key
  match e.sub? cl with
  | none => s
  | some x => match x.copy with
    | none => s
    | some (h0, k) =>
      let part := bits e.reg.toNat 37 3
      if e.wi ≤ x.ri || (s.part part).halted || (s.part part).pre ≠ 0 then s
      else
        let h := { h0 with base := (h0.base + k * h0.bytes) % 2 ^ 64 }
        let w : Who := match s.team? x.team with
          | some tm => ⟨part, dieOf cl, tm.wbase, tm.wsize⟩
          | none => ⟨part, dieOf cl, 0, 0⟩
        let src := slotSpa key e x.ri
        let n := 4096 / h.w * h.w
        let write (m : Moving) : State :=
          let rs := takeRuns m.runs n
          let rest : Moving := { m with runs := dropRuns m.runs n, data := m.data.drop n }
          (countRuns (writeRuns s rs (m.data.take n)) part rs).setStrm key (e.modSub cl (fun y =>
            if rest.data.isEmpty then { y with ri := y.ri + 1, copy := some (h0, k + 1), moving := none } else { y with moving := some rest }))
        match x.moving with
        | some m => write m
        | none =>
          if runsBlocked s part h.box then s
          else match runsFault s w Acc.write h.box with
            | some f => faultCopySub s key cl f.code f.addr x k
            | none =>
              if ueAt s src h.bytes then faultCopySub s key cl 0x1C (BitVec.ofNat 64 h.base) x k
              else write ⟨h.box.flatMap (fun r => runs s w Acc.write r.1 r.2), s.readMem src h.bytes, pagesFor s w Acc.write h.box⟩

-- The tile port

/-- The elements of a transposed tile (R293). -/
def transpose (c : Cluster) (d a : Nat) (t : Tc) : Cluster :=
  let td : Tc := ⟨t.fmt, t.cols, t.rows⟩
  across ((List.range t.rows).flatMap (fun r => (List.range t.cols).map (fun k => (r, k))))
    (fun x out => out.putElem d td x.2 x.1 (c.elem a t x.1 x.2)) c

/-- The tile port finishes an operation, or moves one queue entry of it (R281, R293, R297, R298). -/
def tileStep (s : State) (cl : Nat) (x : TileSt) : State :=
  let c := s.cluster cl
  let sid := seqBase + cl
  let rest (c : Cluster) : Cluster := { c with port := c.port.filter (fun y => y.stamp ≠ x.stamp) }
  let done (s : State) (c : Cluster) : State := settle (s.setCluster cl (rest c)) sid
  let part := (ownerOf s cl).getD 0
  match x.op with
  | .zero d => done s { c.fixTile d with t := Tab.keep (fun k => k / 32768 ≠ d) c.t }
  | .fill d w => done s ((c.fixTile d).putTile d 0 ((List.replicate 8192 (bytesOf w.toNat 4)).flatten))
  | .mov d a => done s ((c.fixTile d).putTile d 0 (c.tile a 0 32768))
  | .xpose d a w => match tcOf w with
    | some t => done s (transpose c d a t)
    | none => done s c
  | .load d h base ps =>
    let as := spasIn ps h.box
    ueSpas (boxReads (done s (c.putTile d base (readSpas s as))) part cl as) sid x.pc h.box as
  | .store a h base ps =>
    let as := spasIn ps h.box
    boxWrites (writeSpas (done s c) as (c.tile a base h.bytes)) part cl as (c.tile a base h.bytes)
  | .loadq d h base len got => match hqOf s cl h with
    | e :: q =>
      if e.left ≠ 0 then s
      else
        let bs := if e.bad then (List.range 384).map (Config.freeByte s.fresh) else bytesOfWords e.words
        let c1 := { (c.putTile d (base + got) (bs.take (len - got))) with hq := Tab.set [] c.hq h q }
        let s := if e.bad then seqUe s cl else s
        if len ≤ got + 384 then done s c1
        else s.setCluster cl { c1 with port := c1.port.map (fun y => if y.stamp = x.stamp then { y with op := .loadq d h base len (got + 384) } else y) }
    | [] => s
  | .ssub d key slot =>
    let e := s.strmEnt key
    let as := (List.range 32768).map (fun i => slotSpa key e slot + i)
    ueSpas (done s { ((c.fixTile d).putTile d 0 (readSpas s as)) with tc := Tab.set 0 c.tc d (Tab.get 0 e.tcs (slot % e.nslot)) }) sid x.pc
      [(slotSpa key e slot, 32768)] as
  | .spub key a =>
    let e := s.strmEnt key
    let s1 := match e.pending with
      | some p => if p.sid = sid && p.bytes.isNone && p.box.isNone then s.setStrm key { e with pending := some { p with bytes := some (c.tile a 0 32768) } } else s
      | none => s
    done s1 c

/-- The tile port's move; where it read a tile in which an error has struck since its issue, HW_UE is raised as for the array (R415; DESIGN CHOICE,
log 25). -/
def tileRead (s : State) (cl : Nat) (x : TileSt) : State :=
  if (s.cluster cl).badTile x.op.reads then seqUe (tileStep s cl x) cl else tileStep s cl x

-- The array

/-- Where the store of cell (row, column) begins. -/
def cellKey (m n : Nat) : Nat := 64 * (128 * m + n)
/-- An accumulator of a cell. -/
def Cluster.accAt (c : Cluster) (a m n : Nat) : Nat := ofBytes (Tab.getList 0 c.cells (cellKey m n + 4 * a) 4)
/-- Write an accumulator of a cell. -/
def Cluster.putAcc (c : Cluster) (a m n x : Nat) : Cluster := { c with cells := Tab.setList 0 c.cells (cellKey m n + 4 * a) (bytesOf x 4) }
/-- Accumulators become +0 in every cell (R289, R290). -/
def Cluster.zeroAcc (c : Cluster) (p : Nat → Bool) : Cluster := { c with cells := Tab.keep (fun k => !p (k % 64 / 4)) c.cells }
/-- Every pair of a row below m and a column below n. -/
def grid (m n : Nat) : List (Nat × Nat) := (List.range m).flatMap (fun i => (List.range n).map (fun j => (i, j)))

/-- Round to FP32 by RNE, as a value (R54). -/
def rneNum (ftz : Bool) (x : Num) : Num := f32.num false (f32.round 0 ftz x).1

/-- A block of a BX row: exponents E0 and E1, and the elements as selector and signed magnitude (R58, R60, R284). -/
structure BxBlock where
  e0 : Nat
  e1 : Nat
  els : List (Bool × Int)
deriving DecidableEq, Repr

/-- Block j of a row of a BX tile. -/
def bxBlock (c : Cluster) (n : Nat) (t : Tc) (r j : Nat) : BxBlock :=
  let bx4 := t.fmt = 11
  let k := bxBits bx4
  let ex := c.tile n (expBase + 2 * (r * (t.cols / 32) + j)) 2
  ⟨leAt ex 0 1, leAt ex 1 1, (List.range 32).map (fun i =>
    let el := c.elem n t r (32 * j + i)
    (decide (bits el k 1 = 1), (if bits el (k + 1) 1 = 1 then -1 else 1) * (bits el 0 k : Int)))⟩

/-- Some element of a block selects 0xFF (R59). -/
def BxBlock.bad (b : BxBlock) : Bool := b.els.any (fun e => (if e.1 then b.e1 else b.e0) = 255)

/-- The block product p of R68. -/
def bxProduct (bx4 ftz : Bool) (a b : BxBlock) : Num :=
  if a.bad || b.bad then .nan false
  else
    let sum (i n : Bool) : Int := (a.els.zip b.els).foldl (fun t e => if e.1.1 = i && e.2.1 = n then t + e.1.2 * e.2.2 else t) 0
    let term (i n : Bool) : Num :=
      let v := sum i n
      .fin (decide (v < 0)) v.natAbs (((if i then a.e1 else a.e0) + (if n then b.e1 else b.e0) : Nat) - 254 - 2 * bxF bx4)
    rneNum ftz (sumNum false [term false false, term false true, term true false, term true true])

/-- The terms that a cell adds, in order (R68, R69, R288). -/
def mmaTerms (c : Cluster) (a b : Nat) (ta tb : Tc) (skip : Bool) (mode : Word) (m n : Nat) : List Num :=
  if isBx ta.fmt then
    (List.range (ta.cols / 32)).map (fun j =>
      let x := bxBlock c a ta m j
      if skip && x.e0 = 0 && x.e1 = 0 then .fin false 0 0 else bxProduct (ta.fmt = 11) (ftzOf mode) x (bxBlock c b tb n j))
  else
    let f := fmtOf ta.fmt
    (List.range ta.cols).map (fun k =>
      mulNum (f.num (dazOf mode) (c.elem a ta m k)) (f.num (dazOf mode) (c.elem b tb n k)))

/-- A cell's accumulation (R68 to R70): DAZ meets the accumulator at the start only (R54). -/
def accumulate (mode : Word) (acc : Nat) (ts : List Num) : Nat :=
  (ts.foldl (fun (x : Num × Nat) t =>
    let r := (f32.round 0 (ftzOf mode) (sumNum false [x.1, t])).1
    (f32.num false r, r)) (f32.num (dazOf mode) acc, acc)).2

/-- MMA in the array (R288). -/
def mmaRun (c : Cluster) (d a b m n k fmt : Nat) (skip : Bool) (mode : Word) : Cluster :=
  let ta : Tc := ⟨fmt, m, k⟩
  let tb : Tc := ⟨fmt, n, k⟩
  across (grid m n) (fun x out => out.putAcc d x.1 x.2 (accumulate mode (c.accAt d x.1 x.2) (mmaTerms c a b ta tb skip mode x.1 x.2))) c

/-- The FP32 result of a cell before its conversion (R71). -/
def drainOut (mode : Word) (acc : Nat) (rs cs ts : Num) : Nat :=
  let ftz := ftzOf mode
  let sc := rneNum ftz (mulNum (rneNum ftz (mulNum rs cs)) ts)
  (f32.round 0 ftz (mulNum (f32.num (dazOf mode) acc) sc)).1

/-- A result in the destination format (R49, R52, R71). -/
def drainTo (df : Nat) (mode : Word) (out : Nat) : Nat :=
  let x := f32.num false out
  if df = 3 then (BitVec.ofInt 8 (toIntNum 0 (-128) 127 x).1).toNat
  else if df = 5 then (BitVec.ofInt 32 (toIntNum 0 (-2 ^ 31) (2 ^ 31 - 1) x).1).toNat
  else ((fmtOf df).round 0 (ftzOf mode) x).1

/-- The summary word (R289). -/
def drainMax (outs : List Nat) : Word :=
  if outs.any (fun x => (f32.num false x).isNan) then 0x7FC00000 else wd (outs.foldl (fun m x => max m (x % 2 ^ 31)) 0)

/-- The entries that a DRAIN.Q pushes (R289). -/
def packEntries (bs : List Byte) : List (List Word) :=
  (chunks 384 bs.length bs).map (fun e => wordsOf (e ++ List.replicate (384 - e.length) 0))

/-- A begun DRAIN waits at its next push: the queue or rq is full (R289, R291). -/
def drainWaits (c : Cluster) (x : CmdSt) : Bool :=
  match x.cmd, x.qpush with
  | .drain _ _ (some h) _ _ _ _ _ _ _ _ _ _, _ :: _ => decide (4 ≤ (Tab.get [] c.hq h).length)
  | .drain _ _ _ _ _ _ _ _ _ _ _ _ _, _ => !x.rqpush.isEmpty && decide (16 ≤ c.rq.length)
  | _, _ => false

/-- The next pushes of a DRAIN that has begun, as far as its queues have room, and its end (R289, R291); a push that waits ends the command
of a sequencer that is gone (Table 18.1, R396). -/
def drainPush (s : State) (cl : Nat) (c : Cluster) (x : CmdSt) (a : Nat) (hq : Option Nat) (keep : Bool) : State :=
  match x.qpush, hq with
  | _ :: es, some h =>
    if 4 ≤ (Tab.get [] c.hq h).length then pause s x c
    else drainPushOn es h s
  | _, _ => rqOn x c
where
  /-- The command waits at its next push. -/
  pause (s : State) (x : CmdSt) (c : Cluster) : State :=
    if (s.stream? (seqBase + cl)).isNone then popCmd s cl c else s.setCluster cl { c with cq := x :: c.cq.tail }
  /-- The summary word, once every entry is pushed. -/
  rqOn (x : CmdSt) (c : Cluster) : State :=
    match x.rqpush with
    | w :: _ =>
      if 16 ≤ c.rq.length then pause s x c
      else popCmd s cl (if keep then { c with rq := c.rq ++ [w] } else ({ c with rq := c.rq ++ [w] }).zeroAcc (fun n => n = a))
    | [] => popCmd s cl (if keep then c else c.zeroAcc (fun n => n = a))
  /-- The entry is pushed; the command goes on with its next push. -/
  drainPushOn (es : List (List Word)) (h : Nat) (s : State) : State :=
    let e := nth [] x.qpush 0
    let c1 := { c with nqe := c.nqe + 1, hq := Tab.set [] c.hq h (Tab.get [] c.hq h ++ [⟨c.nqe, 0, e, false⟩]) }
    let x1 := { x with qpush := es }
    if es.isEmpty then rqOn x1 c1 else s.setCluster cl { c1 with cq := x1 :: c1.cq.tail }

/-- A DRAIN begins: scales read, results formed, the tile written, then its pushes (R71, R289). -/
def drainRun (s : State) (cl : Nat) (c : Cluster) (x : CmdSt) (a : Nat) (tile hq : Option Nat) (df : Nat) (rq keep : Bool)
    (m n rowsc colsc tens : Nat) (ps : Pages) (mode : Word) : State :=
  let scale (base i : Nat) : Num :=
    if base = 0 then .fin false 1 0
    else f32.num (dazOf mode) (ofBytes (readSpas s (spasIn ps [((base + 4 * i) % 2 ^ 64, 4)])))
  let outs := (grid m n).map (fun y => (y, drainOut mode (c.accAt a y.1 y.2) (scale rowsc y.1) (scale colsc y.2) (scale tens 0)))
  let td : Tc := ⟨df, m, n⟩
  let c1 := match tile with
    | some d => across outs (fun y c => c.putElem d td y.1.1 y.1.2 (drainTo df mode y.2)) c
    | none => c
  let x1 := { x with
    begun := true,
    qpush := if hq.isSome then packEntries (outs.flatMap (fun y => bytesOf (drainTo df mode y.2) (tileBits df / 8))) else [],
    rqpush := if rq then [drainMax (outs.map (fun y => y.2))] else [] }
  let rs := scaleRuns ⟨true, List.replicate 8 0 ++ bytesOf rowsc 8 ++ bytesOf colsc 8 ++ bytesOf tens 8, m, n⟩
  let as := spasIn ps rs
  ueSpas (boxReads (drainPush s cl c1 x1 a hq keep) ((ownerOf s cl).getD 0) cl as) (seqBase + cl) x.pc rs as

/-- A storage error strikes a cell: its bytes are free, and the next command that reads it raises HW_UE (R415). -/
def strikeCell (s : State) (cl n : Nat) : State :=
  s.modCluster cl (fun c => { c with
    cells := Tab.setList 0 c.cells (64 * n) ((List.range 64).map (Config.freeByte s.fresh)), cue := if c.cue.contains n then c.cue else n :: c.cue })

/-- A storage error strikes a tile: 64 of its bytes at a free place are free, and whatever reads the tile raises HW_UE (R415, log 25). -/
def strikeTile (s : State) (cl n : Nat) : State :=
  let off := 64 * ((Config.freeWord s.fresh n).toNat % 512)
  s.modCluster cl (fun c => { c with
    t := Tab.setList 0 c.t (32768 * n + off) ((List.range 64).map (Config.freeByte s.fresh)), tue := if c.tue.contains n then c.tue else n :: c.tue })

/-- MOVTC (R282, R284). -/
def execMovtc (o : Opnds) (s : State) : Host.Outcome State Fault Refusal := issue 0xA8 o s movtcMeaning

/-- RDTC (R284). -/
def execRdtc32 (o : Opnds) (s : State) : Host.Outcome State Fault Refusal := issue 0xA9 o s rdtcMeaning

/-- RDTC (R284). -/
def execRdtc (o : Opnds) (s : State) : Host.Outcome State Fault Refusal := issue 0xA9 o s rdtcMeaning

/-- TZERO (R293). -/
def execTzero32 (o : Opnds) (s : State) : Host.Outcome State Fault Refusal := issue 0xAA o s (fun c => c.pushTile c.s (.zero c.td))

/-- TZERO (R293). -/
def execTzero (o : Opnds) (s : State) : Host.Outcome State Fault Refusal := issue 0xAA o s (fun c => c.pushTile c.s (.zero c.td))

/-- TFILL (R293). -/
def execTfill (o : Opnds) (s : State) : Host.Outcome State Fault Refusal :=
  issue 0xAB o s (fun c => c.pushTile c.s (.fill c.td (c.uni o.a)))

/-- TLOAD (R293, R294). -/
def execTload32 (o : Opnds) (s : State) : Host.Outcome State Fault Refusal := issue 0xAC o s tloadMeaning

/-- TLOAD (R293, R294). -/
def execTload (o : Opnds) (s : State) : Host.Outcome State Fault Refusal := issue 0xAC o s tloadMeaning

/-- TSTORE (R293, R294). -/
def execTstore32 (o : Opnds) (s : State) : Host.Outcome State Fault Refusal := issue 0xAD o s tstoreMeaning

/-- TSTORE (R293, R294). -/
def execTstore (o : Opnds) (s : State) : Host.Outcome State Fault Refusal := issue 0xAD o s tstoreMeaning

/-- TMOV (R293). -/
def execTmov32 (o : Opnds) (s : State) : Host.Outcome State Fault Refusal :=
  issue 0xAE o s (fun c => c.pushTile c.s (.mov c.td (Ctx.fn o.a)))

/-- TMOV (R293). -/
def execTmov (o : Opnds) (s : State) : Host.Outcome State Fault Refusal := issue 0xAE o s (fun c => c.pushTile c.s (.mov c.td (Ctx.fn o.a)))

/-- TXPOSE (R293). -/
def execTxpose32 (o : Opnds) (s : State) : Host.Outcome State Fault Refusal := issue 0xAF o s txposeMeaning

/-- TXPOSE (R293). -/
def execTxpose (o : Opnds) (s : State) : Host.Outcome State Fault Refusal := issue 0xAF o s txposeMeaning

/-- MMA at issue (R285 to R288). -/
def execMma (o : Opnds) (s : State) : Host.Outcome State Fault Refusal := issue 0xB0 o s mmaMeaning

/-- DRAIN at issue (R289). -/
def execDrain (o : Opnds) (s : State) : Host.Outcome State Fault Refusal := issue 0xB1 o s drainMeaning

/-- ACCZ at issue (R290). -/
def execAccz32 (o : Opnds) (s : State) : Host.Outcome State Fault Refusal := issue 0xB2 o s acczMeaning

/-- ACCZ at issue (R290). -/
def execAccz (o : Opnds) (s : State) : Host.Outcome State Fault Refusal := issue 0xB2 o s acczMeaning

/-- RQPOP (R291). -/
def execRqpop32 (o : Opnds) (s : State) : Host.Outcome State Fault Refusal := issue 0xB3 o s rqpopMeaning

/-- RQPOP (R291). -/
def execRqpop (o : Opnds) (s : State) : Host.Outcome State Fault Refusal := issue 0xB3 o s rqpopMeaning

/-- AMODE at issue (R292). -/
def execAmode32 (o : Opnds) (s : State) : Host.Outcome State Fault Refusal := issue 0xB4 o s amodeMeaning

/-- AMODE at issue (R292). -/
def execAmode (o : Opnds) (s : State) : Host.Outcome State Fault Refusal := issue 0xB4 o s amodeMeaning

/-- AWAIT (R292). -/
def execAwait32 (o : Opnds) (s : State) : Host.Outcome State Fault Refusal := issue 0xB5 o s awaitMeaning

/-- AWAIT (R292). -/
def execAwait (o : Opnds) (s : State) : Host.Outcome State Fault Refusal := issue 0xB5 o s awaitMeaning

/-- SPUB (R297). -/
def execSpub (o : Opnds) (s : State) : Host.Outcome State Fault Refusal := issue 0xB6 o s spubMeaning

/-- SSUB (R298). -/
def execSsub (o : Opnds) (s : State) : Host.Outcome State Fault Refusal := issue 0xB7 o s ssubMeaning

/-- SSUB.OPEN (R298). -/
def execSsubOpen (o : Opnds) (s : State) : Host.Outcome State Fault Refusal := issue 0xB7 o s ssubOpenMeaning

/-- SSUB.CLOSE (R298). -/
def execSsubClose (o : Opnds) (s : State) : Host.Outcome State Fault Refusal := issue 0xB7 o s ssubCloseMeaning

/-- SSUB.COPY (R298). -/
def execSsubCopy (o : Opnds) (s : State) : Host.Outcome State Fault Refusal := issue 0xB7 o s ssubCopyMeaning

/-- SREL (R298). -/
def execSrel (o : Opnds) (s : State) : Host.Outcome State Fault Refusal := issue 0xB8 o s srelMeaning

/-- SSTAT (R299). -/
def execSstat32 (o : Opnds) (s : State) : Host.Outcome State Fault Refusal := issue 0xB9 o s sstatMeaning

/-- SSTAT (R299). -/
def execSstat (o : Opnds) (s : State) : Host.Outcome State Fault Refusal := issue 0xB9 o s sstatMeaning

/-- A tile-port operation can go on: what it names is not in use by an earlier one, and its queue's oldest entry is filled (R281). Two TLOAD.Q on one
queue with different tiles go in either order, and their pops may interleave (DESIGN CHOICE, log 77). -/
def tileCan (s : State) (cl : Nat) (x : TileSt) : Bool :=
  (s.cluster cl).clear x.stamp x.op.reads x.op.writes && (match x.op with
    | .loadq _ h _ _ _ => (match hqOf s cl h with
      | e :: _ => e.left = 0
      | [] => false)
    | _ => true)

/-- TILE_OP_COMPLETE (R281): op is the place in the issue order. -/
def execTileOpComplete (cl op : Nat) (s : State) : Host.Outcome State Fault Refusal :=
  .next (match (s.cluster cl).port.find? (fun x => x.stamp = op) with
    | some x => if (s.cluster cl).clear x.stamp x.op.reads x.op.writes then tileRead s cl x else s
    | none => s)

/-- SLOT_PUBLISHED (R297). -/
def execSlotPublished (st : Nat) (s : State) : Host.Outcome State Fault Refusal := .next (publish s st)

/-- SUBSCRIPTION_SLOT_COPY (R298). -/
def execSubscriptionSlotCopy (st cl : Nat) (s : State) : Host.Outcome State Fault Refusal := .next (copySlot s st cl)

/-- MMA_EXECUTE (R288). -/
def execMmaExecute (cl : Nat) (s : State) : Host.Outcome State Fault Refusal :=
  .next (match arrayHead s cl with
    | some (⟨.mma d a b m n k fmt skip mode, _, _, _, _, _, _, _⟩, c) => popCmd s cl (mmaRun c d a b m n k fmt skip mode)
    | _ => s)

/-- DRAIN_EXECUTE (R289). -/
def execDrainExecute (cl : Nat) (s : State) : Host.Outcome State Fault Refusal :=
  .next (match arrayHead s cl with
    | some (x, c) => (match x.cmd with
      | .drain a tile hq df rq keep m n rowsc colsc tens ps mode =>
        if x.begun then s else drainRun s cl c x a tile hq df rq keep m n rowsc colsc tens ps mode
      | _ => s)
    | none => s)

/-- DRAIN_PUSH_RESUME (R289). -/
def execDrainPushResume (cl : Nat) (s : State) : Host.Outcome State Fault Refusal :=
  .next (match arrayHead s cl with
    | some (x, c) => (match x.cmd with
      | .drain a _ hq _ _ keep _ _ _ _ _ _ _ => if x.begun then drainPush s cl c x a hq keep else s
      | _ => s)
    | none => s)

/-- ACCZ_EXECUTE (R290). -/
def execAcczExecute (cl : Nat) (s : State) : Host.Outcome State Fault Refusal :=
  .next (match arrayHead s cl with
    | some (⟨.accz a all, _, _, _, _, _, _, _⟩, c) => popCmd s cl (c.zeroAcc (fun n => all || n = a))
    | _ => s)

/-- AMODE_SWITCH (R292). -/
def execAmodeSwitch (cl : Nat) (s : State) : Host.Outcome State Fault Refusal :=
  .next (match arrayHead s cl with
    | some (⟨.amode spl, _, _, _, _, _, _, _⟩, c) => popCmd s cl { c with amode := spl }
    | _ => s)

end Sys2Proof.Machine
end

