-- ==== Sys2Proof/Machine/Spline.lean ====
section
/-! DEFINITION. Spline instructions and the array in spline mode (R304 to R322). -/
namespace Sys2Proof.Machine

-- Knot registers

/-- The fields of a knot register's control word (Table 14.1). -/
def Knot.g (k : Knot) : Nat := bits k.ctl.toNat 0 5
/-- The degree n. -/
def Knot.deg (k : Knot) : Nat := if bits k.ctl.toNat 8 2 = 0 then 3 else bits k.ctl.toNat 8 2
/-- CLAMP: 0 edge, 1 zero, 2 linear. -/
def Knot.clamp (k : Knot) : Nat := bits k.ctl.toNat 10 2
/-- A knot register of a cluster. -/
def Cluster.knot (c : Cluster) (n : Nat) : Knot := Tab.get Knot.zero c.k n

/-- A control word that KSET takes (R313). -/
def ctlOk (w : Word) : Bool :=
  let x := w.toNat
  let k : Knot := ⟨0, 0, 0, w⟩
  k.g ≠ 0 && k.g ≤ 29 && bits x 8 2 ≠ 3 && k.clamp ≠ 3 && bits x 5 3 = 0 && bits x 12 20 = 0 && k.g + k.deg ≤ 32

/-- RNE_FP32 of 1 over a width (R313, R319). -/
def invOf (mode h : Word) : Word := wd (f32.quotient (ftzOf mode) (.fin false 1 0) (f32.num false h.toNat)).1

/-- KSET (R313). X0 is x0 as it is given, DAZ or not (DESIGN CHOICE, log 79). -/
def ksetMeaning (c : Ctx) : Eff :=
  let x0 := c.srcF f32 c.o.a 0
  let h := c.srcF f32 c.o.b 0
  let ctl := c.uni c.o.c
  let hOk := match f32.num (dazOf c.mode) h with
    | .fin neg m _ => !neg && m ≠ 0 && 2 ^ 23 ≤ h
    | _ => false
  if !(f32.num false x0).isFin || !hOk || !ctlOk ctl then .trap 0x30 0 0
  else .ok (c.s.modCluster c.cl (fun x => { x with k := Tab.set Knot.zero x.k c.td ⟨wd x0, wd h, invOf c.mode (wd h), ctl⟩ })) []

/-- KSET.MAP (R313). -/
def ksetMapMeaning (c : Ctx) : Eff :=
  let row0 := (c.uni c.o.a).toNat
  let n := (c.uni c.o.b).toNat
  if n = 0 || 128 < row0 + n then .trap 0x30 0 0
  else .ok (c.s.modCluster c.cl (fun x => { x with rmap := Tab.setList 0 x.rmap row0 (List.replicate n c.td) })) []

/-- KGET (R314). -/
def kgetMeaning (c : Ctx) : Eff :=
  let k := c.clu.knot (Ctx.fn c.o.a)
  .ok c.s [.s (Ctx.sn c.o.d) (match c.o.mod with
    | 0 => k.x0
    | 1 => k.h
    | 2 => k.ih
    | _ => k.ctl)]

-- Issue

/-- A box of coefficients (R315). -/
def coefBox (h : Shape) : Bool := h.rank = 3 && h.elem = 2 && h.d0 = 32 && h.d1 ≤ 128 && h.d2 ≤ 128

/-- The rows of a box of coefficients: one for each cell (R315). -/
def coefRuns (h : Shape) : List (Nat × Nat) := (List.range h.rows).map (fun r => (h.rowAt r, 64))

/-- SLOAD and SSTORE at issue (R315). -/
def coefMeaning (c : Ctx) (acc : Acc) (cmd : Shape → Pages → Cmd) : Eff :=
  if !c.clu.mode then .trap 0x2D 0 0
  else match c.shape? c.o.a with
    | none => .trap 0x24 0 0
    | some h =>
      if !coefBox h then .trap 0x24 0 0
      else match boxFault c.s c.who acc 1 (coefRuns h) with
        | some f => c.faulted f (c.readBlocked f.addr.toNat)
        | none =>
          if runsBlocked c.s c.t.part (coefRuns h) then c.readBlocked (firstBlocked c.s c.t.part (coefRuns h))
          else c.pushCmd (cmd h (pagesFor c.s c.who acc (coefRuns h))) id

/-- SZERO at issue (R304, R315). -/
def szeroMeaning (c : Ctx) : Eff := if !c.clu.mode then .trap 0x2D 0 0 else c.pushCmd .szero id

/-- A tile word of a float tile of a spline instruction (R316, R317). -/
def floatTc (w : Word) : Option Tc := (tcOf w).filter (fun t => t.fmt = 0 || t.fmt = 2)

/-- The knot registers of the rows below I, none where one is invalid (R307). -/
def Ctx.rowKnots (c : Ctx) (i : Nat) : Option RowKnots :=
  let ks := (List.range i).map (fun r => c.clu.knot (Tab.get 0 c.clu.rmap r))
  if ks.any (fun k => k.g = 0) then none else some ks

/-- SEVAL at issue (R316). -/
def sevalMeaning (c : Ctx) : Eff :=
  let a := Ctx.fn c.o.a
  let acc := c.o.mod = 1
  if !c.clu.mode then .trap 0x2D 0 0
  else if c.tcBusy [c.td, a] then .wait
  else match floatTc (c.clu.tcAt a), floatTc (c.clu.tcAt c.td) with
    | some x, some d =>
      if 128 < x.cols || 128 < d.cols || d.rows ≠ x.rows || (acc && d.fmt ≠ 0) then .trap 0x2C 0 0
      else match c.rowKnots x.cols with
        | none => .trap 0x30 0 0
        | some ks => c.pushCmd (.seval c.td a (c.clu.tcAt c.td) (c.clu.tcAt a) acc ks c.cmode) id
    | _, _ => .trap 0x2C 0 0

/-- The tiles of SDER and SGRAD: inputs B by I, gradients B by O (R317, R318). -/
def gradTiles (x g : Option Tc) : Option (Tc × Tc) :=
  match x, g with
  | some x, some g => if 128 < x.cols || 128 < g.cols || g.rows ≠ x.rows then none else some (x, g)
  | _, _ => none

/-- SDER at issue (R317). -/
def sderMeaning (c : Ctx) : Eff :=
  let a := Ctx.fn c.o.a
  let b := Ctx.fn c.o.b
  let acc := c.o.mod = 1
  if !c.clu.mode then .trap 0x2D 0 0
  else if c.tcBusy [c.td, a, b] then .wait
  else match gradTiles (floatTc (c.clu.tcAt a)) (floatTc (c.clu.tcAt b)), floatTc (c.clu.tcAt c.td) with
    | some (x, _), some d =>
      if d.rows ≠ x.rows || d.cols ≠ x.cols || (acc && d.fmt ≠ 0) then .trap 0x2C 0 0
      else match c.rowKnots x.cols with
        | none => .trap 0x30 0 0
        | some ks => c.pushCmd (.sder c.td a b (c.clu.tcAt c.td) (c.clu.tcAt a) (c.clu.tcAt b) acc ks c.cmode) id
    | _, _ => .trap 0x2C 0 0

/-- The words of a gradient plane that an SGRAD may add to (R318). -/
def gradRuns (h : Shape) (i o : Nat) : List (Nat × Nat) := (grid i o).map (fun x => (h.rowAt (x.1 + x.2 * h.d1), 128))

/-- SGRAD at issue (R318, R322). -/
def sgradMeaning (c : Ctx) : Eff :=
  let a := Ctx.fn c.o.a
  let b := Ctx.fn c.o.b
  if !c.clu.mode then .trap 0x2D 0 0
  else if c.tcBusy [a, b] then .wait
  else match gradTiles (floatTc (c.clu.tcAt a)) (floatTc (c.clu.tcAt b)) with
    | none => .trap 0x2C 0 0
    | some (x, g) => match c.shape? c.o.d with
      | none => .trap 0x24 0 0
      | some h =>
        if h.rank ≠ 3 || (h.elem ≠ 5 && h.elem ≠ 8) || h.d0 ≠ 32 || h.d1 < x.cols || h.d2 < g.cols then .trap 0x24 0 0
        else match c.rowKnots x.cols with
          | none => .trap 0x30 0 0
          | some ks =>
            let rs := gradRuns h x.cols g.cols
            match boxFault c.s c.who (Acc.atomic false) 4 rs with
            | some f => c.faulted f (c.readBlocked f.addr.toNat)
            | none =>
              if runsBlocked c.s c.t.part rs then c.readBlocked (firstBlocked c.s c.t.part rs)
              else c.pushCmd (.sgrad h a b (c.clu.tcAt a) (c.clu.tcAt b) ks (pagesFor c.s c.who (Acc.atomic false) rs) c.cmode) id

/-- SREFINE at issue (R319). -/
def srefineMeaning (c : Ctx) : Eff :=
  let k := c.clu.knot c.td
  if !c.clu.mode then .trap 0x2D 0 0
  else if k.g = 0 || k.deg ≠ 3 || 14 < k.g || bits k.h.toNat 23 8 ≤ 1 then .trap 0x30 0 0
  else
    let h := k.h - 0x00800000
    let k' : Knot := ⟨k.x0, h, invOf c.mode h, k.ctl + wd k.g⟩
    c.pushCmd (.srefine c.td k.g c.clu.rmap c.cmode) (fun x => { x with k := Tab.set Knot.zero x.k c.td k' })

-- Evaluation (R308 to R311); every intermediate is a rounded FP32 value

/-- A constant of R308 by its FP32 bits. -/
def fpc (w : Nat) : Num := f32.num false w
/-- R(x - y). -/
def rsub (ftz : Bool) (x y : Num) : Num := rneNum ftz (sumNum false [x, y.neg])
/-- R(x * y). -/
def rmul (ftz : Bool) (x y : Num) : Num := rneNum ftz (mulNum x y)

/-- The basis and derivative values before their rounding to BF16 (R308). -/
def basis32 (ftz : Bool) (n : Nat) (w : Num) : List Num × List Num :=
  let one := fpc 0x3F800000
  let half := fpc 0x3F000000
  let zero := fpc 0
  let sub := rsub ftz
  let mul := rmul ftz
  let u := sub one w
  let w2 := mul w w
  let w3 := mul w2 w
  let u2 := mul u u
  let u3 := mul u2 u
  if n = 1 then ([u, w], [fpc 0xBF800000, one])
  else if n = 2 then
    let b0 := mul u2 half
    let b2 := mul w2 half
    let e0 := sub zero u
    ([b0, sub (sub one b0) b2, b2], [e0, sub (sub zero e0) w, w])
  else
    let s6 := fpc 0x3E2AAAAB
    let b0 := mul u3 s6
    let b3 := mul w3 s6
    let b1 := rneNum ftz (sumNum false [sub (mul w3 half) w2, fpc 0x3F2AAAAB])
    let e0 := sub zero (mul u2 half)
    let e3 := mul w2 half
    let e1 := sub (mul w2 (fpc 0x3FC00000)) (mul w (fpc 0x40000000))
    ([b0, b1, sub (sub (sub one b0) b1) b3, b3], [e0, e1, sub (sub (sub zero e0) e1) e3, e3])

/-- RNE_BF16 as a value. -/
def rneB (ftz : Bool) (x : Num) : Num := bf16.num false (bf16.round 0 ftz x).1

/-- On which side of its grid an input lies (R309). -/
inductive Side | inside | left | right | nan
deriving DecidableEq, Repr

/-- A located input (R309). -/
structure Loc where
  side : Side
  m : Nat
  beta : List Num
  delta : List Num
  d : Num
  ih : Num
  clamp : Nat
deriving DecidableEq, Repr

/-- The integer part of a non-negative finite value. -/
def Num.floor : Num → Nat
  | .fin _ m e => if e < 0 then m / 2 ^ (-e).toNat else m * 2 ^ e.toNat
  | _ => 0

/-- Locate an input on the grid of its row (R309). -/
def locate (ftz : Bool) (k : Knot) (x : Num) : Loc :=
  let n := k.deg
  let ih := f32.num false k.ih.toNat
  let t := rneNum ftz (mulNum (sumNum false [x, (f32.num false k.x0.toNat).neg]) ih)
  let g := Num.ofInt k.g
  let at_ (side : Side) (m : Nat) (w d : Num) : Loc :=
    let b := basis32 ftz n w
    ⟨side, m, b.1.map (rneB ftz), b.2.map (rneB ftz), d, ih, k.clamp⟩
  if t.isNan then ⟨.nan, 0, List.replicate (n + 1) (.nan false), List.replicate (n + 1) (.nan false), t, ih, k.clamp⟩
  else if !(t.less (.fin false 0 0)) && t.less g then
    at_ .inside t.floor (rsub ftz t (Num.ofInt t.floor)) (.fin false 0 0)
  else if t.less (.fin false 0 0) then at_ .left 0 (.fin false 0 0) t
  else at_ .right (k.g - 1) (fpc 0x3F800000) (rsub ftz t g)

/-- A coefficient of a cell (R305), under the captured DAZ (R54). -/
def Cluster.coef (c : Cluster) (mode : Word) (i o q : Nat) : Num :=
  bf16.num (dazOf mode) (ofBytes (Tab.getList 0 c.cells (cellKey i o + 2 * q) 2))

/-- The rounded sum of coefficients times basis values (R310). -/
def coefSum (c : Cluster) (mode : Word) (i o m : Nat) (vs : List Num) : Num :=
  rneNum (ftzOf mode) (sumNum false (vs.zipIdx.map (fun v => mulNum (c.coef mode i o (m + v.2)) v.1)))

/-- The term of SEVAL (Table 14.2). -/
def splineTerm (c : Cluster) (mode : Word) (i o : Nat) (l : Loc) : Num :=
  let p := coefSum c mode i o l.m l.beta
  match l.side with
  | .nan => .nan false
  | .inside => p
  | _ =>
    if l.clamp = 0 then p
    else if l.clamp = 1 then .fin false 0 0
    else rneNum (ftzOf mode) (sumNum false [p, mulNum l.d (coefSum c mode i o l.m l.delta)])

/-- The slope of SDER (Table 14.2). -/
def splineSlope (c : Cluster) (mode : Word) (i o : Nat) (l : Loc) : Num :=
  let v := rmul (ftzOf mode) (coefSum c mode i o l.m l.delta) l.ih
  match l.side with
  | .nan => .nan false
  | .inside => v
  | _ => if l.clamp = 2 then v else .fin false 0 0

/-- The weight of coefficient m + k for SGRAD, none where it has none (Table 14.2). -/
def splineGamma (mode : Word) (l : Loc) (k : Nat) : Option Num :=
  if l.beta.length ≤ k then none
  else
    let b := nth (.nan false) l.beta k
    match l.side with
    | .nan => some (.nan false)
    | .inside => some b
    | _ =>
      if l.clamp = 0 then some b
      else if l.clamp = 1 then none
      else some (rneNum (ftzOf mode) (sumNum false [b, mulNum l.d (nth (.nan false) l.delta k)]))

/-- An element of a float tile as a value (R316). -/
def Cluster.tileNum (c : Cluster) (mode : Word) (n : Nat) (t : Tc) (r col : Nat) : Num :=
  (fmtOf t.fmt).num (dazOf mode) (c.elem n t r col)

/-- A sum formed term by term, each addition rounded (R316, R317). -/
def runningSum (ftz : Bool) (acc : Num) (ts : List Num) : Num := ts.foldl (fun a t => rneNum ftz (sumNum false [a, t])) acc

/-- A result in a float tile's format (R49). -/
def outBits (t : Tc) (ftz : Bool) (x : Num) : Nat := ((fmtOf t.fmt).round 0 ftz x).1

/-- The located inputs of sample b. -/
def locsOf (c : Cluster) (mode : Word) (a : Nat) (ta : Tc) (ks : RowKnots) (b : Nat) : List Loc :=
  ks.zipIdx.map (fun k => locate (ftzOf mode) k.1 (c.tileNum mode a ta b k.2))

/-- SEVAL in the array (R316). -/
def sevalRun (c : Cluster) (d a : Nat) (td ta : Tc) (acc : Bool) (ks : RowKnots) (mode : Word) : Cluster :=
  across (List.range ta.rows) (fun b out =>
    let ls := locsOf c mode a ta ks b
    across (List.range td.cols) (fun o out =>
      let a0 := if acc then c.tileNum mode d td b o else .fin false 0 0
      out.putElem d td b o (outBits td (ftzOf mode) (runningSum (ftzOf mode) a0 (ls.zipIdx.map (fun l => splineTerm c mode l.2 o l.1))))) out) c

/-- SDER in the array (R317). -/
def sderRun (c : Cluster) (d a g : Nat) (td ta tg : Tc) (acc : Bool) (ks : RowKnots) (mode : Word) : Cluster :=
  across (List.range ta.rows) (fun b out =>
    across (locsOf c mode a ta ks b).zipIdx (fun l out =>
      let a0 := if acc then c.tileNum mode d td b l.2 else .fin false 0 0
      let ts := (List.range tg.cols).map (fun o => mulNum (c.tileNum mode g tg b o) (splineSlope c mode l.2 o l.1))
      out.putElem d td b l.2 (outBits td (ftzOf mode) (runningSum (ftzOf mode) a0 ts))) out) c

/-- The u-th add of an SGRAD, in the order of R318: u counts samples, rows, columns and the four weights. -/
def sgradAdd (s : State) (cl : Nat) (c : Cluster) (x : CmdSt) (h : Shape) (a g : Nat) (ta tg : Tc) (ks : RowKnots) (ps : Pages)
    (mode : Word) : State :=
  let part := (ownerOf s cl).getD 0
  let k := x.unit % 4
  let o := x.unit / 4 % tg.cols
  let i := x.unit / 4 / tg.cols % ta.cols
  let b := x.unit / 4 / tg.cols / ta.cols
  let l := locate (ftzOf mode) (nth Knot.zero ks i) (c.tileNum mode a ta b i)
  let next (s : State) : State :=
    if 4 * tg.cols * ta.cols * ta.rows ≤ x.unit + 1 then popCmd s cl (s.cluster cl)
    else s.modCluster cl (fun c => { c with cq := { x with begun := true, unit := x.unit + 1 } :: c.cq.tail })
  match splineGamma mode l k with
  | none => next s
  | some v =>
    let va := (h.rowAt (i + o * h.d1) + 4 * (l.m + k)) % 2 ^ 64
    let spa := spaIn ps va
    if ueAt s spa 4 then ueSpas (next (countAccess s part spa)) (seqBase + cl) x.pc [(va, 4)] [spa]
    else
      let add := rmul (ftzOf mode) (c.tileNum mode g tg b o) v
      let w := (caddWord mode (wd (ofBytes (s.readMem spa 4))) (f32.num false (f32.round 0 false add).1)).1
      next ((countAccess (s.writeMem spa (bytesOf w.toNat 4)) part spa).exchange (boxSender cl) [⟨0, 0, spa, .atom 9 (wd (f32.round 0 false add).1) mode, .none, []⟩] [s.readMem spa 4] false)

/-- A sum divided by 2^n and rounded once to BF16 (R319). -/
def halved (mode : Word) (n : Nat) (xs : List Num) : Nat :=
  (bf16.round 0 (ftzOf mode) (match sumNum false xs with
    | .fin neg m e => .fin neg m (e - n)
    | x => x)).1

/-- The new coefficients of a cell (R319): g is the old number of intervals. -/
def refined (c : Cluster) (mode : Word) (g i o : Nat) : List Byte :=
  let v := c.coef mode i o
  (List.range 32).flatMap (fun m => bytesOf (
    if 2 * g + 2 < m then 0
    else if m % 2 = 0 then halved mode 1 [v (m / 2), v (m / 2 + 1)]
    else halved mode 3 [v (m / 2), mulNum (Num.ofInt 6) (v (m / 2 + 1)), v (m / 2 + 2)]) 2)

/-- SREFINE in the array (R319). -/
def srefineRun (c : Cluster) (k g : Nat) (rmap : Tab Nat) (mode : Word) : Cluster :=
  across ((grid 128 128).filter (fun x => Tab.get 0 rmap x.1 = k)) (fun x out =>
    { out with cells := Tab.setList 0 out.cells (cellKey x.1 x.2) (refined c mode g x.1 x.2) }) c

/-- The cells of a box of coefficients, with the addresses of their rows (R315). -/
def boxCells (h : Shape) (ps : Pages) : List (Nat × List Nat) :=
  (List.range h.rows).map (fun r => (cellKey (r % dim1 h.d1) (r / dim1 h.d1), spasIn ps [(h.rowAt r, 64)]))

/-- SLOAD in the array (R315, R463). -/
def sloadRun (s : State) (cl : Nat) (c : Cluster) (x : CmdSt) (h : Shape) (ps : Pages) : State :=
  let as := spasIn ps (coefRuns h)
  let c1 := across (boxCells h ps) (fun y c => { c with cells := Tab.setList 0 c.cells y.1 (readSpas s y.2) }) c
  ueSpas (boxReads (popCmd s cl c1) ((ownerOf s cl).getD 0) cl as) (seqBase + cl) x.pc (coefRuns h) as

/-- SSTORE in the array (R315). -/
def sstoreRun (s : State) (cl : Nat) (c : Cluster) (h : Shape) (ps : Pages) : State :=
  let as := spasIn ps (coefRuns h)
  let s1 := across (boxCells h ps) (fun y s => writeSpas s y.2 (Tab.getList 0 c.cells y.1 64)) s
  boxWrites (popCmd s1 cl c) ((ownerOf s cl).getD 0) cl as (as.map s1.byteAt)

/-- KSET (R313). -/
def execKset (o : Opnds) (s : State) : Host.Outcome State Fault Refusal := issue 0xC0 o s ksetMeaning

/-- KSET.MAP (R313). -/
def execKsetMap (o : Opnds) (s : State) : Host.Outcome State Fault Refusal := issue 0xC0 o s ksetMapMeaning

/-- KGET (R314). -/
def execKget32 (o : Opnds) (s : State) : Host.Outcome State Fault Refusal := issue 0xC1 o s kgetMeaning

/-- KGET (R314). -/
def execKget (o : Opnds) (s : State) : Host.Outcome State Fault Refusal := issue 0xC1 o s kgetMeaning

/-- SLOAD at issue (R315). -/
def execSload32 (o : Opnds) (s : State) : Host.Outcome State Fault Refusal := issue 0xC2 o s (fun c => coefMeaning c Acc.read .sload)

/-- SLOAD at issue (R315). -/
def execSload (o : Opnds) (s : State) : Host.Outcome State Fault Refusal := issue 0xC2 o s (fun c => coefMeaning c Acc.read .sload)

/-- SSTORE at issue (R315). -/
def execSstore32 (o : Opnds) (s : State) : Host.Outcome State Fault Refusal := issue 0xC3 o s (fun c => coefMeaning c Acc.write .sstore)

/-- SSTORE at issue (R315). -/
def execSstore (o : Opnds) (s : State) : Host.Outcome State Fault Refusal := issue 0xC3 o s (fun c => coefMeaning c Acc.write .sstore)

/-- SZERO at issue (R315). -/
def execSzero32 (o : Opnds) (s : State) : Host.Outcome State Fault Refusal := issue 0xC4 o s szeroMeaning

/-- SZERO at issue (R315). -/
def execSzero (o : Opnds) (s : State) : Host.Outcome State Fault Refusal := issue 0xC4 o s szeroMeaning

/-- SEVAL at issue (R316). -/
def execSeval32 (o : Opnds) (s : State) : Host.Outcome State Fault Refusal := issue 0xC5 o s sevalMeaning

/-- SEVAL at issue (R316). -/
def execSeval (o : Opnds) (s : State) : Host.Outcome State Fault Refusal := issue 0xC5 o s sevalMeaning

/-- SDER at issue (R317). -/
def execSder32 (o : Opnds) (s : State) : Host.Outcome State Fault Refusal := issue 0xC6 o s sderMeaning

/-- SDER at issue (R317). -/
def execSder (o : Opnds) (s : State) : Host.Outcome State Fault Refusal := issue 0xC6 o s sderMeaning

/-- SGRAD at issue (R318). -/
def execSgrad32 (o : Opnds) (s : State) : Host.Outcome State Fault Refusal := issue 0xC7 o s sgradMeaning

/-- SGRAD at issue (R318). -/
def execSgrad (o : Opnds) (s : State) : Host.Outcome State Fault Refusal := issue 0xC7 o s sgradMeaning

/-- SREFINE at issue (R319). -/
def execSrefine32 (o : Opnds) (s : State) : Host.Outcome State Fault Refusal := issue 0xC8 o s srefineMeaning

/-- SREFINE at issue (R319). -/
def execSrefine (o : Opnds) (s : State) : Host.Outcome State Fault Refusal := issue 0xC8 o s srefineMeaning

/-- SLOAD_EXECUTE (R315). -/
def execSloadExecute (cl : Nat) (s : State) : Host.Outcome State Fault Refusal :=
  .next (match arrayHead s cl with
    | some (x, c) => (match x.cmd with
      | .sload h ps => sloadRun s cl c x h ps
      | _ => s)
    | none => s)

/-- SSTORE_EXECUTE (R315). -/
def execSstoreExecute (cl : Nat) (s : State) : Host.Outcome State Fault Refusal :=
  .next (match arrayHead s cl with
    | some (x, c) => (match x.cmd with
      | .sstore h ps => sstoreRun s cl c h ps
      | _ => s)
    | none => s)

/-- SZERO_EXECUTE (R315). -/
def execSzeroExecute (cl : Nat) (s : State) : Host.Outcome State Fault Refusal :=
  .next (match arrayHead s cl with
    | some (x, c) => (match x.cmd with
      | .szero => popCmd s cl { c with cells := [] }
      | _ => s)
    | none => s)

/-- SEVAL_EXECUTE (R316). -/
def execSevalExecute (cl : Nat) (s : State) : Host.Outcome State Fault Refusal :=
  .next (match arrayHead s cl with
    | some (x, c) => (match x.cmd with
      | .seval d a tcd tca acc ks mode => (match tcOf tcd, tcOf tca with
        | some td, some ta => popCmd s cl (sevalRun c d a td ta acc ks mode)
        | _, _ => s)
      | _ => s)
    | none => s)

/-- SDER_EXECUTE (R317). -/
def execSderExecute (cl : Nat) (s : State) : Host.Outcome State Fault Refusal :=
  .next (match arrayHead s cl with
    | some (x, c) => (match x.cmd with
      | .sder d a g tcd tca tcg acc ks mode => (match tcOf tcd, tcOf tca, tcOf tcg with
        | some td, some ta, some tg => popCmd s cl (sderRun c d a g td ta tg acc ks mode)
        | _, _, _ => s)
      | _ => s)
    | none => s)

/-- SGRAD_EXECUTE (R318): the next add, in the order of R318. -/
def execSgradExecute (cl : Nat) (s : State) : Host.Outcome State Fault Refusal :=
  .next (match arrayHead s cl with
    | some (x, c) => (match x.cmd with
      | .sgrad h a g tca tcg ks ps mode => (match tcOf tca, tcOf tcg with
        | some ta, some tg => sgradAdd s cl c x h a g ta tg ks ps mode
        | _, _ => s)
      | _ => s)
    | none => s)

/-- SREFINE_EXECUTE (R319). -/
def execSrefineExecute (cl : Nat) (s : State) : Host.Outcome State Fault Refusal :=
  .next (match arrayHead s cl with
    | some (x, c) => (match x.cmd with
      | .srefine k g rmap mode => popCmd s cl (srefineRun c k g rmap mode)
      | _ => s)
    | none => s)

end Sys2Proof.Machine
end

