-- ==== Sys2Proof/Machine/Fabric.lean ====
section
/-! DEFINITION. Fabric and collective instructions, packets, the root switch, replies and timeouts (R206, R323 to R345, R449, R450). -/
namespace Sys2Proof.Machine

/-- The ordering lane of an address (R221). -/
def laneOf (a : Nat) : Nat := bits a 8 3 ^^^ bits a 11 3 ^^^ bits a 14 2

-- Packets: the header is Table 15.3's; how a payload lays out what Table 15.4 says it carries is the model's (log 20)

/-- LEN: the payload in units of 16 bytes. -/
def packetLen (p : Packet) : Nat := (p.payload.length + 15) / 16

/-- The 32 bytes of a fabric header (Table 15.3). -/
def packetHeader (p : Packet) : List Byte :=
  bytesOf p.ty 1 ++ bytesOf (packetLen p) 1 ++ bytesOf p.dpkg 2 ++ bytesOf p.spkg 2 ++ bytesOf p.djob 2 ++ bytesOf p.tag 4 ++ bytesOf p.opc 1
    ++ bytesOf p.ord 1 ++ bytesOf p.cnt 2 ++ bytesOf p.ta 8 ++ bytesOf p.aux 8

/-- The bytes of a fabric packet (R328). -/
def packetBytes (p : Packet) : List Byte := packetHeader p ++ fillUnits p.payload

/-- The packet that bytes hold (R328). -/
def packetOf (bs : List Byte) : Packet :=
  { ty := leAt bs 0 1, dpkg := leAt bs 2 2, spkg := leAt bs 4 2, djob := leAt bs 6 2, tag := leAt bs 8 4, opc := leAt bs 12 1, ord := leAt bs 13 1,
    cnt := leAt bs 14 2, ta := leAt bs 16 8, aux := leAt bs 24 8, payload := (bs.drop 32).take (16 * leAt bs 1 1) }

/-- The die-to-die packet that carries a request to the gateway, which converts it (R327, R329): ADDR holds TA and, above it, DPKG (log 20). -/
def packetDie (p : Packet) : DiePacket :=
  let src := bits p.tag 22 3 * 8192 + bits p.tag 13 9 * 16
  ⟨⟨p.ty, packetLen p, src, bits p.tag 0 13, p.ord, p.opc, p.ta % 2 ^ 48 + p.dpkg * 2 ^ 48⟩, fillUnits p.payload⟩

/-- TAG of an entry: generation, entry, requester, die (Table 15.3). -/
def tagOf (t : Tag) : Nat :=
  let die := if 768 ≤ t.tbl then (t.tbl - 768) / 48 else t.tbl / 192
  let req := if 768 ≤ t.tbl then 192 + (t.tbl - 768) % 48 else t.tbl % 192
  t.gen + 16 * t.ent + 8192 * req + 4194304 * die
/-- The entry a TAG names; none for another requester. -/
def entryOf (tag : Nat) : Option Tag :=
  let req := bits tag 13 9
  let die := bits tag 22 3
  if req < 192 then some ⟨192 * die + req, bits tag 4 9, bits tag 0 4⟩
  else if req < 240 then some ⟨768 + 48 * die + (req - 192), bits tag 4 9, bits tag 0 4⟩
  else none
/-- TAG of operation n of a collective engine. -/
def collTag (n die : Nat) : Nat := 16 * (n % 512) + 8192 * 260 + 4194304 * die

/-- Two packets of one outbound order queue: destination package and lane (R329). -/
def sameLane (p q : Packet) : Bool := p.dpkg = q.dpkg && p.spkg = q.spkg
/-- Two packets of one inbound order queue: source package and lane (R329). -/
def sameSource (p q : Packet) : Bool := p.spkg = q.spkg && bits p.dpkg 9 3 = bits q.dpkg 9 3
/-- Packets this package has sent to itself, each the first of its order queue (R324, R329); a reduction's result is its members' alone. -/
def loopReady (s : State) (p : Packet) : Bool :=
  match s.fout.find? (sameLane p) with
  | some q => q = p && bits p.dpkg 0 9 = p.spkg && p.ty ≠ 0x13
  | none => false
/-- An earlier packet of its inbound queue still waits (R221, R329), or the gateway's island is not up (R12). -/
def mustWait (s : State) (p : Packet) : Bool :=
  !islandUp s 21 || match s.fin.find? (sameSource p) with
  | some q => q ≠ p
  | none => false
/-- Take a packet that is served: off the loop or the queue of those that wait; another comes from outside. -/
def takePacket (s : State) (p : Packet) : State :=
  if loopReady s p then { s with fout := s.fout.erase p } else { s with fin := s.fin.erase p }
/-- A packet that cannot be served yet waits at its target. -/
def holdPacket (s : State) (p : Packet) : State := if loopReady s p || s.fin.contains p then s else { s with fin := s.fin ++ [p] }
/-- Send a packet. -/
def sendPacket (s : State) (p : Packet) : State := { s with fout := s.fout ++ [p] }

/-- A packet for another package leaves, the first of its order queue (R329). -/
def depart (s : State) (k : Nat) : State :=
  match s.fout[k]? with
  | some p => if islandUp s 21 && s.fout.find? (sameLane p) = some p && (bits p.dpkg 0 9 ≠ p.spkg || p.ty = 0x13) then
      { s with fout := s.fout.eraseIdx k, gone := s.gone ++ [p] } else s
  | none => s

/-- One lane's item of a payload: the offset in the granule, and what the lane's operation needs. -/
def laneItem (p : Piece) : List Byte :=
  let off : List Byte := bytesOf (p.va % 256) 1
  match p.op with
  | .read n => off ++ bytesOf n 1
  | .write bs => off ++ bytesOf bs.length 1 ++ bs
  | .atom _ x _ => off ++ bytesOf x.toNat 4
  | .cas e x => off ++ bytesOf e.toNat 4 ++ bytesOf x.toNat 4
  | .cas64 _ _ => off

/-- The bytes a granule's lanes store: where two lanes write one byte, the higher lane's stands (R192). -/
def laneBytes (g : List Piece) : Tab (Option Byte) :=
  g.foldl (fun m p => match p.op with
    | .write bs => bs.zipIdx.foldl (fun m b => Tab.set none m (p.va % 256 + b.2) (some b.1)) m
    | _ => m) []

/-- The run of valid bytes from an offset on, at most f. -/
def runFrom (m : Tab (Option Byte)) : Nat → Nat → List Byte
  | 0, _ => []
  | f + 1, i => match Tab.get none m i with
    | some b => b :: runFrom m f (i + 1)
    | none => []

/-- The runs of valid bytes from an offset on, of at most 128 bytes each: offset, length, bytes. -/
def runItems (m : Tab (Option Byte)) : Nat → Nat → List Byte
  | 0, _ => []
  | f + 1, i =>
    match runFrom m 128 i with
    | [] => runItems m f (i + 1)
    | r => bytesOf i 1 ++ bytesOf r.length 1 ++ r ++ runItems m f (i + r.length)

/-- The payload of a granule's stores. -/
def storeItemsOf (g : List Piece) : List Byte := runItems (laneBytes g) 256 0

/-- The stores of a payload: offset and bytes; a length of 0 ends them. -/
def storeItems : Nat → List Byte → List (Nat × List Byte)
  | 0, _ => []
  | f + 1, o :: n :: rest => if n = 0 then [] else (o.toNat, rest.take n.toNat) :: storeItems f (rest.drop n.toNat)
  | _, _ => []

/-- The reads of a payload: offset and length; a length of 0 ends them. -/
def readItems : Nat → List Byte → List (Nat × Nat)
  | 0, _ => []
  | f + 1, o :: n :: rest => if n = 0 then [] else (o.toNat, n.toNat) :: readItems f rest
  | _, _ => []

/-- The most lanes of one granule that one packet carries: a read and a store all of them, an atomic what 25 units hold (log 20). -/
def packetLanes (ty : Nat) : Nat := if ty = 4 then 64 else if ty = 5 then 40 else 96

-- Trains: a collective's data over several packets of one order queue, each with a head unit and at most 384 bytes (log 20)

/-- The packets of a train: each carries its head, which ends in the offset of its data, and its part of the data. -/
def train (p : Packet) (head bs : List Byte) : List Packet :=
  let part (k : Nat) : Packet := { p with payload := head ++ bytesOf (384 * k) 4 ++ fillUnits ((bs.drop (384 * k)).take 384) }
  (List.range (max 1 ((bs.length + 383) / 384))).map part

/-- Two packets of one train. -/
def sameTrain (p q : Packet) : Bool := { p with payload := [] } = { q with payload := [] } && p.payload.take 12 = q.payload.take 12

/-- The packet is the last of a train of so many bytes. -/
def lastOf (p : Packet) (total : Nat) : Bool := decide (total ≤ leAt p.payload 12 4 + 384)

/-- The packets of a train that wait for its end. -/
def waiting (s : State) (p : Packet) : List Packet := s.rx.filter (sameTrain p)

/-- The data of a train that is whole. -/
def trainData (s : State) (p : Packet) (total : Nat) : List Byte := ((waiting s p ++ [p]).flatMap (fun q => q.payload.drop 16)).take total

/-- A packet of a train that is not whole yet is kept. -/
def keepPart (s : State) (p : Packet) : State := { s with rx := s.rx ++ [p] }
/-- A train that is whole is taken. -/
def dropTrain (s : State) (p : Packet) : State := { s with rx := s.rx.filter (fun q => !sameTrain p q) }

-- Issue

/-- The issuer's partition. -/
def Ctx.part (c : Ctx) : Part := c.s.part c.t.part

/-- The checks of a remote address for one access (R324): the cause and the address. -/
def remoteCheck (x : Part) (base : Addr) (ta al : Nat) : Option (Nat × Addr) :=
  let va : Addr := BitVec.ofNat 64 (bits base.toNat 48 16 * 2 ^ 48 + ta)
  if bits base.toNat 57 7 ≠ 0 then some (0x10, va)
  else if !x.den || x.dlast < bits base.toNat 48 9 then some (0x31, va)
  else if ta % al ≠ 0 then some (0x14, va)
  else none

/-- The target address of a lane (R324). -/
def Ctx.ta (c : Ctx) (disp : Addr) (l : Nat) : Nat :=
  (bits (c.pair (Ctx.sn c.o.a)).toNat 0 48 + (c.src c.o.b l).toNat + disp.toNat) % 2 ^ 48

/-- A packet of the issuer to a package. -/
def Ctx.packet (c : Ctx) (ty pkg ta cnt opc aux : Nat) (payload : List Byte) : Packet :=
  let lane := laneOf ta
  { ty := ty, dpkg := pkg + 512 * lane, spkg := c.part.self_, djob := c.part.djob, tag := 0, opc := opc,
    ord := c.o.mod / 32 + (if c.ordered then (if ty = 1 then 16 else if ty = 2 || ty = 3 then 8 else 24) else 0), cnt := cnt, ta := ta, aux := aux,
    payload := fillUnits payload }

/-- Allocate an entry for each packet and send it; none where the table has too few (R204, R331). -/
def emitRemote (c : Ctx) (s : State) (kind : ReqKind) (q : List (Nat × Nat × Nat)) (gs : List (List Piece × Packet)) :
    Option (State × List Tag) :=
  let tbl := tblOf c.sid
  match freeEntries s tbl gs.length with
  | none => none
  | some es =>
    let tags := es.map (fun e => (⟨tbl, e, (genOf s tbl e).1⟩ : Tag))
    let one (s : State) (g : Tag × List Piece × Packet) : State :=
      let e : Entry := { newEntry s c.t c.sid c.p.id c.pc c.p.hdr kind g.2.1 q with
        inTry := false, loop := if kind ≠ .message && bits g.2.2.dpkg 0 9 = g.2.2.spkg then targetPart s g.2.2.djob else none }
      let s := sendPacket { s with ott := Tab.set none s.ott (entKey tbl g.1.ent) (some e) } { g.2.2 with tag := tagOf g.1 }
      let s := s.onWire [packetDie { g.2.2 with tag := tagOf g.1 }]
      if counts kind then s.modStream c.sid (fun t => { t with outst := t.outst + 1 }) else s
    some ((tags.zip gs).foldl one s, tags)

/-- A request to SELF reaches bytes that an earlier access of its lane, or one that the issuer knows of, still has to reach by the cluster port
(R214, R217, R324). -/
def Ctx.portHeld (c : Ctx) (gs : List (List Piece × Packet)) : Bool :=
  gs.any (fun g => bits g.2.dpkg 0 9 = g.2.spkg && (targetPart c.s g.2.djob).any (fun t => g.1.any (fun a => match lookup c.s t a.va with
    | .ok l => c.s.ott.any (fun e => e.2.any (fun x => !remoteKind x.kind && x.kind ≠ .persist && x.pieces.any (fun p =>
          c.after x a.lane p && meet p.spa p.size l.spa a.size)))
        || c.s.drains.any (fun d => ((d.sid = c.sid && !d.gone) || knows c.t.know d.sid d.born) && meet d.addr 32 l.spa a.size)
    | .error _ => false)))

/-- Send the packets of an instruction and note its acquire. -/
def remoteSend (c : Ctx) (kind : ReqKind) (acq : Bool) (gs : List (List Piece × Packet)) : Eff :=
  if c.portHeld gs then .wait else
  let (s1, q) := reserve c c.s gs.length
  match emitRemote c s1 kind q gs with
  | none => .wait
  | some (s2, tags) => .ok (if acq then s2.modStream c.sid (fun t => { t with acq := t.acq ++ tags }) else s2) []

/-- The packets' worth of lanes of each granule, in lane order. -/
def lanesBy (n : Nat) (gs : List (List Piece)) : List (List Piece) := gs.flatMap (fun g => chunks n g.length g)

/-- The lanes of a remote instruction, checked, grouped by granule, each packet's lanes with it (R324, R331). -/
def remoteLanes (c : Ctx) (ty : Nat) (disp : Addr) (al : Nat) (op : Nat → MemOp) (dst : Nat → Dst) (pkt : Nat → List Piece → Packet)
    (go : List (List Piece × Packet) → Eff) : Eff :=
  let base := c.pair (Ctx.sn c.o.a)
  match c.act.list.findSome? (fun l => remoteCheck c.part base (c.ta disp l) al) with
  | some f => .trap f.1 f.2 0
  | none =>
    let ps : List Piece := c.act.list.map (fun l => ⟨l, c.ta disp l, c.ta disp l, op l, dst l, []⟩)
    go ((lanesBy (packetLanes ty) (byGranule ps)).map (fun g => (g, pkt ((g.head?.map (fun p => p.va / 256 * 256)).getD 0) g)))

/-- The package of a remote base. -/
def Ctx.pkg (c : Ctx) : Nat := bits (c.pair (Ctx.sn c.o.a)).toNat 48 9
/-- Items of several lanes. -/
def items (g : List Piece) : List Byte := g.flatMap laneItem

/-- LDR (R331). -/
def ldrMeaning (c : Ctx) : Eff :=
  if c.held false then .wait
  else remoteLanes c 1 (dispOf c.o.c) (typeSize c.ty) (fun _ => .read (typeSize c.ty)) (fun l => .v c.dReg l c.ty)
    (fun ta g => c.packet 1 c.pkg ta 0 0 0 (items g)) (remoteSend c .remoteLoad c.ordered)

/-- STF (R332). -/
def stfMeaning (c : Ctx) : Eff :=
  let f := bits (c.pair (Ctx.sn c.o.c)).toNat 0 48
  if c.held c.ordered then .wait
  else remoteLanes c 3 0 (typeSize c.ty) (fun l => .write (storeBytes c.ty (c.vec c.o.d l))) (fun _ => .none)
    (fun ta g => c.packet 3 c.pkg ta g.length 0 f (storeItemsOf g))
    (fun gs => if f % 8 ≠ 0 then .trap 0x14 (BitVec.ofNat 64 f) 0 else remoteSend c .remoteStore false gs)

/-- The payload of an atomic: the issuer's mode, how many items, and they (log 20). -/
def atomItems (mode : Word) (g : List Piece) : List Byte := bytesOf mode.toNat 4 ++ bytesOf g.length 1 ++ items g

/-- ATOMR and CASR (R333). -/
def atomrMeaning (c : Ctx) (ty opc : Nat) (op : Nat → MemOp) : Eff :=
  if c.held c.ordered then .wait
  else remoteLanes c ty 0 4 op c.atomDst (fun ta g => c.packet ty c.pkg ta 0 opc 0 (atomItems c.mode g)) (remoteSend c .remoteAtomic c.ordered)

/-- Every earlier V access of the course is acknowledged or returned, and what BAR ordered before it has left the port (R217, R334). -/
def Ctx.released (c : Ctx) : Bool := c.t.acq.isEmpty && !loadsOut c.s c.sid && c.t.outst = 0 && !c.othersOut

/-- FLAGW (R334). -/
def flagwMeaning (c : Ctx) : Eff :=
  let base := c.pair (Ctx.sn c.o.a)
  let ta := bits base.toNat 0 48
  if !c.released then .wait
  else match remoteCheck c.part base ta 8 with
    | some f => .trap f.1 f.2 0
    | none => remoteSend c .remoteStore false [([⟨0, ta, ta, .write [], .none, []⟩], c.packet 6 c.pkg ta 0 0 0 (bytesOf (c.uni c.o.b).toNat 8))]

/-- MSG (R336). -/
def msgMeaning (c : Ctx) : Eff :=
  let p := (c.uni c.o.a).toNat
  if !c.released then .wait
  else if 512 ≤ p || !c.part.den || c.part.dlast < p then .trap 0x31 0 0
  else remoteSend c .message false [([], c.packet 7 p 0 0 0 (bits (c.uni c.o.b).toNat 0 16)
    ((List.range 96).flatMap (fun l => bytesOf (if c.act.has l then c.vec c.o.d l else 0).toNat 4)))]

/-- MSGQ (R337). -/
def msgqMeaning (c : Ctx) : Eff :=
  .ok (if c.o.mod = 1 then c.s.modStream c.sid (fun t => { t with msgst := 0 }) else c.s) [.s (Ctx.sn c.o.d) c.t.msgst]

-- Groups and collectives

/-- This package's membership of a group for a partition: the group and the member index (R338). -/
def memberOf (s : State) (x : Part) (g : Nat) : Option (Group × Nat) :=
  match Tab.get none s.gcopy g with
  | some e => if g < 4096 && e.djob = x.djob then (e.members.findIdx? (fun m => m = x.self_)).map (fun i => (e, i)) else none
  | none => none

/-- GRPQ (R338, Table 15.7a). -/
def grpqWord (c : Ctx) : Word :=
  match memberOf c.s c.part (c.uni c.o.a).toNat with
  | some (e, i) => wd (2 ^ 31 + i * 2 ^ 20 + e.members.length * 1024)
  | none => 0

/-- The fields of a collective descriptor (Table 15.8). -/
def collOf (bs : List Byte) : Coll :=
  ⟨leAt bs 0 2, leAt bs 2 1, leAt bs 3 1, leAt bs 4 1, leAt bs 8 4, leAt bs 16 8, leAt bs 24 8, leAt bs 32 8, leAt bs 40 8⟩

/-- A descriptor keeps the limits of Table 15.8 (R339). -/
def collOk (red : Bool) (d : Coll) (bs : List Byte) : Bool :=
  let fmt (n : Nat) : Bool := n = 0 || n = 2
  leAt bs 5 3 = 0 && leAt bs 12 4 = 0 && leAt bs 48 16 = 0 && d.res % 16 = 0
    && d.group ≤ 4095 && (if red then d.rop ≤ 2 && fmt d.sfmt && fmt d.dfmt && 1 ≤ d.count && d.count ≤ 16384 && d.flag = 0
        else d.rop = 0 && d.sfmt = 0 && d.dfmt = 0 && d.count % 4 = 0 && 4 ≤ d.count && d.count ≤ 65536 && d.flag % 8 = 0)

/-- The width of a collective's element. -/
def collW (f : Nat) : Nat := if f = 2 then 2 else 4
/-- The runs a collective reads, and those it writes, on this package (R339). -/
def collRuns (red : Bool) (d : Coll) : List (Nat × Nat) × List (Nat × Nat) :=
  let res := if d.res = 0 then [] else [(d.res, 16)]
  if red then ([(d.src, d.count * collW d.sfmt)], (d.dst, d.count * collW d.dfmt) :: res) else ([(d.src, d.count)], res)

/-- Operations in the collective queue of a die (R339). -/
def collOps (s : State) (die : Nat) : Nat := (s.eops.filter (fun e => match e.2 with
  | some x => x.die = die && x.kind.collective
  | none => false)).length

/-- MCST and MCRED (R339). -/
def collMeaning (c : Ctx) (red : Bool) : Eff :=
  let va := (c.pair (Ctx.sn c.o.a) + dispOf c.o.c).toNat
  match readAtIssue c va 64 64 with
  | .error e => e
  | .ok bs =>
    let d := collOf bs
    if !collOk red d bs then .trap 0x35 0 0
    else if (memberOf c.s c.part d.group).isNone then .trap 0x36 0 0
    else
      let (rd, wr) := collRuns red d
      match boxFault c.s c.who Acc.read 1 rd, boxFault c.s c.who Acc.write 1 wr with
      | some f, none => c.faulted f (c.readBlocked f.addr.toNat)
      | none, some f => c.faulted f (c.readBlocked f.addr.toNat)
      | some f, some g =>
        if g.rank < f.rank || (g.rank = f.rank && g.addr.toNat < f.addr.toNat) then c.faulted g (c.readBlocked g.addr.toNat) else c.faulted f (c.readBlocked f.addr.toNat)
      | none, none =>
        if runsBlocked c.s c.t.part (rd ++ wr) then c.readBlocked (firstBlocked c.s c.t.part (rd ++ wr))
        else if 64 ≤ collOps c.s (dieOf c.cl) || 255 ≤ pend (c.t.cbAt (Ctx.fn c.o.d)) then .wait
        else
          let s := countRuns c.s c.t.part (runs c.s c.who Acc.read va 64)
          let x := c.newOp (if red then .mcred else .mcst) Shape.zero Shape.zero Shape.zero d none
          .ok (({ c with s := s } : Ctx).enqueue { x with pages := pagesFor c.s c.who Acc.read rd ++ pagesFor c.s c.who Acc.write wr }) []

-- A target

/-- A remote access to n bytes at TA (R325): the physical address, or the code of Table 9.3 or 15.7. -/
def remoteAccess (s : State) (p : Nat) (acc : Acc) (ta n : Nat) : Except Nat Nat :=
  match access s ⟨p, 0, 0, 0⟩ { acc with onHost := some 0x16 } ta n 1 with
  | .error f => .error f.code
  | .ok spa => match lookup s p ta with
    | .ok l => if l.size < 16 then .error 0x34 else .ok spa
    | .error c => .error c

/-- The answer to a packet. -/
def answerTo (p : Packet) (ty opc : Nat) (payload : List Byte) : Packet :=
  { ty := ty, dpkg := p.spkg + 512 * bits p.dpkg 9 3, spkg := bits p.dpkg 0 9, djob := p.djob, tag := p.tag, opc := opc, ord := 0, cnt := 0, ta := 0,
    aux := 0, payload := fillUnits payload }

/-- Serve a request: an earlier one of its queue or a blocked page holds it, no partition answers NOJOB, and the rest is the request's own
(R202, R221, R325, R329). -/
def serve (s : State) (p : Packet) (ty : Nat) (go : State → Nat → State × Packet) : State :=
  if p.ty ≠ ty then s
  else if mustWait s p then holdPacket s p
  else match targetPart s p.djob with
    | none => sendPacket (takePacket s p) (answerTo p 0x12 0 [])
    | some t =>
      if unready s t p.ta 256 || (ty = 3 && unready s t p.aux 8) then holdPacket s p
      else
        let r := go (takePacket s p) t
        sendPacket r.1 r.2

/-- RD_PACKET (R325, R331). -/
def serveRead (s : State) (p : Packet) : State :=
  serve s p 1 (fun s t => match remoteAccess s t Acc.read p.ta 256 with
    | .error c => (s, answerTo p 0x12 c [])
    | .ok spa =>
      let its := readItems p.payload.length p.payload
      if its.any (fun i => ueAt s (spa + i.1) (max 1 i.2)) then (s, answerTo p 0x12 0x1C [])
      else ((countAccess s t spa).wireReads (gatewaySender p.tag) (its.map (fun i => (spa + i.1, i.2))),
        answerTo p 0x10 0 (its.flatMap (fun i => s.readMem (spa + i.1) i.2))))

/-- The stores of a payload at a granule. -/
def putItems (s : State) (spa : Nat) (payload : List Byte) : State :=
  (storeItems payload.length payload).foldl (fun s i => s.writeMem (spa + i.1) i.2) s

/-- The gateway's writes of a payload at a granule (R327). -/
def putWire (s : State) (p : Packet) (spa : Nat) : State :=
  let its := storeItems p.payload.length p.payload
  s.exchange (gatewaySender p.tag) (its.map (fun i => ⟨0, 0, spa + i.1, .write i.2, .none, []⟩)) (its.map (fun _ => [])) false

/-- The gateway's flag add, and its acknowledgement (R327). -/
def flagWire (s : State) (p : Packet) (spa n : Nat) : State :=
  let x := gatewaySender p.tag
  s.onWire (if x.crosses spa then [diePacket x 6 0 0 spa (bytesOf n 8), diePacket x 0x11 0 0 spa []] else [])

/-- WR_PACKET (R335). -/
def serveWrite (s : State) (p : Packet) : State :=
  serve s p 2 (fun s t => match remoteAccess s t Acc.write p.ta 256 with
    | .error c => (s, answerTo p 0x12 c [])
    | .ok spa => (putWire (countAccess (putItems s spa p.payload) t spa) p spa, answerTo p 0x11 0 []))

/-- A 64-bit flag rises (R332, R334). -/
def addFlag (s : State) (spa n : Nat) : State := s.writeMem spa (bytesOf ((ofBytes (s.readMem spa 8) + n) % 2 ^ 64) 8)

/-- WRF_PACKET (R332): the data is written before the flag. -/
def serveFlagged (s : State) (p : Packet) : State :=
  serve s p 3 (fun s t => match remoteAccess s t Acc.write p.ta 256, remoteAccess s t (Acc.atomic false) p.aux 8 with
    | .ok spa, .ok f =>
      if ueAt s f 8 then (s, answerTo p 0x12 0x1C [])
      else (flagWire (putWire (countAccess (countAccess (addFlag (putItems s spa p.payload) f p.cnt) t spa) t f) p spa) p f p.cnt, answerTo p 0x11 0 [])
    | .error c, _ => (s, answerTo p 0x12 c [])
    | _, .error c => (s, answerTo p 0x12 c []))

/-- Items of a fixed size applied in lane order; the old values (R333). -/
def applyItems (s : State) (spa n : Nat) (payload : List Byte) (op : Nat → List Byte → MemOp) : State × List Byte :=
  (chunks n payload.length payload).foldl (fun (acc : State × List Byte) x =>
    let r := performPiece acc.1 ⟨0, 0, spa + leAt x 0 1, op (leAt x 1 4) x, .none, []⟩
    (r.1, acc.2 ++ r.2.1)) (s, [])

/-- AT_PACKET and CS_PACKET (R333): the items after the mode and their number. -/
def serveAtomic (s : State) (p : Packet) (ty n : Nat) (op : Nat → List Byte → MemOp) : State :=
  let its := (p.payload.drop 5).take (n * leAt p.payload 4 1)
  serve s p ty (fun s t => match remoteAccess s t (Acc.atomic false) p.ta 256 with
    | .error c => (s, answerTo p 0x12 c [])
    | .ok spa =>
      if (chunks n its.length its).any (fun x => ueAt s (spa + leAt x 0 1) 4) then (s, answerTo p 0x12 0x1C [])
      else
        let r := applyItems s spa n its op
        let ps : List Piece := (chunks n its.length its).map (fun x => ⟨0, 0, spa + leAt x 0 1, op (leAt x 1 4) x, .none, []⟩)
        ((countAccess r.1 t spa).exchange (gatewaySender p.tag) ps (chunks 4 r.2.length r.2) false, answerTo p 0x11 0 r.2))

/-- FLG_PACKET (R334). -/
def serveFlag (s : State) (p : Packet) : State :=
  serve s p 6 (fun s t => match remoteAccess s t (Acc.atomic false) p.ta 8 with
    | .error c => (s, answerTo p 0x12 c [])
    | .ok f => if ueAt s f 8 then (s, answerTo p 0x12 0x1C []) else (flagWire (countAccess (addFlag s f (leAt p.payload 0 8)) t f) p f (leAt p.payload 0 8), answerTo p 0x11 0 []))

-- Answers at the issuer

/-- An answer that this package sent to itself leaves the loop. -/
def takeAnswer (s : State) (tbl ent gen : Nat) : State :=
  { s with fout := s.fout.filter (fun p => !((p.ty = 0x10 || p.ty = 0x11) && bits p.dpkg 0 9 = p.spkg && p.tag = tagOf ⟨tbl, ent, gen⟩)) }

/-- MSGST counts an answer of a message (R337, Table 15.6). -/
def countMsg (w : Word) (ok : Bool) : Word :=
  if ok then wd ((w.toNat / 65536 + 1) % 65536 * 65536 + w.toNat % 65536) else wd (w.toNat / 65536 * 65536 + (w.toNat % 65536 + 1) % 65536)

/-- The gateway passes the answer to a fabric request on to its issuer's die (R327). -/
def answerWire (s : State) (t : Tag) (ty opc : Nat) (data : List Byte) : State :=
  match Tab.get none s.ott (entKey t.tbl t.ent) with
  | some e => if remoteKind e.kind then s.onWire [diePacket t.sender ty 0 opc 0 data] else s
  | none => s

/-- REPLY_ARRIVAL (R206, R331). -/
def replyArrives (s : State) (tbl ent gen : Nat) (data : List Byte) : State :=
  answer (answerWire (takeAnswer s tbl ent gen) ⟨tbl, ent, gen⟩ 0x10 0 data) tbl ent gen (fun k => k = .load || k = .atomic || k = .remoteLoad || k = .remoteAtomic) data

/-- STORE_ACK (R203, R332, R337). -/
def ackArrives (s : State) (tbl ent gen : Nat) : State :=
  let s := answerWire (takeAnswer s tbl ent gen) ⟨tbl, ent, gen⟩ 0x11 0 []
  let s := match Tab.get none s.ott (entKey tbl ent) with
    | some e => if e.kind = .message && !e.gone && (genOf s tbl ent).1 = gen then s.modStream e.sid (fun t => { t with msgst := countMsg t.msgst true }) else s
    | none => s
  answer s tbl ent gen (fun k => k = .store || k = .persist || k = .remoteStore || k = .message) []

/-- The started multicast of a collective engine that a TAG names. -/
def collOfTag (s : State) (tag : Nat) : Option (Nat × EngOp) :=
  s.eops.findSome? (fun e => match e.2 with
    | some x => if x.kind = .mcst && x.started && collTag e.1 x.die = tag then some (e.1, x) else none
    | none => none)

/-- The stop record of a failed multicast names the lowest member that failed (R341). -/
def failMcst (s : State) (n : Nat) (x : EngOp) (member : Nat) : State := faultOp s n { x with unit := member } 0x32 0

/-- A member answers a multicast, with 0 for an acknowledgement or the code of its NACK; the first answer stands (R341). -/
def memberAnswers (s : State) (n : Nat) (x : EngOp) (member code : Nat) : State :=
  s.setEop n (some { x with ans := if x.ans.any (fun a => a.1 = member) then x.ans else x.ans ++ [(member, code)] })

/-- The member index of a package in a multicast's group. -/
def memberIdx (s : State) (x : EngOp) (pkg : Nat) : Nat :=
  match Tab.get none s.gcopy x.coll.group with
  | some g => (g.members.findIdx? (fun m => m = pkg)).getD 0
  | none => 0

/-- A member of a started multicast acknowledges it (R341). -/
def mcstAck (s : State) (n member : Nat) : State :=
  match s.eop? n with
  | some x => if x.kind = .mcst && x.started then memberAnswers s n x member 0 else s
  | none => s

/-- NACK_PACKET (R331, R332, R336, R341). -/
def nackArrives (s : State) (p : Packet) : State :=
  let s := { s with fout := if bits p.dpkg 0 9 = p.spkg then s.fout.erase p else s.fout, fin := s.fin.erase p }
  match entryOf p.tag with
  | none => match collOfTag s p.tag with
    | some (n, x) => memberAnswers s n x (memberIdx s x p.spkg) (if p.opc = 0 then 0x33 else p.opc)
    | none => s
  | some t =>
    let s := answerWire s t 0x12 p.opc []
    match Tab.get none s.ott (entKey t.tbl t.ent) with
    | none => lateReply s (tblPart s t.tbl)
    | some e =>
      if (genOf s t.tbl t.ent).1 ≠ t.gen then lateReply s (tblPart s t.tbl)
      else if !remoteKind e.kind then s
      else if e.kind = .message then
        let s := if e.gone then s else s.modStream e.sid (fun x => { x with msgst := countMsg x.msgst false })
        freeEntry s t.tbl t.ent e
      else
        let va := match e.pieces with
          | q :: _ => BitVec.ofNat 64 q.va
          | [] => 0
        let s := freeEntry (landPoison s e) t.tbl t.ent e
        requestFault s e (if p.opc = 0 then 0x33 else 0x32) va (wd p.opc)

/-- A request met a parity error in the gateway's reorder buffers: it becomes a NACK with code MEM_UE, which goes to its issuer (R329). -/
def poisonRequest (s : State) (outbound : Bool) (k : Nat) : State :=
  let nack (p : Packet) : Packet := { answerTo p 0x12 0x1C [] with spkg := bits p.dpkg 0 9 }
  let isReq (p : Packet) : Bool := 1 ≤ p.ty && p.ty ≤ 9
  if outbound then
    match s.fout[k]? with
    | some p => if isReq p then { s with fout := s.fout.erase p, fin := s.fin ++ [nack p] } else s
    | none => s
  else match s.fin[k]? with
    | some p => if isReq p then sendPacket { s with fin := s.fin.erase p } (answerTo p 0x12 0x1C []) else s
    | none => s

/-- A reply met a parity error in the gateway: it lands poisoned (R329, R207). -/
def poisonReply (s : State) (tbl ent : Nat) : State :=
  match Tab.get none s.ott (entKey tbl ent) with
  | some e => if e.kind = .remoteLoad || e.kind = .remoteAtomic then
      freeEntry (landPoison (takeAnswer s tbl ent (genOf s tbl ent).1) e) tbl ent e else s
  | none => s

-- Multicast (R341)

/-- Bytes at a virtual address under an operation's pages. -/
def EngOp.at_ (x : EngOp) (va n : Nat) : List Nat := spasIn x.pages [(va, n)]

/-- The packets of an operation's multicast to a package: COUNT and FLAG head each (R341). -/
def mcstTrain (s : State) (n : Nat) (x : EngOp) (pkg : Nat) : List Packet :=
  let p := s.part x.part
  train { ty := 8, dpkg := pkg + 512 * laneOf x.coll.dst, spkg := p.self_, djob := p.djob, tag := collTag n x.die, opc := 0, ord := 0, cnt := 0,
          ta := x.coll.dst, aux := x.coll.group, payload := [] }
    (bytesOf x.coll.count 4 ++ bytesOf x.coll.flag 8) ((x.at_ x.coll.src x.coll.count).map s.byteAt)

/-- The first packet that leaves for the root switch as a multicast starts. -/
def mcstOf (s : State) (n : Nat) (x : EngOp) : Packet := nth ⟨0, 0, 0, 0, 0, 0, 0, 0, 0, 0, []⟩ (mcstTrain s n x (s.part x.part).self_) 0

/-- An operation that has not started may start: its partition runs, and no earlier one waits on its die (R345). -/
def mayStart (s : State) (n : Nat) (x : EngOp) : Bool :=
  !x.started && !x.stopped && islandUp s (16 + x.die) && !(s.part x.part).halted && (s.part x.part).pre = 0
    && s.eops.all (fun e => match e.2 with
      | some y => n ≤ e.1 || y.die ≠ x.die || !y.kind.collective || y.started
      | none => true)

/-- The error, if any, among an operation's source bytes. -/
def srcUe (s : State) (x : EngOp) (n : Nat) : Option (Nat × Nat) :=
  ((x.at_ x.coll.src n).findIdx? (fun a => s.ue.contains (a / 256))).map (fun i => (x.coll.src + i, nth 0 (x.at_ x.coll.src n) i))

/-- A member receives a multicast: it checks, writes, raises the flag; false where a check fails (R341). -/
def memberMcst (s : State) (t tag ta flag : Nat) (bs : List Byte) : State × Option Nat :=
  let pages := (List.range ((65535 + (bs.length + ta % 65536)) / 65536)).map (fun i => if i = 0 then ta else ta / 65536 * 65536 + 65536 * i)
  let bad := pages.findSome? (fun a => match remoteAccess s t Acc.write a 1 with
    | .error c => some c
    | .ok _ => none)
  match bad, (if flag = 0 then .ok 0 else remoteAccess s t (Acc.atomic false) flag 8) with
  | some c, _ => (s, some c)
  | none, .error c => (s, some c)
  | none, .ok f =>
    let spas := (List.range bs.length).map (fun i => match remoteAccess s t Acc.write (ta + i) 1 with
      | .ok spa => some spa
      | .error _ => none)
    let s1 := (spas.zip bs).foldl (fun s b => match b.1 with
      | some spa => s.writeMem spa [b.2]
      | none => s) s
    let s2 := (countSpas s1 t (spas.filterMap id)).wireWrites (gatewaySender tag) (spaRuns (spas.filterMap id)) bs
    if flag = 0 then (s2, none) else if ueAt s f 8 then (s, some 0x1C) else (countAccess (addFlag s2 f 1) t f, none)

/-- A started operation. -/
def findStart (s : State) (kind : EngKind) (f : Nat → EngOp → Bool) : Option (Nat × EngOp) :=
  s.eops.findSome? (fun e => match e.2 with
    | some x => if x.kind = kind && mayStart s e.1 x && f e.1 x then some (e.1, x) else none
    | none => none)

/-- The port of this package to a group's root switch is down (R343). -/
def rootDown (s : State) (g : Nat) : Bool :=
  match Tab.get none s.gcopy g with
  | some e => s.links.contains (Config.rootPort e.root)
  | none => false

/-- A collective engine reads its source (R275, R327). -/
def sourceRead (s : State) (n : Nat) (x : EngOp) (len : Nat) : State :=
  (countSpas s x.part (x.at_ x.coll.src len)).wireReads (x.sender n) (spaRuns (x.at_ x.coll.src len))

/-- A multicast starts: one copy for every member of its group that can be reached, this package included (R341). -/
def startMcst (s : State) (n : Nat) (x : EngOp) : State :=
  let self := (s.part x.part).self_
  let s1 := sourceRead (s.setEop n (some { x with started := true, since := s.clock })) n x x.coll.count
  if rootDown s x.coll.group then s1
  else
    let others := match Tab.get none s.gcopy x.coll.group with
      | some g => g.members.filter (fun m => m ≠ self && !s.absent.contains m)
      | none => []
    { s1 with fout := s1.fout ++ others.flatMap (mcstTrain s n x), fin := s1.fin ++ mcstTrain s n x self }.onWire
      ((others ++ [self]).flatMap (fun g => (mcstTrain s n x g).map packetDie))

/-- A package of this model's own partitions. -/
def ownPkg (s : State) (djob pkg : Nat) : Bool := (List.range 8).any (fun p => (s.part p).den && (s.part p).djob = djob && (s.part p).self_ = pkg)

/-- A member's answer to a multicast packet: to the operation, if it is this package's own, or out to its issuer. -/
def mcstAnswer (s : State) (p : Packet) (code : Option Nat) : State :=
  if ownPkg s p.djob p.spkg && bits p.dpkg 0 9 = p.spkg then
    match collOfTag s p.tag with
    | some (n, x) => memberAnswers s n x (memberIdx s x p.spkg) (match code with
        | none => 0
        | some 0 => 0x33
        | some c => c)
    | none => s
  else sendPacket s (match code with
    | some c => answerTo p 0x12 c []
    | none => answerTo p 0x11 0 [])

/-- MCST_PACKET (R341): an operation of this package starts; or a packet arrives at this member, which acts once it has them all. -/
def mcstArrives (s : State) (p : Packet) : State :=
  match findStart s .mcst (fun n x => mcstOf s n x = p) with
  | some (n, x) =>
    if runsBlocked s x.part [(x.coll.src, x.coll.count)] then s
    else (match srcUe s x x.coll.count with
      | some b => ueOp s n x b
      | none => startMcst s n x)
  | none =>
    let total := leAt p.payload 0 4
    let flag := leAt p.payload 4 8
    if p.ty ≠ 8 || s.fout.contains p then s
    else if mustWait s p then holdPacket s p
    else if !lastOf p total then keepPart (takePacket s p) p
    else match targetPart s p.djob with
      | none => mcstAnswer (dropTrain (takePacket s p) p) p (some 0)
      | some t =>
        if unready s t p.ta total || (flag ≠ 0 && unready s t flag 8) then holdPacket s p
        else
          let r := memberMcst (dropTrain (takePacket s p) p) t p.tag p.ta flag (trainData s p total)
          mcstAnswer r.1 p r.2

/-- An operation's result record (R340, Table 15.9); the sequence of an MCST, which has none, is free (log 4). -/
def writeRes (s : State) (x : EngOp) (status : Nat) : State :=
  if x.coll.res = 0 then s
  else
    let seq := if x.kind = .mcst then (List.range 6).map (Config.freeByte s.fresh) ++ bytesOf 0 2 else bytesOf x.seq 8
    writeSpas s (x.at_ x.coll.res 16) (bytesOf status 4 ++ bytesOf 0 4 ++ seq)

/-- The members of a multicast that have not answered, lowest first (R341). -/
def silent (s : State) (x : EngOp) : List Nat :=
  match Tab.get none s.gcopy x.coll.group with
  | some g => (List.range g.members.length).filter (fun i => !x.ans.any (fun a => a.1 = i))
  | none => []

/-- A multicast is over: every member has answered, or is known to be absent, or ATO has passed (R341, R343). -/
def mcstOver (s : State) (x : EngOp) : Bool :=
  match Tab.get none s.gcopy x.coll.group with
  | some g => (silent s x).all (fun i => s.absent.contains (nth 0 g.members i)) || decide (x.since + 800 * g.ato ≤ s.clock)
  | none => true

/-- The lowest member whose check failed (R341). -/
def mcstFailed (x : EngOp) : Option Nat :=
  let l := x.ans.filterMap (fun a => if a.2 = 0 then none else some a.1)
  match l with
  | [] => none
  | i :: r => some (r.foldl min i)

/-- The status of a multicast that is over (R341, Table 15.9). -/
def mcstStatus (s : State) (x : EngOp) : Nat :=
  match silent s x with
  | i :: _ => 1 + 65536 * i
  | [] => 0

-- Reduction in the switch (R342, R343)

/-- The contribution of an operation. -/
def contribOf (s : State) (x : EngOp) : Contrib :=
  let p := s.part x.part
  ⟨p.self_, p.djob, x.coll.rop, x.coll.sfmt, x.coll.dfmt, x.coll.count, (x.at_ x.coll.src (x.coll.count * collW x.coll.sfmt)).map s.byteAt⟩

/-- The packets of a contribution to a sequence: the operation, the formats and COUNT head each. -/
def contribTrain (c : Contrib) (tag g seq : Nat) : List Packet :=
  train { ty := 9, dpkg := 0, spkg := c.pkg, djob := c.djob, tag := tag, opc := 0, ord := 0, cnt := 0, ta := 0, aux := g + 65536 * seq, payload := [] }
    (bytesOf c.rop 1 ++ bytesOf c.sfmt 1 ++ bytesOf c.dfmt 1 ++ bytesOf 0 1 ++ bytesOf c.count 4 ++ bytesOf 0 4) c.data

/-- The first packet of an operation's contribution. -/
def mcredOf (s : State) (n : Nat) (x : EngOp) : Packet :=
  nth ⟨0, 0, 0, 0, 0, 0, 0, 0, 0, 0, []⟩ (contribTrain (contribOf s x) (collTag n x.die) x.coll.group (Tab.get 0 s.gseq x.coll.group)) 0

/-- Element e of a contribution, widened to FP32 (R342). -/
def contribAt (c : Contrib) (e : Nat) : Nat :=
  let w := collW c.sfmt
  let x := leAt c.data (w * e) w
  if w = 2 then x * 65536 else x

/-- Bits of an FP32 value that is an infinity or a NaN. -/
def nonFinite (x : Nat) : Bool := !(f32.num false x).isFin

/-- One step of the reduction (R153, R342); the switch has no mode. -/
def reduceOp (rop acc c : Nat) : Nat :=
  if rop = 0 then (f32.round 0 false (sumNum false [f32.num false acc, f32.num false c])).1
  else (fminmaxOf (rop = 1) 0 f32 acc c).1.toNat

/-- The result of one element, and whether a non-finite value met it (R342). -/
def reduceElem (rop dfmt : Nat) (cs : List Nat) : Nat × Bool :=
  match cs with
  | [] => (0, false)
  | c :: rest =>
    let r := rest.foldl (fun (a : Nat × Bool) x => (reduceOp rop a.1 x, a.2 || nonFinite x || nonFinite (reduceOp rop a.1 x))) (c, nonFinite c)
    let out := if dfmt = 2 then (bf16.round 0 false (f32.num false r.1)).1 else r.1
    (out, r.2 || (if dfmt = 2 then !(bf16.num false out).isFin else nonFinite out))

/-- The packets of a result to a member: the status, COUNT and DFMT head each. -/
def resultTo (g seq pkg djob status dfmt : Nat) (els : List Nat) : List Packet :=
  train { ty := 0x13, dpkg := pkg, spkg := pkg, djob := djob, tag := 0, opc := 0, ord := 0, cnt := 0, ta := 0, aux := g + 65536 * seq, payload := [] }
    (bytesOf status 4 ++ bytesOf els.length 4 ++ bytesOf dfmt 4) (els.flatMap (fun x => bytesOf x (collW dfmt)))

/-- The canonical NaN of a destination format. -/
def nanOf (dfmt : Nat) : Nat := if dfmt = 2 then bf16.qnan else f32.qnan

/-- Deliver a result: to this package, or out to another. -/
def deliver (s : State) (djob pkg : Nat) (ps : List Packet) : State :=
  if ownPkg s djob pkg then { s with fin := s.fin ++ ps } else { s with fout := s.fout ++ ps }

/-- The result of a sequence for a member: a status and the elements in its own DFMT and COUNT. -/
def tell (s : State) (g seq : Nat) (c : Contrib) (status : Nat) (els : List Nat) : State :=
  deliver s c.djob c.pkg (resultTo g seq c.pkg c.djob status c.dfmt els)

/-- The result where there is none: canonical NaNs, NF and a code (R342). -/
def tellNaN (s : State) (g seq : Nat) (c : Contrib) (code : Nat) : State := tell s g seq c (code + 256) (List.replicate c.count (nanOf c.dfmt))

/-- A sequence closes: mismatch before absence, each member its own DFMT and COUNT (R342, R343). -/
def closeSeq (s : State) (e : Group) (q : SwSeq) : State :=
  let cs := (List.range e.members.length).filterMap (fun i => (q.contribs.find? (fun c => c.1 = i)).map (fun c => c.2))
  let mixed := match cs with
    | [] => false
    | p :: rest => rest.any (fun c => c.sfmt ≠ p.sfmt || c.dfmt ≠ p.dfmt || c.rop ≠ p.rop || c.count ≠ p.count)
  let missing := (List.range e.members.length).find? (fun i => !q.contribs.any (fun c => c.1 = i))
  let s := { s with
    sw := s.sw.filter (fun x => x.group ≠ q.group || x.seq ≠ q.seq), swClosed := s.swClosed ++ [(q.group, q.seq, missing.getD 0)] }
  let send (s : State) (c : Contrib) : State :=
    if mixed then tellNaN s q.group q.seq c 2
    else match missing with
      | some i => tellNaN s q.group q.seq c (1 + 65536 * i)
      | none =>
        let els := (List.range c.count).map (fun k => reduceElem c.rop c.dfmt (cs.map (fun p => contribAt p k)))
        tell s q.group q.seq c (if els.any (fun x => x.2) then 256 else 0) (els.map (fun x => x.1))
  cs.foldl send s

/-- ATO, in microseconds of 800 clocks, has passed since the first contribution of a sequence (R343). -/
def SwSeq.late (q : SwSeq) (e : Group) (clock : Nat) : Bool := decide (q.first + 800 * e.ato ≤ clock)

/-- The root switch takes a contribution (R342, R343, R450): one of an absent member does not reach it; one after ATO finds its sequence closed,
and is answered at once. -/
def rootTakes (s : State) (g seq : Nat) (c : Contrib) : State :=
  match Tab.get none s.groups g with
  | none => s
  | some e => match e.members.findIdx? (fun m => m = c.pkg) with
    | none => s
    | some i =>
      if e.djob ≠ c.djob || s.absent.contains c.pkg then s
      else
        let s := match s.sw.find? (fun x => x.group = g && x.seq = seq) with
          | some q => if q.late e s.clock then closeSeq s e q else s
          | none => s
        match s.swClosed.find? (fun x => x.1 = g && x.2.1 = seq) with
        | some x => tellNaN { s with swLate := s.swLate + 1 } g seq c (1 + 65536 * x.2.2)
        | none =>
          let q := (s.sw.find? (fun x => x.group = g && x.seq = seq)).getD ⟨g, seq, s.clock, []⟩
          let q' := { q with contribs := if q.contribs.any (fun c => c.1 = i) then q.contribs else q.contribs ++ [(i, c)] }
          let s1 := { s with sw := s.sw.filter (fun x => x.group ≠ g || x.seq ≠ seq) ++ [q'] }
          if q'.contribs.length = e.members.length then closeSeq s1 e q' else s1

/-- An operation's contribution leaves the package with its sequence number (R342, R449); where the port to the root is down, the member is
absent and ends so (R343). -/
def startMcred (s : State) (n : Nat) (x : EngOp) : State :=
  let g := x.coll.group
  let seq := Tab.get 0 s.gseq g
  let c := contribOf s x
  let s1 := s.setEop n (some { x with started := true, seq := seq, since := s.clock })
  let s2 := sourceRead { s1 with gseq := Tab.set 0 s1.gseq g ((seq + 1) % 2 ^ 48) } n x (x.coll.count * collW x.coll.sfmt)
  let s2 := s2.onWire ((contribTrain c (collTag n x.die) g seq).map packetDie)
  if rootDown s g then tellNaN s2 g seq c (1 + 65536 * memberIdx s x c.pkg) else rootTakes s2 g seq c

/-- MCRD_PACKET (R342, R449): an operation of this package starts; or another member's contribution arrives at the root switch. -/
def mcredArrives (s : State) (p : Packet) : State :=
  match findStart s .mcred (fun n x => mcredOf s n x = p) with
  | some (n, x) =>
    let len := x.coll.count * collW x.coll.sfmt
    if runsBlocked s x.part [(x.coll.src, len)] then s
    else (match srcUe s x len with
      | some b => ueOp s n x b
      | none => startMcred s n x)
  | none =>
    let f (i n : Nat) : Nat := leAt p.payload i n
    let total := f 4 4 * collW (f 1 1)
    if p.ty ≠ 9 || ownPkg s p.djob p.spkg then s
    else if !lastOf p total then keepPart s p
    else rootTakes (dropTrain s p) (p.aux % 65536) (p.aux / 65536) ⟨p.spkg, p.djob, f 0 1, f 1 1, f 2 1, f 4 4, trainData s p total⟩

/-- The started reduction of this package that a result is for. -/
def mcredOfResult (s : State) (p : Packet) : Option (Nat × EngOp) :=
  s.eops.findSome? (fun e => match e.2 with
    | some x =>
      if x.kind = .mcred && x.started && !x.done && x.coll.group = p.aux % 65536 && x.seq = p.aux / 65536 && (s.part x.part).djob = p.djob
          && (s.part x.part).self_ = bits p.dpkg 0 9 then some (e.1, x) else none
    | none => none)

/-- MCRR_PACKET (R340, R342): the result, once it is whole, then the record. -/
def resultArrives (s : State) (p : Packet) : State :=
  if p.ty ≠ 0x13 || s.fout.contains p then s
  else if mustWait s p then holdPacket s p
  else match mcredOfResult s p with
    | none => takePacket s p
    | some (n, x) =>
      let total := leAt p.payload 4 4 * collW (leAt p.payload 8 1)
      if !lastOf p total then keepPart (takePacket s p) p
      else if runsBlocked s x.part (collRuns true x.coll).2 then holdPacket s p
      else
        let as := x.at_ x.coll.dst (x.coll.count * collW x.coll.dfmt)
        let s1 := (countSpas (writeSpas (dropTrain (takePacket s p) p) as (trainData s p total)) x.part as).onWire [diePacket (x.sender n) 0x13 0 0 0 p.payload]
        let s1 := s1.wireWrites (x.sender n) (spaRuns as) (trainData s p total)
        (writeRes s1 x (leAt p.payload 0 4)).setEop n (some { x with done := true })

/-- ABSENCE_WINDOW_EXPIRY (R343): ATO has passed since the first contribution, or every member that is missing is known to be absent. -/
def windowCloses (s : State) (g seq : Nat) : State :=
  match s.sw.find? (fun x => x.group = g && x.seq = seq), Tab.get none s.groups g with
  | some q, some e =>
    let missing := (List.range e.members.length).filter (fun i => !q.contribs.any (fun c => c.1 = i))
    if q.late e s.clock || missing.all (fun i => s.absent.contains (nth 0 e.members i)) then closeSeq s e q else s
  | _, _ => s

/-- The fabric's packet types (Table 15.4). -/
def knownType (ty : Nat) : Bool := (1 ≤ ty && ty ≤ 9) || (0x10 ≤ ty && ty ≤ 0x13)

/-- LDR (R331). -/
def execLdr (o : Opnds) (s : State) : Host.Outcome State Fault Refusal := issue 0xCC o s ldrMeaning

/-- STF (R332). -/
def execStf (o : Opnds) (s : State) : Host.Outcome State Fault Refusal := issue 0xCD o s stfMeaning

/-- ATOMR (R333). -/
def execAtomr (o : Opnds) (s : State) : Host.Outcome State Fault Refusal :=
  issue 0xCE o s (fun c => atomrMeaning c 4 c.ty (fun l => .atom c.ty (c.addend o.c l) c.mode))

/-- CASR (R333). -/
def execCasr (o : Opnds) (s : State) : Host.Outcome State Fault Refusal :=
  issue 0xCF o s (fun c => atomrMeaning c 5 0 (fun l => .cas (c.vec o.d l) (c.src o.c l)))

/-- FLAGW (R334). -/
def execFlagw (o : Opnds) (s : State) : Host.Outcome State Fault Refusal := issue 0xD0 o s flagwMeaning

/-- MSG (R336). -/
def execMsg (o : Opnds) (s : State) : Host.Outcome State Fault Refusal := issue 0xD1 o s msgMeaning

/-- MSGQ (R337). -/
def execMsgq32 (o : Opnds) (s : State) : Host.Outcome State Fault Refusal := issue 0xD2 o s msgqMeaning

/-- MSGQ (R337). -/
def execMsgq (o : Opnds) (s : State) : Host.Outcome State Fault Refusal := issue 0xD2 o s msgqMeaning

/-- MCST (R339, R341). -/
def execMcst (o : Opnds) (s : State) : Host.Outcome State Fault Refusal := issue 0xD3 o s (fun c => collMeaning c false)

/-- MCRED (R339, R342). -/
def execMcred (o : Opnds) (s : State) : Host.Outcome State Fault Refusal := issue 0xD4 o s (fun c => collMeaning c true)

/-- GRPQ (R338). -/
def execGrpq32 (o : Opnds) (s : State) : Host.Outcome State Fault Refusal :=
  issue 0xD5 o s (fun c => .ok c.s [.s (Ctx.sn o.d) (grpqWord c)])

/-- GRPQ (R338). -/
def execGrpq (o : Opnds) (s : State) : Host.Outcome State Fault Refusal := issue 0xD5 o s (fun c => .ok c.s [.s (Ctx.sn o.d) (grpqWord c)])

/-- RD_PACKET (R325, R331). -/
def execRdPacket (p : Packet) (s : State) : Host.Outcome State Fault Refusal := .next (serveRead s p)

/-- WR_PACKET (R335). -/
def execWrPacket (p : Packet) (s : State) : Host.Outcome State Fault Refusal := .next (serveWrite s p)

/-- WRF_PACKET (R332). -/
def execWrfPacket (p : Packet) (s : State) : Host.Outcome State Fault Refusal := .next (serveFlagged s p)

/-- AT_PACKET (R333). -/
def execAtPacket (p : Packet) (s : State) : Host.Outcome State Fault Refusal :=
  .next (serveAtomic s p 4 5 (fun x _ => .atom p.opc (wd x) (wd (leAt p.payload 0 4))))

/-- CS_PACKET (R333). -/
def execCsPacket (p : Packet) (s : State) : Host.Outcome State Fault Refusal :=
  .next (serveAtomic s p 5 9 (fun e x => .cas (wd e) (wd (leAt x 5 4))))

/-- FLG_PACKET (R334). -/
def execFlgPacket (p : Packet) (s : State) : Host.Outcome State Fault Refusal := .next (serveFlag s p)

/-- MCST_PACKET (R341). -/
def execMcstPacket (p : Packet) (s : State) : Host.Outcome State Fault Refusal := .next (mcstArrives s p)

/-- MCRD_PACKET (R342). -/
def execMcrdPacket (p : Packet) (s : State) : Host.Outcome State Fault Refusal := .next (mcredArrives s p)

/-- MCRR_PACKET (R340, R342). -/
def execMcrrPacket (p : Packet) (s : State) : Host.Outcome State Fault Refusal := .next (resultArrives s p)

/-- NACK_PACKET (R331, R336, R341). -/
def execNackPacket (p : Packet) (s : State) : Host.Outcome State Fault Refusal := .next (nackArrives s p)

/-- PACKET_DROPPED (R328). -/
def execPacketDropped (p : Packet) (s : State) : Host.Outcome State Fault Refusal :=
  .next (if knownType p.ty then s else { s with pktDrop := s.pktDrop + 1 })

/-- ABSENCE_WINDOW_EXPIRY (R343). -/
def execAbsenceWindowExpiry (group sq : Nat) (s : State) : Host.Outcome State Fault Refusal := .next (windowCloses s group sq)

/-- FLIT_REPLAY (R326): the flit goes again, and nothing else changes. -/
def execFlitReplay (_port : Nat) (s : State) : Host.Outcome State Fault Refusal := .next s

/-- A link is declared down and reported to the Wellhead: the port, the packages only it reached, and the requests it held, which are not
answered (R206, R326). -/
def linkDown (s : State) (port : Nat) (lostPkgs : List Nat) : State :=
  { s with
    links := if s.links.contains port then s.links else s.links ++ [port], absent := s.absent ++ lostPkgs.filter (fun p => !s.absent.contains p),
    fout := s.fout.filter (fun p => !lostPkgs.contains (bits p.dpkg 0 9) || bits p.dpkg 0 9 = p.spkg) }

/-- LINK_DOWN (R326). -/
def execLinkDown (port : Nat) (lostPkgs : List Nat) (s : State) : Host.Outcome State Fault Refusal :=
  .next (linkDown s port lostPkgs)

/-- REPLY_ARRIVAL (R206, R208, R331). -/
def execReplyArrival (tbl ent gen : Nat) (data : List Byte) (s : State) : Host.Outcome State Fault Refusal :=
  .next (replyArrives s tbl ent gen data)

/-- STORE_ACK (R203, R337, R341): of a table's entry; or of a multicast, by its operation and the member (log 20). -/
def execStoreAck (tbl ent gen : Nat) (s : State) : Host.Outcome State Fault Refusal :=
  .next (if tbl = engTbl then mcstAck s ent gen else ackArrives s tbl ent gen)

/-- REQUEST_TIMEOUT (R206): of a table's entry, or of an engine's operation (R263). -/
def execRequestTimeout (tbl ent : Nat) (s : State) : Host.Outcome State Fault Refusal :=
  .next (if tbl = engTbl then engineTimeout s ent else timeout s tbl ent)

end Sys2Proof.Machine
end

