-- ==== Sys2Proof/Machine/Launch.lean ====
section
/-! DEFINITION. Launch descriptors, placement, the start and the end of teams, tabs, arms and cancel (R385 to R396). -/
namespace Sys2Proof.Machine

-- Launch descriptors (R385)

/-- The allocation of a course in vector registers (R15). -/
def roundAlloc (regs tryres : Nat) : Nat := (regs + tryres + 7) / 8 * 8
/-- The course slots of one vector core at an allocation (R15). -/
def slotsAt (alloc : Nat) : Nat := if alloc = 0 then 0 else min 16 (49152 / (12 * alloc))
/-- The ranges of Table 17.5 that a team's shape keeps. -/
def teamShapeOk (courses regs tryres win : Nat) : Bool :=
  let alloc := roundAlloc regs tryres
  1 ≤ courses && courses ≤ 16 && courses ≤ 4 * slotsAt alloc && 1 ≤ regs && regs ≤ 1024 && alloc ≤ 1024 && win ≤ 6272

/-- The fields of a launch descriptor (Table 17.5). -/
def descOf (bs : List Byte) : Desc :=
  let f (o n : Nat) : Nat := leAt bs o n
  { code := BitVec.ofNat 64 (f 0 8), seqk := BitVec.ofNat 64 (f 8 8), gx := f 16 2, gy := f 18 2, gz := f 20 2, courses := f 22 1, prog := f 23 1,
    regs := f 24 2, tryres := f 26 2, win := f 28 2, idemp := bits (f 30 1) 0 1 = 1, sys := bits (f 30 1) 1 1 = 1, pri := bits (f 30 1) 2 2,
    args := BitVec.ofNat 64 (f 32 8), cnt := f 40 2 }

/-- The teams of a launch. -/
def Desc.total (d : Desc) : Nat := d.gx * d.gy * d.gz

/-- A descriptor is valid for a partition (R385). -/
def descOk (s : State) (p : Nat) (bs : List Byte) : Bool :=
  let d := descOf bs
  1 ≤ d.total && d.total ≤ 2 ^ 32 - 1 && teamShapeOk d.courses d.regs d.tryres d.win && d.prog ≤ 2 && leAt bs 30 1 < 16 && leAt bs 31 1 = 0
    && leAt bs 42 22 = 0 && ownCnt s p d.cnt

-- Launches in their queues (R386, R390): queues 0 to 127 are the host's, then the partitions' device queues and tab queues (log 34)

/-- The queue of a launch. -/
def Launch.queue (l : Launch) : Nat :=
  match l.road with
  | .host q => q
  | .device pri => 128 + 4 * l.part + pri
  | .arm _ _ _ => 128 + 4 * l.part + l.desc.pri
  | .tab _ => 160 + 4 * l.part + l.desc.pri
/-- The teams that are still to be handed out: those to start again, then the rest in increasing index. -/
def Launch.left (l : Launch) : Nat := if l.cancelled then 0 else l.redo.length + (l.desc.total - l.next)
/-- The first n of them, with their restart counts. -/
def Launch.pending (l : Launch) (n : Nat) : List (Nat × Nat) :=
  l.redo.take n ++ (List.range (min (n - l.redo.length) (l.desc.total - l.next))).map (fun i => (l.next + i, 0))
/-- The launch after its first n teams have started. -/
def Launch.started (l : Launch) (n : Nat) : Launch :=
  { l with running := l.running + n, redo := l.redo.drop n, next := l.next + (n - l.redo.length) }
/-- No team has been handed out yet. -/
def Launch.fresh (l : Launch) : Bool := l.next = 0 && l.running = 0 && l.redo.isEmpty

/-- A launch enters its queue. -/
def addLaunch (s : State) (p : Nat) (d : Desc) (road : Road) : State :=
  let id := s.nlaunch + 1
  { s.setLaunch id (some ⟨d, p, road, 0, 0, [], false, false⟩) with nlaunch := id }

/-- The launches of a queue with work to hand out, oldest first. -/
def inQueue (s : State) (w : Nat) : List (Nat × Launch) :=
  s.launches.filterMap (fun e => match e.2 with
    | some l => if l.queue = w && 0 < l.left then some (e.1, l) else none
    | none => none)
/-- The oldest launch of a queue (log 34). -/
def headOf (s : State) (w : Nat) : Option (Nat × Launch) := (inQueue s w).head?
/-- The launches that a device launch queue holds and that are not admitted. -/
def deviceHeld (s : State) (p pri : Nat) : Nat := ((inQueue s (128 + 4 * p + pri)).filter (fun e => e.2.fresh)).length

-- Placement (R386)

/-- What a cluster has free: slots and registers of each vector core, barrier slots, the sequencer. -/
structure Room where
  cl : Nat
  cores : List (Nat × Nat)
  bars : Nat
  seq : Bool
deriving DecidableEq, Repr

/-- What a team needs. -/
structure Need where
  courses : Nat
  alloc : Nat
  seq : Bool
  win : Nat
deriving DecidableEq, Repr

/-- What a launch's team needs. -/
def Desc.need (d : Desc) : Need := ⟨d.courses, roundAlloc d.regs d.tryres, d.seqk ≠ 0, d.win⟩

/-- Where a team goes: cluster, the vector core of each course, the window's first unit. -/
structure Spot where
  cl : Nat
  cores : List Nat
  win : Nat
deriving DecidableEq, Repr

/-- The unfenced clusters of a partition whose islands are up (R12, R416, R434). -/
def clustersOf (s : State) (p : Nat) : List Nat :=
  (List.range 192).filter (fun cl => (s.part p).quads.getLsbD (quadOf cl) && !(s.cluster cl).fenced && clusterUp s cl)
/-- Teams resident on a cluster. -/
def teamsOn (s : State) (cl : Nat) : List Team :=
  s.teams.filterMap (fun e => match e.2 with
    | some t => if t.cluster = cl && t.displaced.isNone then some t else none
    | none => none)
/-- A cluster with nothing in it. -/
def emptyRoom (cl : Nat) : Room := ⟨cl, List.replicate 4 (16, 4096), 16, true⟩
/-- What a cluster has free now: a team holds its slots and registers until it retires (R26). -/
def roomOf (s : State) (cl : Nat) : Room :=
  let ts := teamsOn s cl
  let core (v : Nat) : List Nat := ts.flatMap (fun t => t.slots.filterMap (fun q => if q.1 / 16 = 4 * cl + v then some q.2 else none))
  let c := s.cluster cl
  ⟨cl, (List.range 4).map (fun v => (16 - (core v).length, 4096 - (core v).foldl (· + ·) 0)), 16 - ts.length,
    ts.all (fun t => !t.seq && t.slots.all (fun q => q.1 ≠ seqBase + cl)) && (s.stream? (seqBase + cl)).isNone && c.cq.isEmpty && c.port.isEmpty⟩
/-- The windows in use on a die: first unit and units. -/
def windowsOn (s : State) (die : Nat) : List (Nat × Nat) :=
  s.teams.filterMap (fun e => match e.2 with
    | some t => if dieOf t.cluster = die && t.displaced.isNone && t.wsize ≠ 0 then some (t.wbase, t.wsize) else none
    | none => none)

/-- The lowest free run of n units in a die's pool of 6,272. -/
def fitWindow (ws : List (Nat × Nat)) (n : Nat) : Option Nat :=
  if n = 0 then some 0
  else
    let ends := 0 :: ws.map (fun w => w.1 + w.2)
    let ok (b : Nat) : Bool := b + n ≤ 6272 && ws.all (fun w => b + n ≤ w.1 || w.1 + w.2 ≤ b)
    (ends.filter ok).foldl (fun m b => match m with
      | none => some b
      | some x => some (min x b)) none

/-- Vector cores for the courses of a team, the lowest with room for each (R15). -/
def fitCores (alloc : Nat) : Nat → List (Nat × Nat) → Option (List Nat × List (Nat × Nat))
  | 0, cs => some ([], cs)
  | n + 1, cs => match cs.findIdx? (fun c => 1 ≤ c.1 && alloc ≤ c.2) with
    | none => none
    | some v =>
      let c := nth (0, 0) cs v
      (fitCores alloc n (setNth cs v (c.1 - 1, c.2 - alloc))).map (fun r => (v :: r.1, r.2))

/-- Free course slots of a cluster. -/
def Room.slots (r : Room) : Nat := r.cores.foldl (fun n c => n + c.1) 0

/-- The resources free while a placement is made: rooms, and windows by die. -/
abbrev Free := List Room × List (Nat × List (Nat × Nat))
/-- A die's windows in a placement. -/
def Free.wins (f : Free) (die : Nat) : List (Nat × Nat) := ((f.2.find? (fun e => e.1 = die)).map (fun e => e.2)).getD []

/-- A team fits into a room. -/
def fitsIn (f : Free) (n : Need) (r : Room) : Option (Spot × Room) :=
  if r.bars = 0 || (n.seq && !r.seq) then none
  else match fitCores n.alloc n.courses r.cores, fitWindow (f.wins (dieOf r.cl)) n.win with
    | some (vs, cs), some b => some (⟨r.cl, vs, b⟩, { r with cores := cs, bars := r.bars - 1, seq := r.seq && !n.seq })
    | _, _ => none

/-- One team placed: the cluster with room, most free course slots, then lowest number (R386). -/
def placeOne (f : Free) (n : Need) : Option (Spot × Free) :=
  let fits := f.1.filterMap (fun r => (fitsIn f n r).map (fun x => (r, x)))
  let best := fits.foldl (fun (m : Option (Room × Spot × Room)) x => match m with
    | none => some x
    | some y => if y.1.slots < x.1.slots || (y.1.slots = x.1.slots && x.1.cl < y.1.cl) then some x else some y) none
  best.map (fun x =>
    let die := dieOf x.1.cl
    (x.2.1, (f.1.map (fun r => if r.cl = x.1.cl then x.2.2 else r),
      if n.win = 0 then f.2 else (die, (x.2.1.win, n.win) :: f.wins die) :: f.2.filter (fun e => e.1 ≠ die))))

/-- As many of k teams as can be placed, in order. -/
def placeMany (n : Need) : Nat → Free → List Spot
  | 0, _ => []
  | k + 1, f => match placeOne f n with
    | none => []
    | some (sp, f') => sp :: placeMany n k f'

/-- The resources of some clusters now. -/
def freeNow (s : State) (cls : List Nat) : Free := (cls.map (roomOf s), (List.range 4).map (fun d => (d, windowsOn s d)))
/-- The resources of some clusters with nothing in them. -/
def freeAll (cls : List Nat) : Free := (cls.map emptyRoom, [])

/-- A placement of every team of a launch, under the resources given. -/
def placeAll (f : Free) (l : Launch) : Option (List Spot) :=
  if 16 * f.1.length < l.left then none
  else
    let sps := placeMany l.desc.need l.left f
    if sps.length = l.left then some sps else none

/-- The batch that a die can take now: as many as fit of the next 64 (R386, log 34). -/
def batchOn (s : State) (l : Launch) (die : Nat) : List Spot :=
  placeMany l.desc.need (min 64 l.left) (freeNow s ((clustersOf s l.part).filter (fun c => dieOf c = die)))

-- The start of a team (R388, R279, R462)

/-- Table 17.7 for a course or a sequencer. -/
def startScalars (d : Desc) (t idx : Nat) (s1 : Word) (tab : Option Nat) (seq : Bool) : Tab Word :=
  let base : List (Nat × Word) := [(2, d.args.setWidth 32), (3, (d.args >>> 32).setWidth 32)]
    ++ (if tab.isSome then [] else [(4, wd (t % d.gx)), (5, wd (t / d.gx % d.gy)), (6, wd (t / (d.gx * d.gy)))])
  let course : List (Nat × Word) := [(1, s1), (7, wd idx), (8, match tab with
    | some i => wd i
    | none => BitVec.allOnes 32)]
  (if seq then base else base ++ course).foldl (fun r e => Tab.set 0 r e.1 e.2) []

/-- A stream at its start: one path that has yet to enter the header at its pc (Table 5.1, R462). -/
def startStream (p team launch idx : Nat) (d : Desc) (pc : Addr) (seq : Bool) (regs : Tab Word) (tab : Option Nat) (tabw step : Word) : Stream :=
  let m : Lanes := if seq then 1 else Lanes.all
  { part := p, team := team, launch := launch, idx := idx, alloc := if seq then 0 else roundAlloc d.regs d.tryres, rg := d.regs, nsh := d.tryres,
    sys := d.sys, tab := tab, tabw := tabw, live := m, p0 := some ⟨0, pc, m, [], m, none, 0, [], 0, [], [], none, true, false, false⟩, p1 := none, arms := [],
    jm := [], lr := [], rstk := [], lost := 0, v := [], vp := [], s := regs, sp := [], q := [], sh := [], cb := [], mode := 0, fpflags := 0,
    xconf := 0, msgst := 0, step := step, tryst := 0, tryaddr := 0, abortm := 0, tr := none, abort := none, hwue := [], hnd := none, outst := 0,
    acq := [], pepoch := 0, ptag := none, hold := none, stopped := false, ended := false, nid := 1, know := [], taint := [] }

/-- A course slot is held by a team (R26). -/
def slotHeld (s : State) (sid : Nat) : Bool := s.teams.any (fun e => e.2.any (fun x => x.slots.any (fun q => q.1 = sid)))

/-- The lowest free course slot of a vector core. -/
def freeSlot (s : State) (core : Nat) : Nat :=
  ((List.range 16).find? (fun i => (s.stream? (16 * core + i)).isNone && !slotHeld s (16 * core + i))).getD 0

/-- A cluster's sequencer side at the start of a stream (R279, R306); the cells, hardware queues and counters stay. -/
def freshSequencer (c : Cluster) : Cluster :=
  { c with t := [], tc := [], chains := [], mode := false, amode := false, cq := [], rq := [], k := [], rmap := [], port := [], tue := [] }

/-- A team's window reads as zero (R388). -/
def zeroWindow (s : State) (die wbase units : Nat) : State :=
  let base := 4 * 2 ^ 40 + die * 2 ^ 30 + wbase * 65536
  let top := base + units * 65536
  { s with mem := Tab.keep (fun a => a < base || top ≤ a) s.mem, ue := s.ue.filter (fun g => g * 256 < base || top ≤ g * 256) }

/-- The tab that a launch runs. -/
def Launch.tab? (l : Launch) : Option Nat :=
  match l.road with
  | .tab i => some i
  | _ => none
/-- s1 of a launch's courses. -/
def Launch.s1 (l : Launch) : Word :=
  match l.road with
  | .arm _ _ w => w
  | _ => 0

/-- A team starts at its place (R386, R388, R279). -/
def startTeam (s : State) (id : Nat) (l : Launch) (tabw : Word) (t : Nat × Nat) (sp : Spot) : State :=
  let tm := s.nteam + 1
  let d := l.desc
  let seq := decide (d.seqk ≠ 0)
  let step := (s.part l.part).pstepmax
  let s := if d.win = 0 then s else zeroWindow s (dieOf sp.cl) sp.win d.win
  let one (acc : State × List Nat) (v : Nat × Nat) : State × List Nat :=
    let core := 4 * sp.cl + v.1
    let sid := 16 * core + freeSlot acc.1 core
    (acc.1.setStream sid (startStream l.part tm id v.2 d d.code false (startScalars d t.1 v.2 l.s1 l.tab? false) l.tab? tabw step), acc.2 ++ [sid])
  let (s, sids) := sp.cores.zipIdx.foldl one (s, [])
  let s := if seq then
      (s.modCluster sp.cl freshSequencer).setStream (seqBase + sp.cl)
        (startStream l.part tm id 0 d d.seqk true (startScalars d t.1 0 0 l.tab? true) l.tab? tabw step)
    else s
  { s.setTeam tm (some ⟨l.part, id, t.1, sp.cl, sids, sids.map (fun i => (i, roundAlloc d.regs d.tryres)), d.courses, seq, sp.win, d.win, [], t.2, false, false, none⟩) with nteam := tm }

/-- The next teams of a launch start, each at its place. -/
def startTeams (s : State) (id : Nat) (l : Launch) (tabw : Word) (sps : List Spot) : State :=
  let s := ((l.pending sps.length).zip sps).foldl (fun s x => startTeam s id l tabw x.1 x.2) s
  s.setLaunch id (some (l.started sps.length))

-- Tabs (R391 to R393)

/-- The shape of every tab (Table 17.8a). -/
def tabShape (w : Addr) : Nat × Nat × Nat × Nat × Bool :=
  let f (lo n : Nat) : Nat := bits w.toNat lo n
  (f 0 8, f 8 16, f 24 16, f 40 16, f 56 1 = 1)
/-- A value that TABCFG may take (R392). -/
def tabcfgOk (w : Addr) : Bool :=
  let (c, r, t, n, _) := tabShape w
  bits w.toNat 57 7 = 0 && teamShapeOk (max 1 c) r t n

/-- Bytes that the hub reads for a partition: aligned, translated, free of error. -/
def hubRead (s : State) (p : Nat) (acc : Acc) (va n al : Nat) : Except Flt (List Byte) :=
  match access s (ringWho p) acc va n al with
  | .error f => .error f
  | .ok _ =>
    if (runs s (ringWho p) acc va n).any (fun r => ueAt s r.1 r.2) then .error ⟨11, 0x1C, BitVec.ofNat 64 va⟩
    else .ok (readVa s (ringWho p) acc va n)
/-- Bytes that a ring, or the record of a packet, is read from. -/
def ringGet (s : State) (p va n al : Nat) : Except Flt (List Byte) := hubRead s p Acc.read va n al

/-- What an access of the tab unit needs: a translation, and no page of the extension plane (R65, log 35). -/
def tabAcc : Acc := ⟨false, false, false, some false, none, none, none⟩
/-- The address of a tab's record. -/
def tabAddr (s : State) (p i : Nat) : Nat := ((s.part p).tabbase.toNat + 32 * i) % 2 ^ 64
/-- A tab's record. -/
def tabBytes (s : State) (p i : Nat) : List Byte := readVa s (ringWho p) tabAcc (tabAddr s p i) 32
/-- The fault of the tab unit's access to a record (R65, R187, R208, log 35). -/
def tabFault (s : State) (p i : Nat) : Option Flt :=
  match hubRead s p tabAcc (tabAddr s p i) 32 1 with
  | .error f => some f
  | .ok _ => none
/-- The word at +24 of a record: JOIN and STATUS. -/
def tabWord (bs : List Byte) : Nat := leAt bs 24 4
/-- JOIN. -/
def tabJoin (bs : List Byte) : Nat := leAt bs 24 2
/-- STATE. -/
def tabState (bs : List Byte) : Nat := bits (leAt bs 26 2) 13 3
/-- PRI. -/
def tabPri (bs : List Byte) : Nat := bits (leAt bs 26 2) 10 2
/-- NIN. -/
def tabNin (bs : List Byte) : Nat := bits (leAt bs 28 4) 28 3
/-- The tile ids of the declared inputs. -/
def tabIns (bs : List Byte) : List Nat := (List.range (min 4 (tabNin bs))).map (fun k => leAt bs (16 + 2 * k) 2)
/-- The parent. -/
def tabParent (bs : List Byte) : Option Nat := if bits (leAt bs 28 4) 31 1 = 1 then some (bits (leAt bs 28 4) 0 24) else none
/-- STATUS of its parts. -/
def tabStatus (state : Nat) (can : Bool) (pri nfail : Nat) : Nat := state * 8192 + (if can then 4096 else 0) + pri * 1024 + nfail
/-- The tab unit writes JOIN and STATUS. -/
def tabPut (s : State) (p i join status : Nat) : State :=
  writeVa s (ringWho p) tabAcc (tabAddr s p i + 24) (bytesOf join 2 ++ bytesOf status 2)
/-- A ready tab enters the queue of its priority. -/
def tabReady (s : State) (p i pri : Nat) : State :=
  s.modPart p (fun x => { x with ready := Tab.set [] x.ready pri (Tab.get [] x.ready pri ++ [i]) })
/-- The counter of a tab's owner. -/
def tabOwner (s : State) (p i : Nat) : Nat := Tab.get 0 (s.part p).owner i - 1

/-- A decrement of a tab's JOIN (R393, R398): n, with NFAIL rising where it is failed and CAN set where it is cancelled. -/
def tabDecrement (s : State) (p i n : Nat) (fail can : Bool) : State :=
  let bs := tabBytes s p i
  let st := leAt bs 26 2
  if n = 0 then s
  else match tabFault s p i with
  | some f => hubFault s p f
  | none =>
  if tabState bs ≠ 1 || tabJoin bs < n then s.modPart p (fun x => { x with tabUnder := x.tabUnder + 1 })
  else
    let join := tabJoin bs - n
    let nfail := if fail then min 1023 (st % 1024 + n) else st % 1024
    let s := tabPut s p i join (tabStatus (if join = 0 then 2 else 1) (can || bits st 12 1 = 1) (tabPri bs) nfail)
    if join = 0 then tabReady s p i (tabPri bs) else s

/-- A tab enters done or failed (R393): residency bits, the parent's JOIN, the owner's counter. -/
def tabFinish (s : State) (p i : Nat) (failed can : Bool) : State :=
  let bs := tabBytes s p i
  let st := leAt bs 26 2
  let clr := (tabIns bs).zipIdx.filter (fun x => bits (leAt bs 28 4) (24 + x.2) 1 = 1)
  let s := s.modPart p (fun x => { x with
    res := clr.foldl (fun r x => Tab.set false r x.1 false) x.res,
    ready := x.ready.map (fun e => (e.1, e.2.filter (fun j => j ≠ i))), gate := x.gate.filter (fun j => j ≠ i) })
  let s := match tabFault s p i with
    | some f => hubFault s p f
    | none =>
      let s := tabPut s p i (tabJoin bs) (tabStatus (if failed then 5 else 4) (can || bits st 12 1 = 1) (tabPri bs) (st % 1024))
      match tabParent bs with
      | some q => tabDecrement s p q 1 failed can
      | none => s
  let own := tabOwner s p i
  dec (s.modPart p (fun x => { x with owner := Tab.set 0 x.owner i 0 })) own failed

/-- Every declared input of a tab is resident (R270, R393). -/
def tabResident (s : State) (p i : Nat) : Bool := (tabIns (tabBytes s p i)).all (fun t => Tab.get false (s.part p).res t)

/-- A residency bit is set: the tabs that wait at the gate are popped again (R393). -/
def setResident (s : State) (p tile : Nat) : State :=
  let s := s.modPart p (fun x => { x with res := Tab.set false x.res tile true })
  let waiting := (s.part p).gate
  let s := s.modPart p (fun x => { x with gate := [] })
  waiting.reverse.foldl (fun s i =>
    let pri := tabPri (tabBytes s p i)
    s.modPart p (fun x => { x with ready := Tab.set [] x.ready pri (i :: Tab.get [] x.ready pri) })) s

/-- The launch that a running tab is: one team of the partition's tab shape (R391, R393). -/
def tabDesc (s : State) (p i : Nat) : Desc :=
  let bs := tabBytes s p i
  let (c, r, t, n, idem) := tabShape (s.part p).tabcfg
  { code := BitVec.ofNat 64 (leAt bs 0 8), seqk := 0, gx := 1, gy := 1, gz := 1, courses := c, prog := 1, regs := r, tryres := t, win := n, idemp := idem,
    sys := false, pri := tabPri bs, args := BitVec.ofNat 64 (leAt bs 8 8), cnt := tabOwner s p i }

/-- The place of a tab on an idle cluster (R393). -/
def tabSpot (s : State) (p i cl : Nat) : Option Spot :=
  if (teamsOn s cl).isEmpty && (clustersOf s p).contains cl then (placeOne (freeNow s [cl]) (tabDesc s p i).need).map (fun x => x.1) else none

-- Decisions of the global dispatcher (R390)

/-- The partition takes new work: not halted, not pre-empted, and the dispatcher's island is up (R12, R386). -/
def admits (s : State) (p : Nat) : Bool := !(s.part p).halted && (s.part p).pre = 0 && islandUp s 20

/-- The first tab of a ready queue. -/
def frontTab (s : State) (p pri : Nat) : Option Nat := (Tab.get [] (s.part p).ready pri).head?

/-- A queue holds work that can be served. -/
def serviceable (s : State) (w : Nat) : Bool :=
  (match headOf s w with
    | some (_, l) => admits s l.part && !chainCan s l.desc.cnt
        && (if l.desc.prog = 0 && l.fresh then (placeAll (freeNow s (clustersOf s l.part)) l).isSome
            else (List.range 4).any (fun d => !(batchOn s l d).isEmpty))
    | none => false)
  || (160 ≤ w && (
    let p := (w - 160) / 4
    admits s p && (match frontTab s p (w % 4) with
      | some i => tabResident s p i && !chainCan s (tabOwner s p i) && (clustersOf s p).any (fun c => (tabSpot s p i c).isSome)
      | none => false)))

/-- The priority of a queue now: its own, less the levels it has risen. -/
def priorityOf (s : State) (w : Nat) : Nat := (if w < 128 then (s.queue w).pri else w % 4) - Tab.get 0 s.raised w
/-- A queue is due to rise (R390). -/
def agingDue (s : State) (w : Nat) : Bool := 4096 ≤ Tab.get 0 s.aging w && 0 < priorityOf s w
/-- A queue's place in the round robin of its priority: after the queue last served there (log 34). -/
def turnOf (s : State) (w : Nat) : Nat := (w + 192 - Tab.get 0 s.served (priorityOf s w)) % 192

/-- A queue may be served: it holds serviceable work, none of a higher priority does, and it is next in the round robin. -/
def mayServe (s : State) (w : Nat) : Bool :=
  serviceable s w && (List.range 192).all (fun x => !agingDue s x &&
    (x = w || !(serviceable s x) || priorityOf s w < priorityOf s x || (priorityOf s w = priorityOf s x && turnOf s w < turnOf s x)))

/-- A decision has served a queue: the counts of R390. -/
def decided (before s : State) (w : Nat) : State :=
  { s with
    aging := (List.range 192).foldl (fun a x =>
      Tab.set 0 a x (if x = w || !(serviceable before x) then 0 else min 4096 (Tab.get 0 before.aging x + 1))) [],
    raised := Tab.set 0 s.raised w 0,
    served := Tab.set 0 s.served (priorityOf before w) (w + 1) }

-- The end of a launch (R26, R389, R395, R396)

/-- No request, sector, persist request or entry, engine operation or stream slot of a launch is out, and no command of a killed stream runs (R26, R377,
R396). -/
def launchQuiet (s : State) (id : Nat) (p : Nat) : Bool :=
  !s.ott.any (fun e => e.2.any (fun x => x.launch = id)) && !s.drains.any (fun d => d.launch = id)
    && !s.pwait.any (fun r => r.live && r.launch = id) && !s.pq.any (fun r => r.launch = id) && !s.eops.any (fun e => e.2.any (fun x => x.launch = id && x.ring.isNone))
    && !s.strm.any (fun e => e.2.pending.any (fun q => q.launch = id))
    && !s.clusters.any (fun e => !e.2.cq.isEmpty && ownerOf s e.1 = some p && (s.stream? (seqBase + e.1)).isNone)

/-- A launch is over: its counter's decrement, or its tab's end; an arm's slot is free again (R395). -/
def endLaunch (s : State) (id : Nat) (l : Launch) (failed : Bool) : State :=
  let s := s.setLaunch id none
  match l.road with
  | .tab i => tabFinish s l.part i failed l.cancelled
  | .arm e k _ =>
    dec (s.modPart l.part (fun x => { x with arms := Tab.set none x.arms e ((Tab.get none x.arms e).map (fun a =>
      { a with busy := a.busy.filter (fun j => j ≠ k) })) })) l.desc.cnt failed
  | _ => dec s l.desc.cnt failed

/-- The teams of a launch. -/
def teamsOfLaunch (s : State) (id : Nat) : List Nat :=
  s.teams.filterMap (fun e => match e.2 with
    | some t => if t.launch = id then some e.1 else none
    | none => none)

/-- The teams of a cancelled launch are stopped (Table 17.10). -/
def stopTeams (s : State) (id : Nat) : State := (teamsOfLaunch s id).foldl (fun s t => killTeam s t true) s

/-- LAUNCH_COMPLETE (R26). -/
def launchComplete (s : State) (id : Nat) : State :=
  match s.launch? id with
  | some l => if !l.cancelled && l.left = 0 && l.running = 0 && launchQuiet s id l.part then endLaunch s id l l.failed else s
  | none => s

/-- CANCEL_COMPLETE (R396): its teams stop, where a halt had put that off, and then it ends. -/
def cancelComplete (s : State) (id : Nat) : State :=
  match s.launch? id with
  | some l =>
    if !l.cancelled then s
    else if l.running ≠ 0 then (if admits s l.part then stopTeams s id else s)
    else if launchQuiet s id l.part then endLaunch s id l true else s
  | none => s

/-- A refusal at admission: nothing is admitted (R386, R396). -/
def refuseLaunch (s : State) (id : Nat) (l : Launch) : State := endLaunch s id l true

/-- A launch is the next of its queue. -/
def isHead (s : State) (id : Nat) (l : Launch) : Bool := (headOf s l.queue).any (fun e => e.1 = id)

/-- CONCURRENT_ADMIT (R386). -/
def concurrentAdmit (s : State) (id : Nat) : State :=
  match s.launch? id with
  | some l =>
    if !(admits s l.part && isHead s id l && l.desc.prog = 0 && l.fresh) then s
    else if chainCan s l.desc.cnt || (placeAll (freeAll (clustersOf s l.part)) l).isNone then refuseLaunch s id l
    else if mayServe s l.queue then
      match placeAll (freeNow s (clustersOf s l.part)) l with
      | some sps => decided s (startTeams s id l 0 sps) l.queue
      | none => s
    else s
  | none => s

/-- BATCH_HANDOFF (R386, R389): the next batch of a launch, or teams that start again. -/
def batchHandoff (s : State) (id die : Nat) : State :=
  match s.launch? id with
  | some l =>
    if !(admits s l.part && isHead s id l && (l.desc.prog ≠ 0 || !l.fresh)) then s
    else if l.fresh && chainCan s l.desc.cnt then refuseLaunch s id l
    else if mayServe s l.queue then
      match batchOn s l die with
      | [] => s
      | sps => decided s (startTeams s id l (match l.tab? with
          | some i => wd (tabWord (tabBytes s l.part i))
          | none => 0) sps) l.queue
    else s
  | none => s

/-- PRIORITY_AGING (R390). -/
def priorityAging (s : State) (w : Nat) : State :=
  if agingDue s w then { s with raised := Tab.set 0 s.raised w (Tab.get 0 s.raised w + 1), aging := Tab.set 0 s.aging w 0 } else s

/-- A tab leaves the front of its ready queue. -/
def popTab (s : State) (p pri : Nat) : State :=
  s.modPart p (fun x => { x with ready := Tab.set [] x.ready pri (Tab.get [] x.ready pri).tail })

/-- TAB_START (R393): the fault of a front tab's record is raised (R65); a front tab with a clear residency bit goes to the gate list; one whose owner is cancelled fails; else the queue whose
turn it is starts its tab on the idle cluster. -/
def tabStart (s : State) (p cl : Nat) : State :=
  if !admits s p then s
  else match (List.range 4).findSome? (fun pri => (frontTab s p pri).bind (fun i => (tabFault s p i).map (fun f => (pri, f)))) with
  | some (pri, f) => hubFault (popTab s p pri) p f
  | none => match (List.range 4).findSome? (fun pri => (frontTab s p pri).bind (fun i => if tabResident s p i then none else some (pri, i))) with
    | some (pri, i) => (popTab s p pri).modPart p (fun x => { x with gate := x.gate ++ [i] })
    | none => match (List.range 4).findSome? (fun pri => (frontTab s p pri).bind (fun i => if chainCan s (tabOwner s p i) then some i else none)) with
      | some i => tabFinish s p i true true
      | none => match (List.range 4).find? (fun pri => mayServe s (160 + 4 * p + pri)) with
        | none => s
        | some pri => match frontTab s p pri with
          | none => s
          | some i => match tabSpot s p i cl with
            | none => s
            | some sp =>
              let bs := tabBytes s p i
              let id := s.nlaunch + 1
              let s1 := tabPut (popTab s p pri) p i (tabJoin bs) (tabStatus 3 (bits (leAt bs 26 2) 12 1 = 1) (tabPri bs) (leAt bs 26 2 % 1024))
              let s2 := addLaunch s1 p (tabDesc s p i) (.tab i)
              (match s2.launch? id with
              | some l => decided s (startTeams s2 id l (wd (tabWord (tabBytes s1 p i))) [sp]) (160 + 4 * p + pri)
              | none => s)

-- Displacement of weakly parallel teams (Table 17.6)

/-- Nothing of a stream is out that a move of its context would lose: no request, region, handler, binding or engine operation (log 36). -/
def movable (s : State) (tm : Nat) (sids : List Nat) : Bool :=
  sids.all (fun i => match s.stream? i with
    | some t => !t.stopped && t.hnd.isNone && t.tr.isNone && t.abort.isNone && t.hold.isNone && t.acq.isEmpty && t.outst = 0 && t.q.isEmpty
    | none => false)
  && !s.ott.any (fun e => e.2.any (fun x => sids.contains x.sid && !x.gone)) && !s.drains.any (fun d => sids.contains d.sid)
  && !s.pwait.any (fun r => r.sid.any sids.contains) && !s.pq.any (fun r => r.sid.any sids.contains)
  && !s.eops.any (fun e => e.2.any (fun x => x.team = some tm))
  && !s.strm.any (fun e => e.2.pending.any (fun q => sids.contains q.sid) || e.2.subs.any (fun b => b.team = tm))

/-- The streams of a team. -/
def Team.sids (t : Team) : List Nat := t.courses ++ (if t.seq then [seqBase + t.cluster] else [])

/-- The bytes of a window that are not 0, by their offset. -/
def windowBytes (s : State) (t : Team) : Tab Byte :=
  let base := 4 * 2 ^ 40 + dieOf t.cluster * 2 ^ 30 + t.wbase * 65536
  (s.mem.filter (fun c => base ≤ c.1 && c.1 < base + t.wsize * 65536)).map (fun c => (c.1 - base, c.2))

/-- TEAM_DISPLACE (R387). -/
def displaceTeam (s : State) (tm : Nat) : State :=
  match s.team? tm with
  | none => s
  | some t => match s.launch? t.launch with
    | none => s
    | some l =>
      let c := s.cluster t.cluster
      let other := s.teams.any (fun e => e.1 ≠ tm && e.2.any (fun x => x.launch = t.launch && x.displaced.isNone && !x.courses.isEmpty))
      if l.desc.prog = 2 && !l.cancelled && l.tab?.isNone && t.displaced.isNone && !t.courses.isEmpty && other && admits s t.part
          && movable s tm t.sids && (!t.seq || (c.cq.isEmpty && c.port.isEmpty)) then
        let cs := t.courses.filterMap s.stream?
        let sq := if t.seq then (s.stream? (seqBase + t.cluster)).map (fun x => (x, c)) else none
        let d : Displaced := ⟨cs, sq, windowBytes s t⟩
        (t.sids.foldl (fun s i => s.dropStream i) s).setTeam tm (some { t with displaced := some d, courses := [], slots := [], seq := false })
      else s

/-- DISPLACED_TEAM_RESTORE (R387). -/
def restoreTeam (s : State) (tm : Nat) : State :=
  match s.team? tm with
  | none => s
  | some t => match t.displaced with
    | none => s
    | some d =>
      let die := dieOf t.cluster
      let need : Need := ⟨d.courses.length, (d.courses.head?.map (fun x => x.alloc)).getD 8, d.seq.isSome, t.wsize⟩
      match placeOne (freeNow s ((clustersOf s t.part).filter (fun c => dieOf c = die))) need with
      | none => s
      | some (sp, _) =>
        if !admits s t.part then s
        else
          let base := 4 * 2 ^ 40 + die * 2 ^ 30 + sp.win * 65536
          let s := if t.wsize = 0 then s else d.win.foldl (fun s c => s.writeMem (base + c.1) [c.2]) (zeroWindow s die sp.win t.wsize)
          let one (acc : State × List Nat) (x : Stream × Nat) : State × List Nat :=
            let core := 4 * sp.cl + x.2
            let sid := 16 * core + freeSlot acc.1 core
            (acc.1.setStream sid x.1, acc.2 ++ [sid])
          let (s, sids) := (d.courses.zip sp.cores).foldl one (s, [])
          let s := match d.seq with
            | some (q, c) => (s.modCluster sp.cl (fun x =>
                { c with hq := x.hq, nqe := x.nqe, loss := x.loss, fenced := x.fenced, hwerr := x.hwerr, ceN := x.ceN })).setStream (seqBase + sp.cl) q
            | none => s
          s.setTeam tm (some { t with cluster := sp.cl, courses := sids, slots := sids.map (fun i => (i, need.alloc)), seq := d.seq.isSome, wbase := sp.win, displaced := none })

-- Cancel (R396)

/-- The tabs of a partition that wait or are ready and whose owner is in a counter. -/
def cancelledTabs (s : State) (p c : Nat) : List Nat :=
  (s.part p).owner.filterMap (fun e =>
    let st := tabState (tabBytes s p e.1)
    if (st = 1 || st = 2) && inCounter s c (e.2 - 1) then some e.1 else none)

/-- CANCEL of counter c by a partition (R396, Table 17.10). -/
def cancel (s : State) (c : Nat) : State :=
  let x := s.cnt c
  if x.done then s
  else
    let p := x.part
    let s := s.setCnt c { x with can := true }
    let ls := s.launches.filterMap (fun e => e.2.bind (fun l => if inCounter s c l.desc.cnt then some e.1 else none))
    let copies := s.eops.filterMap (fun e => e.2.bind (fun o => o.ring.bind (fun r => if inCounter s c r.2 then some (e.1, o) else none)))
    let tabs := cancelledTabs s p c
    let s := ls.foldl (fun s i => match s.launch? i with
      | some l => s.setLaunch i (some { l with cancelled := true })
      | none => s) s
    let s := if admits s p then ls.foldl stopTeams s else s
    let s := copies.foldl (fun s e => if e.2.atUnit then cutEnd s e.1 e.2 else s.setEop e.1 (some { e.2 with cut := true })) s
    tabs.foldl (fun s i => tabFinish s p i true true) s

-- Armed launches (R394, R395)

/-- The fields of an arm record. -/
def armOf (bs : List Byte) : ArmEnt :=
  { tag := leAt bs 0 2, standing := bits (leAt bs 2 1) 0 2 = 1, pri := bits (leAt bs 2 1) 2 2, nb := leAt bs 3 1,
    desc := BitVec.ofNat 64 (leAt bs 8 8), abuf := BitVec.ofNat 64 (leAt bs 16 8), busy := [] }

/-- Every page of a buffer lies in the cistern, whatever it permits. -/
def inCistern (s : State) (p va n : Nat) : Bool :=
  (pagesOf va n).all (fun a => match probe s (ringWho p) ⟨false, false, false, none, none, none, none⟩ a with
    | .ok l => regionOf l.spa = .cistern
    | .error _ => false)

/-- An arm record is valid (R394). -/
def armOk (s : State) (p : Nat) (bs : List Byte) : Bool :=
  let a := armOf bs
  bits (leAt bs 2 1) 0 2 ≤ 1 && leAt bs 2 1 < 16 && 1 ≤ a.nb && a.nb ≤ 64 && a.abuf.toNat % 128 = 0 && a.abuf.toNat + 384 * a.nb ≤ 2 ^ 32
    && leAt bs 4 4 = 0 && leAt bs 24 40 = 0 && inCistern s p a.abuf.toNat (384 * a.nb)

/-- The entry of a tag. -/
def armWith (s : State) (p tag : Nat) : Option (Nat × ArmEnt) :=
  (s.part p).arms.findSome? (fun e => e.2.bind (fun a => if a.tag = tag then some (e.1, a) else none))

/-- A record can be installed: valid, its tag not in the table, and the table not full. -/
def armTakes (s : State) (p : Nat) (bs : List Byte) : Bool :=
  armOk s p bs && (armWith s p (armOf bs).tag).isNone && ((s.part p).arms.filter (fun e => e.2.isSome)).length < 256

/-- ARM installs a copy of the record; an entry is known by the fresh number of its arming. -/
def arm (s : State) (p : Nat) (bs : List Byte) : State :=
  s.modPart p (fun x => { x with arms := Tab.set none x.arms s.fresh (some (armOf bs)) })

/-- DISARM removes the entry of a tag. -/
def disarm (s : State) (p tag : Nat) : State :=
  match armWith s p tag with
  | some (e, _) => s.modPart p (fun x => { x with arms := Tab.set none x.arms e none })
  | none => s

/-- An arm fires (R395): the descriptor is read, and its launch enters at MODE.PRI with s1 at the payload; an invalid one makes it fail, and one
that cannot be read raises its fault (R65, logs 35 and 58). -/
def fireArm (s : State) (p e k : Nat) (a : ArmEnt) : State :=
  let free (s : State) : State := s.modPart p (fun x => { x with arms := Tab.set none x.arms e ((Tab.get none x.arms e).map (fun a =>
    { a with busy := a.busy.filter (fun j => j ≠ k) })) })
  match ringGet s p a.desc.toNat 64 64 with
  | .error f => hubFault (free s) p f
  | .ok bs =>
    let d := descOf bs
    if descOk s p bs then
      let s := addLaunch s p { d with pri := a.pri } (.arm e k (wd (a.abuf.toNat + 384 * k)))
      s.modPart p (fun x => { x with
        awopen := if (s.cnt d.cnt).done || x.awopen.contains d.cnt then x.awopen else x.awopen ++ [d.cnt],
        awd := wdDeadline s p })
    else if ownCnt s p d.cnt then dec (free s) d.cnt true else free s

/-- The target of a tagged message (R336, R395): it matches the tag, writes the payload, and fires; the state and the answer. -/
def takeMessage (s : State) (m : Packet) (p : Nat) : State × Packet :=
  let refuse (s : State) : State × Packet := (s, answerTo m 0x12 1 [])
  match armWith s p (m.aux % 65536) with
  | none => refuse s
  | some (e, a) => match (List.range a.nb).find? (fun k => !a.busy.contains k) with
    | none => refuse s
    | some k => match ringPut s p (a.abuf.toNat + 384 * k) (m.payload.take 384) with
      | .error _ => refuse s
      | .ok s1 =>
        let s2 := s1.modPart p (fun x => { x with arms := Tab.set none x.arms e (if a.standing then some { a with busy := k :: a.busy } else none) })
        (fireArm s2 p e k a, answerTo m 0x11 0 [])

/-- MSG_PACKET (R325, R336): no partition answers NOJOB, and a blocked buffer page holds the message. -/
def serveMessage (s : State) (m : Packet) : State :=
  if m.ty ≠ 7 then s
  else if mustWait s m then holdPacket s m
  else match targetPart s m.djob with
    | none => sendPacket (takePacket s m) (answerTo m 0x12 0 [])
    | some p =>
      if (armWith s p (m.aux % 65536)).any (fun e => unready s p e.2.abuf.toNat (384 * e.2.nb) || unready s p e.2.desc.toNat 64) then holdPacket s m
      else
        let r := takeMessage (takePacket s m) m p
        sendPacket r.1 r.2

end Sys2Proof.Machine
end

