-- ==== Sys2Proof/Machine/Scheduling.lean ====
section
/-! DEFINITION. Scheduling instructions, the host rings, and the ends of engine operations (R375 to R400). -/
namespace Sys2Proof.Machine

-- Instructions (R397 to R400)

/-- What a class V read at issue leaves: its access count. -/
def Ctx.noteRead (c : Ctx) (s : State) (va n : Nat) : State := countRuns s c.t.part (runs c.s c.who Acc.read va n)
/-- The base and displacement of a record. -/
def Ctx.recordAt (c : Ctx) : Nat := (c.pair (Ctx.sn c.o.a) + dispOf c.o.c).toNat

/-- LAUNCH (R398). -/
def launchMeaning (c : Ctx) : Eff :=
  match readAtIssue c c.recordAt 64 64 with
  | .error e => e
  | .ok bs =>
    let d := descOf bs
    if !descOk c.s c.t.part bs then .trap 0x3A 0 0
    else if d.sys && !c.t.sys then .trap 0x1A 0 0
    else if 256 ≤ deviceHeld c.s c.t.part d.pri || !c.released then .wait
    else .ok (addLaunch (c.noteRead c.s c.recordAt 64) c.t.part d (.device d.pri)) []

/-- The counter operand, where it is the partition's (R398). -/
def Ctx.counter? (c : Ctx) : Option Nat :=
  let a := (c.uni c.o.a).toNat
  if ownCnt c.s c.t.part a then some a else none

/-- CANCEL (R396, R398). -/
def cancelMeaning (c : Ctx) : Eff :=
  match c.counter? with
  | some a => .ok (cancel c.s a) []
  | none => .trap 0x3B 0 0

/-- CNTRD (R398). -/
def cntrdMeaning (c : Ctx) : Eff :=
  match c.counter? with
  | some a => .ok c.s (wrPair (Ctx.sn c.o.d) (c.s.counter a))
  | none => .trap 0x3B 0 0

/-- The index of the tab record at an address, where it lies in the arena. -/
def tabIndex (x : Part) (va : Nat) : Option Nat :=
  let base := x.tabbase.toNat
  let i := (va - base) / 32
  if base ≤ va && (va - base) % 32 = 0 && i < x.tabn then some i else none

/-- The counter that a new tab of the issuer counts in: the launch's own, or the tab's owner (R398). -/
def Ctx.owner (c : Ctx) : Nat := ((c.s.launch? c.t.launch).map (fun l => l.desc.cnt)).getD 0

/-- A record that TABNEW takes (R398). -/
def tabTakes (x : Part) (bs : List Byte) : Bool :=
  tabNin bs ≤ 4 && (tabParent bs).all (fun q => q < x.tabn) && (tabState bs = 0 || tabState bs = 4 || tabState bs = 5)
    && (tabShape x.tabcfg).1 ≠ 0

/-- The tab unit takes a new tab (R393, R398). -/
def newTab (s : State) (p i own pri : Nat) (bs : List Byte) : State :=
  let s := tabPut s p i (tabJoin bs) (tabStatus (if tabJoin bs = 0 then 2 else 1) false pri 0)
  let s := addMember (s.modPart p (fun x => { x with owner := Tab.set 0 x.owner i (own + 1) })) own
  if tabJoin bs = 0 then tabReady s p i pri else s

/-- TABNEW (R398). -/
def tabnewMeaning (c : Ctx) : Eff :=
  match readAtIssue c c.recordAt 32 32 with
  | .error e => e
  | .ok bs =>
    match tabIndex c.part c.recordAt with
    | none => .trap 0x3C 0 0
    | some i =>
      if !tabTakes c.part bs then .trap 0x3C 0 0
      else if !c.released then .wait
      else .ok (newTab (c.noteRead c.s c.recordAt 32) c.t.part i c.owner c.o.mod bs) [.s (Ctx.sn c.o.d) (wd i)]

/-- TABDEC (R398): a fault of the record that it sends a decrement to is taken at issue (R65, log 35). -/
def tabdecMeaning (c : Ctx) : Eff :=
  let i := (c.uni c.o.a).toNat
  if c.part.tabn ≤ i then .trap 0x3C 0 0
  else match (if c.uni c.o.b = 0 then none else tabFault c.s c.t.part i) with
    | some f => .trap f.code f.addr 0
    | none =>
      if !c.released then .wait
      else .ok (tabDecrement c.s c.t.part i (c.uni c.o.b).toNat (c.o.mod = 1) false) []

/-- TABST (R398). -/
def tabstMeaning (c : Ctx) : Eff :=
  let n := Ctx.sn c.o.d
  .ok c.s (match c.t.tab with
    | some i => [.s n (wd i), .s (n + 1) c.t.tabw]
    | none => [.s n (BitVec.allOnes 32), .s (n + 1) 0])

/-- ARM (R394, R398). -/
def armMeaning (c : Ctx) : Eff :=
  match readAtIssue c c.recordAt 64 64 with
  | .error e => e
  | .ok bs =>
    if !armTakes c.s c.t.part bs then .trap 0x3D 0 0
    else if !c.released then .wait
    else .ok (arm (c.noteRead c.s c.recordAt 64) c.t.part bs) []

/-- DISARM (R398). -/
def disarmMeaning (c : Ctx) : Eff := .ok (disarm c.s c.t.part ((c.uni c.o.a).toNat % 65536)) []

-- Host rings (R378 to R383)

/-- A packet puts its queue in state 3 (R383). -/
def queueError (s : State) (q err : Nat) (f : Option Flt) : State :=
  let h := s.queue q
  let s := s.setQueue q { h with st := 3, err := err }
  let s := match f with
    | some f => ringReport s q f.code 0 (some f.addr)
    | none => s
  s.raiseMsix (8 * h.part + 5)

/-- The slot of a queue's next packet. -/
def HQ.slot (h : HQ) : Nat := (h.ring.toNat + 64 * (h.head % 2 ^ h.log2)) % 2 ^ 64

/-- Which event a packet belongs to: its TYPE, and the OP of a SIGNAL or an ARM; none where these are unknown (Table 17.3). -/
def packetKind (b : List Byte) : Option Nat :=
  let t := leAt b 4 1
  if t = 0 then some 0 else if t = 1 then some 1 else if t = 2 then some 2
  else if t = 3 then (if leAt b 10 1 ≤ 2 then some (3 + leAt b 10 1) else none)
  else if t = 4 then some 6 else if t = 5 then some 7
  else if t = 6 then (if leAt b 16 1 ≤ 1 then some (8 + leAt b 16 1) else none)
  else none

/-- Every byte that the packet's type does not use is zero (R381). -/
def packetClean (b : List Byte) : Bool :=
  let zero (lo hi : Nat) : Bool := leAt b lo (hi - lo) = 0
  zero 5 8 && (match leAt b 4 1 with
    | 0 => zero 8 64
    | 1 => zero 16 64
    | 2 => zero 26 64
    | 3 => zero 11 12 && zero 19 64
    | 6 => zero 17 18 && zero 20 64
    | _ => zero 10 64)

/-- The counter of a packet. -/
def packetCnt (b : List Byte) : Nat := if leAt b 4 1 = 2 then leAt b 24 2 else leAt b 8 2

/-- Causes 1 and 3 of Table 17.4 in a packet of a known kind (R381). -/
def packetError (s : State) (p k : Nat) (b : List Byte) : Nat :=
  let par := leAt b 16 2
  if !packetClean b || (k = 3 && (3 < leAt b 18 1 || (32768 ≤ par && bits par 12 3 ≠ 0))) then 1
  else if 2 ≤ k && k ≤ 7 && !ownCnt s p (packetCnt b) then 3
  else if k = 3 && 32768 ≤ par && !ownCnt s p (par % 4096) then 3
  else 0

/-- The die of a partition's lowest-numbered quadrant (R382). -/
def lowestDie (x : Part) : Nat := (((List.range 16).find? (fun b => x.quads.getLsbD b)).getD 0) / 4

/-- A packet is handed on: RDIDX and the head advance, or the write of RDIDX faults (R379). -/
def handOn (s : State) (q : Nat) (go : State → State) : State :=
  let h := s.queue q
  match ringPut s h.part (h.ctl 8) (bytesOf (h.head + 1) 8) with
  | .error f => queueError s q 4 (some f)
  | .ok s1 =>
    let s2 := go (s1.setQueue q { h with head := h.head + 1 })
    s2.setQueue q ((s2.queue q).restart (wdDeadline s2 h.part))

/-- A counter names a packet of the queue that is not complete (R412). -/
def openPacket (s : State) (q c : Nat) : State :=
  let h := s.queue q
  if (s.cnt c).done || h.open_.contains c then s else s.setQueue q { h with open_ := h.open_ ++ [c] }

/-- A COPY packet's operation (R382): no issuer, no barrier; the pc of its stop record is not stated (log 4). -/
def ringCopy (s : State) (q c : Nat) (a b : Shape) : State :=
  let p := (s.queue q).part
  let x : EngOp := {
    kind := .copy 0 none, die := lowestDie (s.part p), part := p, sid := none, team := none,
    pc := Config.freeWord s.fresh 0 ++ Config.freeWord s.fresh 1, em := 0, cb := 0, a := a, b := b, c := Shape.zero, coll := Coll.zero, mode := 0,
    tag := none, unit := 0, off := 0, idx := 0, moved := 0, atUnit := true, done := false, cut := false, started := false, seq := 0, ans := [],
    stopped := !(admits s p), ring := some (q, c), pleft := 0, epoch := 0,
    pages := [], launch := 0, since := s.clock, limit := timeoutOf s p, moving := none }
  { s.setEop s.neop (some x) with neop := s.neop + 1 }

/-- What a packet without a cause of Table 17.4 in its own bytes does (R381, R382, R394). -/
def runPacket (s : State) (q k : Nat) (b : List Byte) : State :=
  let p := (s.queue q).part
  let c := packetCnt b
  let get (off al n : Nat) (go : List Byte → State) : State :=
    if unready s p (leAt b off 8) n then s
    else match ringGet s p (leAt b off 8) n al with
      | .error f => queueError s q 4 (some f)
      | .ok bs => go bs
  if k = 0 then handOn s q id
  else if k = 1 then get 8 64 64 (fun bs =>
    if !descOk s p bs then queueError s q 2 none
    else
      let d := descOf bs
      handOn s q (fun s => addLaunch (openPacket s q d.cnt) p d (.host q)))
  else if k = 2 then get 8 1 64 (fun dst => get 16 1 64 (fun src =>
    let w (l : List Byte) : BitVec 512 := BitVec.ofNat 512 (ofBytes l)
    let a := shapeOf (w dst)
    let e := shapeOf (w src)
    let s := countRuns s p (runs s (ringWho p) Acc.read (leAt b 8 8) 64 ++ runs s (ringWho p) Acc.read (leAt b 16 8) 64)
    if shapeOk (w dst) && shapeOk (w src) && a.count = e.count && a.w = e.w then
      (if 1024 ≤ dieOps s (lowestDie (s.part p)) then s else handOn s q (fun s => ringCopy (openPacket s q c) q c a e))
    else handOn s q (fun s => dec (ringReport s q 0x24 0 none) c true)))
  else if k = 3 then handOn s q (fun s => setSignal s c (leAt b 12 4) (leAt b 16 2) (leAt b 18 1))
  else if k = 4 then handOn s q (fun s => dec s c false)
  else if k = 5 then handOn s q (fun s => dec s c true)
  else if k = 6 then handOn s q (fun s => if (s.cnt c).done then s else s.setQueue q { s.queue q with waiting := some c, st := 2 })
  else if k = 7 then handOn s q (fun s => cancel s c)
  else if k = 8 then get 8 64 64 (fun bs => if armTakes s p bs then handOn s q (fun s => arm s p bs) else queueError s q 5 none)
  else handOn s q (fun s => disarm s p (leAt b 18 2))

/-- A queue may read its next slot. -/
def parses (s : State) (q : Nat) : Bool :=
  let h := s.queue q
  h.en && h.st = 1 && decide (q < 128) && islandUp s 20 && !unready s h.part h.slot 64 && !unready s h.part (h.ctl 0) 64 && (s.part h.part).wdreset.isNone

/-- The kind of the packet that a queue has published and that meets no cause of Table 17.4 in its own bytes. -/
def laneKind (s : State) (q : Nat) : Option Nat :=
  let h := s.queue q
  if !parses s q then none
  else match ringGet s h.part h.slot 64 1 with
    | .error _ => none
    | .ok b => if leAt b 0 4 ≠ (h.head + 1) % 2 ^ 32 then none
      else (packetKind b).bind (fun k => if packetError s h.part k b = 0 then some k else none)

/-- The place of a packet's type in a parse step: CANCEL, WAIT, SIGNAL, COPY, LAUNCH, ARM, NOP (R384). -/
def typeRank (k : Nat) : Nat := if k = 7 then 0 else if k = 6 then 1 else if 3 ≤ k && k ≤ 5 then 2 else if k = 2 then 3 else if k = 1 then 4 else if k = 0 then 6 else 5

/-- The parse step that a core forms: the lane that has parsed a packet and, of its other lanes with one, those that have parsed it by then,
which is free; one type at a time, then by lane (R384, log 34). -/
def newStep (s : State) (q : Nat) : List Nat :=
  let lanes := (List.range 32).map (fun i => 32 * (q / 32) + i)
  let part := lanes.filter (fun x => x = q || ((laneKind s x).isSome && Config.freeBit s.fresh x))
  (List.range 7).flatMap (fun r => part.filter (fun x => (laneKind s x).any (fun k => typeRank k = r)))

/-- The lanes of a core's parse step that are still to run. -/
def stepOf (s : State) (q : Nat) : List Nat :=
  match (Tab.get [] s.psteps (q / 32)).filter (fun x => (laneKind s x).isSome) with
  | [] => newStep s q
  | l => l

/-- A lane runs its packet when its turn in the step has come, and then leaves the step (R384). -/
def inStep (s : State) (q : Nat) (go : State → State) : State :=
  let l := stepOf s q
  let s1 := { s with psteps := Tab.set [] s.psteps (q / 32) l }
  if l.head? ≠ some q then s1
  else
    let s2 := go s1
    if (s2.queue q).head = (s.queue q).head && (s2.queue q).st = 1 then s2 else { s2 with psteps := Tab.set [] s2.psteps (q / 32) l.tail }

/-- A queue reads its next slot (R379): nothing where it does not parse, its slot is not published, or the packet is of another event's kind. -/
def parse (s : State) (q k : Nat) : State :=
  let h := s.queue q
  if !parses s q then s
  else match ringGet s h.part h.slot 64 1 with
    | .error f => queueError s q 4 (some f)
    | .ok b =>
      if leAt b 0 4 ≠ (h.head + 1) % 2 ^ 32 then s
      else match packetKind b with
        | none => queueError s q 1 none
        | some kind =>
          if kind ≠ k then s
          else
            let e := packetError s h.part k b
            if e ≠ 0 then queueError s q e none else inStep s q (fun s => runPacket s q k b)

-- The end of an engine operation

/-- ENGINE_OP_COMPLETE (R263, R268, R270, R340, R341, R382). -/
def engineComplete (s : State) (n : Nat) : State :=
  match s.eop? n with
  | none => s
  | some x =>
    let ended := match x.kind with
      | .mcst => x.started && mcstOver s x
      | .mcred => x.started && x.done
      | _ => x.done && x.pleft = 0
    let failed := if x.kind = .mcst then mcstFailed x else none
    if !ended then s
    else match failed with
    | some m => failMcst s n x m
    | none =>
      let s := if x.kind = .mcst then writeRes s x (mcstStatus s x) else s
      let s := match x.kind with
        | .copy _ (some tile) => setResident s x.part tile
        | _ => s
      let s := leaveCb (dropOp s n) x 0
      let s := ringEnd s x none
      match x.sid with
      | some i => if x.held s then settle s i else s
      | none => s

/-- LAUNCH (R398). -/
def execLaunch (o : Opnds) (s : State) : Host.Outcome State Fault Refusal := issue 0xE4 o s launchMeaning

/-- CANCEL (R396, R398). -/
def execCancel32 (o : Opnds) (s : State) : Host.Outcome State Fault Refusal := issue 0xE5 o s cancelMeaning

/-- CANCEL (R396, R398). -/
def execCancel (o : Opnds) (s : State) : Host.Outcome State Fault Refusal := issue 0xE5 o s cancelMeaning

/-- CNTRD (R398). -/
def execCntrd32 (o : Opnds) (s : State) : Host.Outcome State Fault Refusal := issue 0xE6 o s cntrdMeaning

/-- CNTRD (R398). -/
def execCntrd (o : Opnds) (s : State) : Host.Outcome State Fault Refusal := issue 0xE6 o s cntrdMeaning

/-- TABNEW (R398). -/
def execTabnew (o : Opnds) (s : State) : Host.Outcome State Fault Refusal := issue 0xE7 o s tabnewMeaning

/-- TABDEC (R398). -/
def execTabdec (o : Opnds) (s : State) : Host.Outcome State Fault Refusal := issue 0xE8 o s tabdecMeaning

/-- TABST (R398). -/
def execTabst32 (o : Opnds) (s : State) : Host.Outcome State Fault Refusal := issue 0xE9 o s tabstMeaning

/-- TABST (R398). -/
def execTabst (o : Opnds) (s : State) : Host.Outcome State Fault Refusal := issue 0xE9 o s tabstMeaning

/-- ARM (R394, R398). -/
def execArm (o : Opnds) (s : State) : Host.Outcome State Fault Refusal := issue 0xEA o s armMeaning

/-- DISARM (R398). -/
def execDisarm32 (o : Opnds) (s : State) : Host.Outcome State Fault Refusal := issue 0xEB o s disarmMeaning

/-- DISARM (R398). -/
def execDisarm (o : Opnds) (s : State) : Host.Outcome State Fault Refusal := issue 0xEB o s disarmMeaning

/-- NOP_PACKET (R381). -/
def execNopPacket (q : Nat) (s : State) : Host.Outcome State Fault Refusal := .next (parse s q 0)

/-- LAUNCH_PACKET (R381, R385). -/
def execLaunchPacket (q : Nat) (s : State) : Host.Outcome State Fault Refusal := .next (parse s q 1)

/-- COPY_PACKET (R381, R382). -/
def execCopyPacket (q : Nat) (s : State) : Host.Outcome State Fault Refusal := .next (parse s q 2)

/-- SIGNAL_SET (R381). -/
def execSignalSet (q : Nat) (s : State) : Host.Outcome State Fault Refusal := .next (parse s q 3)

/-- SIGNAL_DEC (R376, R381). -/
def execSignalDec (q : Nat) (s : State) : Host.Outcome State Fault Refusal := .next (parse s q 4)

/-- SIGNAL_DEC_FAILED (R376, R381). -/
def execSignalDecFailed (q : Nat) (s : State) : Host.Outcome State Fault Refusal := .next (parse s q 5)

/-- WAIT_PACKET (R381). -/
def execWaitPacket (q : Nat) (s : State) : Host.Outcome State Fault Refusal := .next (parse s q 6)

/-- CANCEL_PACKET (R381, R396). -/
def execCancelPacket (q : Nat) (s : State) : Host.Outcome State Fault Refusal := .next (parse s q 7)

/-- ARM_PACKET (R381, R394). -/
def execArmPacket (q : Nat) (s : State) : Host.Outcome State Fault Refusal := .next (parse s q 8)

/-- DISARM_PACKET (R381, R398). -/
def execDisarmPacket (q : Nat) (s : State) : Host.Outcome State Fault Refusal := .next (parse s q 9)

/-- CONCURRENT_ADMIT (R386). -/
def execConcurrentAdmit (l : Nat) (s : State) : Host.Outcome State Fault Refusal := .next (concurrentAdmit s l)

/-- BATCH_HANDOFF (R386, R389). -/
def execBatchHandoff (l die : Nat) (s : State) : Host.Outcome State Fault Refusal := .next (batchHandoff s l die)

/-- PRIORITY_AGING (R390). -/
def execPriorityAging (w : Nat) (s : State) : Host.Outcome State Fault Refusal := .next (priorityAging s w)

/-- TAB_START (R393). -/
def execTabStart (part cl : Nat) (s : State) : Host.Outcome State Fault Refusal := .next (tabStart s part cl)

/-- TEAM_DISPLACE (R387). -/
def execTeamDisplace (tm : Nat) (s : State) : Host.Outcome State Fault Refusal := .next (displaceTeam s tm)

/-- DISPLACED_TEAM_RESTORE (R387). -/
def execDisplacedTeamRestore (tm : Nat) (s : State) : Host.Outcome State Fault Refusal := .next (restoreTeam s tm)

/-- LAUNCH_COMPLETE (R26). -/
def execLaunchComplete (l : Nat) (s : State) : Host.Outcome State Fault Refusal := .next (launchComplete s l)

/-- CANCEL_COMPLETE (R396). -/
def execCancelComplete (l : Nat) (s : State) : Host.Outcome State Fault Refusal := .next (cancelComplete s l)

/-- MSG_PACKET (R336, R395). -/
def execMsgPacket (p : Packet) (s : State) : Host.Outcome State Fault Refusal := .next (serveMessage s p)

/-- ENGINE_OP_COMPLETE (R268, R382). -/
def execEngineOpComplete (op : Nat) (s : State) : Host.Outcome State Fault Refusal := .next (engineComplete s op)

end Sys2Proof.Machine
end

