-- ==== Sys2Proof/Machine/System.lean ====
section
/-! DEFINITION. System instructions, stops, pre-emption, the watchdog and fences (R401 to R424, R439, R440, R445). -/
namespace Sys2Proof.Machine

-- System instructions (R417 to R422)

/-- HALTP (R419): the partition halts for good; no handler runs. -/
def haltpMeaning (c : Ctx) : Eff :=
  let em := c.p.em
  let ev : Event := ⟨0, recIndex c.sid, none, 0x41, c.pc, 0, c.uni c.o.a, em, 1 + flagPerm, true, none, none, 0, isSeq c.sid⟩
  .jump (haltForGood (arbiter (c.s.setStream c.sid { c.t with stopped := true }) c.t.part ev) c.t.part)

/-- How many bytes the instruction at a path's pc takes (R73 to R75). -/
def Path.wordBytes (p : Path) : Nat := 4 * wordCount (nth 0 (p.blk.drop ((p.pc.toNat - p.hdr.toNat) / 4)) 0)
where
  /-- Words of an instruction by its two top bits. -/
  wordCount (w : Word) : Nat := if w.extractLsb' 30 2 = 0 then 1 else if w.extractLsb' 30 2 = 1 then 2 else 3

/-- A path as a return sets it at the record's PC, or past the instruction there; a header that it enters then is not checked (R104, R407).
An entry that trapped has no instruction to skip (log 37). -/
def Path.resumed (p : Path) (pc : Addr) (skip : Bool) : Path :=
  let q := { p with pc := pc, pend := [], fl := [], wait := none, held := false, check := false }
  if skip && !p.entry then
    let r := { q with pc := pc + BitVec.ofNat 64 q.wordBytes }
    { r with entry := !r.blk.isEmpty && r.pc.toNat = r.hdr.toNat + 4 * r.blk.length }
  else q

/-- The path that a return moves: one that trapped stands at the record's PC; one whose request faulted late goes back to its instruction,
whose block is fetched again where the path has left it. A path that has ended moves nowhere (R206, R407, log 13). -/
def resumeOf (s : State) (sid : Nat) (h : Saved) (skip : Bool) : Option (Nat × Nat × Path) :=
  let slot (w k : Nat) : Option Path :=
    if w = sid then (if k = 0 then h.ctl.p0 else h.ctl.p1) else (s.stream? w).bind (fun x => x.path? k)
  match h.who, h.back with
  | some (w, k), _ => (slot w k).bind (fun p => if p.pc = h.pc then some (w, k, p.resumed h.pc skip) else none)
  | none, some (id, hdr) =>
    let w := h.idx
    match [0, 1].find? (fun k => (slot w k).any (fun p => p.id = id)), s.stream? w with
    | some k, some t => (slot w k).bind (fun p =>
      if p.hdr = hdr then some (w, k, { p with entry := false }.resumed h.pc skip)
      else match openBlock s (whoOf s t w) (!isSeq w) t.alloc 0x05 hdr with
        | .ok ws => some (w, k, { p with hdr := hdr, blk := ws, entry := false }.resumed h.pc skip)
        | .error _ => none)
    | _, _ => none
  | none, none => none

/-- Every lane of a course exits, its region discarded (R407, R119). -/
def Stream.exitAll (t : Stream) : Stream :=
  { t.exitLanes Lanes.all with p0 := none, p1 := none, arms := [], tr := none, abort := none, hold := none }

/-- A request that the stream's handler issued is still to write a register (R407). -/
def handlerLoadsOut (s : State) (sid : Nat) : Bool :=
  s.ott.any (fun e => match e.2 with
    | some x => x.sid = sid && !x.gone && x.inHnd && (x.kind = .load || x.kind = .atomic || x.kind = .remoteLoad || x.kind = .remoteAtomic)
    | none => false)

/-- What lanes that left in a handler leave of the restored control state: records complete, and paths with no lane end (R100, R119). -/
def Stream.tidied (t : Stream) : Stream := (t.completeAll.endIfEmpty 0).endIfEmpty 1

/-- RTE (R407): mode 0 retries, 1 skips, 2 ends the course, 3 halts for good. -/
def rteMeaning (c : Ctx) (mode : Nat) : Eff :=
  match c.t.hnd with
  | none => .trap 0x44 0 0
  | some h =>
    if handlerLoadsOut c.s c.sid || c.t.outst ≠ 0 then .wait
    else
      let p := c.t.part
      if mode ≤ 1 then .jump (afterHandler ((endHandler c.s c.sid c.t h (resumeOf c.s c.sid h (mode = 1))).modStream c.sid Stream.tidied) p)
      else
        let s := endHandler c.s c.sid c.t h none
        if mode = 2 then .jump (afterHandler (s.modStream c.sid Stream.exitAll) p)
        else .jump (haltForGood (flagRecord s p h.idx flagPerm) p)

/-- SYSRD's value of a special register (Table 18.11); a sequencer has MODE and FPFLAGS of its own, and STEP is PSTEPMAX there (R356, R418). -/
def sysValue (c : Ctx) : Lanes :=
  let x := c.part
  let crs (w : Lanes) : Lanes := if c.seq then 0 else w
  match c.o.mod with
  | 0x00 => c.t.mode.setWidth 96
  | 0x01 => c.t.fpflags.setWidth 96
  | 0x02 => crs (c.t.tryst.setWidth 96)
  | 0x03 => crs (c.t.tryaddr.setWidth 96)
  | 0x04 => crs c.t.abortm
  | 0x05 => crs (c.t.xconf.setWidth 96)
  | 0x06 => crs (c.t.msgst.setWidth 96)
  | 0x07 => (if c.seq then x.pstepmax else c.t.step).setWidth 96
  | 0x20 => x.mto.setWidth 96
  | 0x21 => x.migth.setWidth 96
  | 0x22 => x.domctl.setWidth 96
  | 0x23 => x.srbase.setWidth 96
  | 0x24 => x.tvec.setWidth 96
  | 0x25 => (Config.ctxSize c.t.part).setWidth 96
  | 0x26 => x.mboxo.setWidth 96
  | 0x27 => x.mboxi.setWidth 96
  | 0x28 => x.mboxst.setWidth 96
  | _ => 0

/-- SYSRD (R418). -/
def sysrdMeaning (c : Ctx) : Eff :=
  let n := Ctx.sn c.o.d
  let v := sysValue c
  .ok c.s (match sysWidth c.o.mod with
    | some 2 => wrPair n (v.setWidth 64)
    | some 3 => wrTriple n v
    | _ => [.s n (v.setWidth 32)])

/-- SYSWR of MODE (R90, R418): bits [7:4] and [31:9] are reserved (R8, Tables 3.2 and 4.9). -/
def syswrModeMeaning (c : Ctx) : Eff := .ok (c.s.setStream c.sid { c.t with mode := c.uni c.o.a &&& 0x10F }) []

/-- SYSWR of XCONF: a 1 clears XC or XO, and XLANE is read-only (R8, R170); a sequencer has none. -/
def syswrXconfMeaning (c : Ctx) : Eff :=
  .ok (if c.seq then c.s else c.s.setStream c.sid { c.t with xconf := c.t.xconf &&& ~~~(c.uni c.o.a &&& 3) }) []

/-- SYSWR of MBOXO (R409): it sends. -/
def syswrMboxoMeaning (c : Ctx) : Eff :=
  if c.t.hnd.isNone && !c.t.sys then .trap 0x1A 0 0
  else .ok ((c.s.modPart c.t.part (fun x => { x with mboxo := c.pair (Ctx.sn c.o.a), mboxst := x.mboxst ||| 2 })).raiseMsix (8 * c.t.part)) []

/-- SYSWR of MBOXST: a 1 clears READY (Table 18.5). -/
def syswrMboxstMeaning (c : Ctx) : Eff :=
  .ok (c.s.modPart c.t.part (fun x => { x with mboxst := x.mboxst &&& ~~~(c.uni c.o.a &&& 1) })) []

/-- STOPRD's word (R420). -/
def stopWord (c : Ctx) : Word := nth 0 (Tab.get [] c.part.stage ((c.uni c.o.a).toNat % 16384)) ((c.uni c.o.b).toNat % 16)

/-- EVTRD's counter (Table 18.12). -/
def eventCount (c : Ctx) : Word :=
  match (c.uni c.o.a).toNat with
  | 0 => if c.seq then 0 else c.t.lost
  | 1 => c.part.lateReply
  | 2 => c.part.entryRetired
  | 3 => c.clu.loss
  | 4 => c.part.cntUnder
  | 5 => c.part.tabUnder
  | 6 => c.part.ceCount
  | 7 => c.part.halts
  | 8 => c.s.pktDrop
  | _ => 0

/-- CYCLE's count: the issuing core's own counter (R422). -/
def cycleMeaning (c : Ctx) : Eff := .ok c.s (wrPair (Ctx.sn c.o.d) (BitVec.ofNat 64 (partyClock c.s c.sid)))

-- The halt line, pre-emption and the watchdog reach the parties (R402, R404, R410, R413)

/-- The parties of a partition are to stop: halted, asked to be pre-empted, or in a watchdog reset. -/
def Part.stops (x : Part) : Bool := x.halted || x.pre = 1 || x.wdreset.isSome

/-- The record of a party that only stopped (Table 18.3): CYC is its counter at the stop, and NOTISS says that the instruction at PC was
waiting at issue (R402). -/
def stopEvent (s : State) (p idx : Nat) : Event :=
  let x := s.part p
  let wd_ : Nat := if x.wdreset.isSome then 8 else 0
  let cause : Nat := if x.wdreset.isSome then 0x43 else 0
  let aux (n : Nat) : Word := match x.wdreset with
    | some a => wd a
    | none => wd n
  let cyc := stopCyc s p idx
  let base (pc : Addr) (em : Lanes) (n flags : Nat) : Event :=
    ⟨x.firstSeq, idx, none, cause, pc, 0, aux n, em, flags + wd_, true, none, none, cyc, false⟩
  if idx < 12480 then
    let notiss (q : Path) : Nat := if q.held then 32 else 0
    match s.stream? idx with
    | some t => (match t.p0, t.p1 with
      | some q, _ => base q.pc (if isSeq idx then 1 else q.em) 0 (notiss q)
      | none, some q => base q.pc q.em 0 (notiss q)
      | none, none => base 0 0 0 0)
    | none => base 0 0 0 0
  else if 12800 ≤ idx then
    match (s.cluster (idx - 12800)).cq with
    | c :: _ => base c.pc 0 0 0
    | [] => base 0 0 0 0
  else match (eopsOf s p).find? (fun e => eopIndex e.1 e.2 = idx) with
    | some (_, e) => base e.pc 0 e.unit 0
    | none => match x.owing.find? (fun e => e.1 = idx) with
      | some e => base e.2 0 0 0
      | none => base 0 0 0 0

/-- A stopped party's record, unless the halt already has one of it (R404); none for pre-emption alone, and a watchdog's are written later. -/
def stopRecord (s : State) (p idx : Nat) : State :=
  let x := s.part p
  if x.stoppedAt.contains idx then s
  else
    let s := s.modPart p (fun x => { x with stopClk := Tab.set 0 x.stopClk idx (stopCyc s p idx) })
    if !x.halted || x.wdreset.isSome then s
    else (stageRecord s p (stopEvent s p idx)).modPart p (fun x => { x with stoppedAt := idx :: x.stoppedAt })

/-- A sequencer's wait for rq begins again after a stop. -/
def unwait (sid : Nat) (t : Stream) : Stream := if isSeq sid then { t with p0 := t.p0.map (fun p => { p with wait := none }) } else t

/-- A stream stops at its instruction boundary; a handler's does not stop for the halt. One that pre-emption has stopped writes its record when a
halt begins (R404, R410); in a partition halted for good its region is discarded (R240). -/
def stopStream (s : State) (sid : Nat) (t : Stream) : State :=
  let x := s.part t.part
  let stop (t : Stream) : Stream := { unwait sid t with stopped := true }
  if !x.stops || (t.hnd.isSome && x.pre ≠ 1 && x.wdreset.isNone) then s
  else if t.stopped then stopRecord s t.part sid
  else (stopRecord s t.part sid).modStream sid (fun t => if x.perm then (stop t).discarded else stop t)

/-- An array stops at the end of its command, or at the push at which a DRAIN waits (Table 18.1). -/
def stopArray (s : State) (cl : Nat) : State :=
  match ownerOf s cl with
  | none => s
  | some p =>
    let c := s.cluster cl
    match c.cq with
    | [] => s
    | h :: _ =>
      if !(s.part p).stops then s
      else if c.stopped then stopRecord s p (12800 + cl)
      else if h.begun && !drainWaits c h then s
      else (stopRecord s p (12800 + cl)).modCluster cl (fun c => { c with stopped := true })

/-- The engine of a record index stops for a partition: a copy engine at 4 KiB of destination, a gather engine at 256 elements, a collective
engine at the end of what it has started (Table 18.1). It writes a record where it holds an operation of the partition, one whose writes are all
made included, or has completed what it had started (R404). -/
def stopEngine (s : State) (p idx : Nat) : State :=
  let mine := (eopsOf s p).filter (fun e => eopIndex e.1 e.2 = idx)
  if !(s.part p).stops || (mine.isEmpty && !(s.part p).owing.any (fun e => e.1 = idx)) || mine.any (fun e => e.2.started || !(e.2.atUnit || e.2.done)) then s
  else mine.foldl (fun s e => if e.2.done then s else s.setEop e.1 (some { e.2 with stopped := true, moving := none })) (stopRecord s p idx)

/-- The Windlass stops at a page of its sweep. -/
def stopWindlass (s : State) (p : Nat) : State :=
  let x := s.part p
  if x.halted && x.snap.st = 1 && !x.snap.left.isEmpty then stopRecord s p 12564 else s

/-- PARTY_STOP (R402, R404). -/
def partyStop (s : State) (idx : Nat) : State :=
  if idx < 12480 then
    match s.stream? idx with
    | some t => stopStream s idx t
    | none => s
  else if 12800 ≤ idx then stopArray s (idx - 12800)
  else if idx = 12564 then (List.range 8).foldl stopWindlass s
  else (List.range 8).foldl (fun s p => stopEngine s p idx) s

/-- A stream's open region aborts before its context is saved (R240); one that runs a handler keeps it in the saved control state. -/
def preemptRegion (t : Stream) : Stream :=
  match t.tr with
  | none => t
  | some r =>
    let a := t.abort.getD ⟨4, 0, 0⟩
    match t.hnd with
    | none => t.aborted r a
    | some h =>
      let t1 := (({ (t.unscalar 31 h.s h.sp).control h.ctl with lr := h.ctl.lr, hnd := none } : Stream)).aborted r a
      let h1 : Saved := { h with ctl := t1.ctl.settled, s := (t1.scalars 31).1, sp := (t1.scalars 31).2 }
      let t2 := (t1.unscalar 31 (t.scalars 31).1 (t.scalars 31).2).control t.ctl
      { t2 with lr := t.lr, hnd := some h1 }

/-- Some request of a partition's resident streams has not been answered. -/
def requestsOut (s : State) (p : Nat) : Bool := s.ott.any (fun e => e.2.any (fun x => x.part = p && !x.gone))

/-- Sectors of a partition's streams that still stand unsent in the drain stage: an issued instruction's requests are all issued before a
context is saved (R209, R250). -/
def drainsOut (s : State) (p : Nat) : Bool := s.drains.any (fun d => d.part = p && !d.gone)

/-- A request of class P that the partition's streams or copies have issued is still to be accepted, one that a PBAR holds included (R374). -/
def persistsOut (s : State) (p : Nat) : Bool := s.pwait.any (fun r => r.live && r.part = p && (r.sid.isSome || r.op.isSome))

/-- An issued tile-port operation of the partition's sequencers that can complete has not, or a slot is still to be published (R303, R297). -/
def tilesOut (s : State) (p : Nat) : Bool :=
  s.clusters.any (fun e => ownerOf s e.1 = some p && e.2.port.any (tileCan s e.1)) || s.strm.any (fun e => bits e.2.reg.toNat 37 3 = p && e.2.pending.isSome)

/-- A wait that is saved as not issued: at a blocked page, and a PFLUSH's (R374, R402). -/
def notIssued (w : Option Waiting) : Option Waiting :=
  match w with
  | some (.since _) => none
  | some (.flush _) => none
  | w => w

/-- A stream's waiting instructions are saved as not issued; a PBAR that waits holds nothing more (R374). -/
def Stream.unissued (t : Stream) : Stream :=
  let f (p : Path) : Path := { p with wait := notIssued p.wait }
  let t1 : Stream := { t with
    p0 := t.p0.map f, p1 := t.p1.map f, hnd := t.hnd.map (fun h => { h with ctl := { h.ctl with p0 := h.ctl.p0.map f, p1 := h.ctl.p1.map f } }) }
  { t1 with hold := t1.hold.filter (fun k => (t1.path? k).any (fun p => p.wait.isSome)) }

/-- PREEMPT_COMPLETE (R410): every party has stopped and its replies are collected; pending writes complete (R86), regions abort, the contexts
are saved, the driver is interrupted. -/
def preemptComplete (s : State) (p : Nat) : State :=
  let x := s.part p
  if x.pre ≠ 1 || !(unitsStopped s p) || requestsOut s p || drainsOut s p || persistsOut s p || tilesOut s p || (eopsOf s p).any (fun e => e.2.kind.collective && e.2.started) then s
  else
    let s := across (streamsOf s p) (fun i s => s.modStream i (fun t => (preemptRegion t).settled.unissued)) s
    let image := (Config.ctxImage s.fresh p).take (Config.ctxSize p).toNat
    ((s.writeMem x.ctxbase.toNat image).modPart p (fun x => { x with pre := 2 })).raiseMsix (8 * p + 1)

/-- RESTORE (R410): the contexts go on; a halt that was in being is raised again, and its handler continues. -/
def restorePart (s : State) (p : Nat) : State :=
  let x := s.part p
  if x.pre = 0 then s
  else
    let s := s.modPart p (fun x => { x with pre := 0, stopClk := if x.halted then x.stopClk else [] })
    if x.halted then
      match x.handler with
      | some c => if x.perm then s else s.modStream c (fun t => { t with stopped := false })
      | none => s
    else
      let s := across (streamsOf s p) (fun i s => s.modStream i (fun t => { t with stopped := false })) s
      let s := { s with clusters := s.clusters.map (fun e => (e.1, if ownerOf s e.1 = some p then { e.2 with stopped := false } else e.2)) }
      let s := across (eopsOf s p) (fun e s => s.setEop e.1 (some (e.2.resumed s))) s
      across (streamsOf s p) (fun i s => settle s i) s

/-- A watchdog event reaches the arbiter (R401, R412): it takes a number and raises the halt line, and the reset begins. -/
def watchdogEvent (s : State) (p aux : Nat) : State :=
  let x := s.part p
  if x.wdreset.isSome then s
  else
    s.setPart p { raiseHalt s p x with seq := x.seq + 1, wdreset := some aux }

/-- QUEUE_WATCHDOG_EXPIRY (R412). -/
def queueExpiry (s : State) (q : Nat) : State :=
  let h := s.queue q
  if h.timer = 0 || s.clock < h.timer || !h.busy then s else watchdogEvent (s.setQueue q { h with timer := 0 }) h.part q

/-- ARM_WATCHDOG_EXPIRY (R412). -/
def armExpiry (s : State) (p : Nat) : State :=
  let x := s.part p
  if x.awd = 0 || s.clock < x.awd || x.awopen.isEmpty then s else watchdogEvent (s.setPart p { x with awd := 0 }) p 0x100

/-- The outstanding requests of a partition end as on a timeout (R206, R413): they may still be performed, and their answers are late. -/
def dropRequests (s : State) (p : Nat) : State :=
  let mine := s.ott.filterMap (fun e => e.2.bind (fun x => if x.part = p then some (e.1, x) else none))
  mine.foldl (fun s e =>
    let tbl := e.1 / 1024
    let ent := e.1 % 1024
    let tag : Tag := ⟨tbl, ent, (genOf s tbl ent).1⟩
    let s : State := { s with
      ott := Tab.set none s.ott e.1 none,
      reqs := s.reqs.map (fun (r : Req) => if r.tag = tag then { r with live := false } else r),
      pwait := s.pwait.map (fun (r : PReq) => if r.tag = some tag then { r with live := false } else r) }
    { s with ottGen := Tab.set (0, 0) s.ottGen e.1 (((genOf s tbl ent).1 + 1) % 16, 0) }) s

/-- A table of a partition's cluster. -/
def tableOf (s : State) (p tbl : Nat) : Bool := ownerOf s (if 768 ≤ tbl then tbl - 768 else tbl / 4) = some p

/-- Every tab that is not free becomes failed (R413). -/
def failTabs (s : State) (p : Nat) : State :=
  (List.range (s.part p).tabn).foldl (fun s i =>
    let bs := tabBytes s p i
    if tabState bs = 0 then s else tabPut s p i (tabJoin bs) (leAt bs 26 2 % 8192 + 5 * 8192)) s

/-- The counters of a partition that are not DONE end, with no decrement to a PARENT (R413). -/
def failCounters (s : State) (p : Nat) : State :=
  { s with ctr := s.ctr.map (fun e =>
      let x := cntOf e.2
      (e.1, if x.v && x.part = p && !x.done then ({ x with can := true, done := true, fail := min (x.fail + 1) 2047 } : Cnt).word else e.2)) }

/-- The queues of a partition stop: the one named goes to state 3 with ERR 6, every other is disabled (R413, R445). -/
def stopQueues (s : State) (p aux : Nat) : State :=
  { s with queues := s.queues.map (fun e =>
      let h := e.2
      (e.1, if h.part ≠ p then h
        else
          let r : HQ := { h with waiting := none, open_ := [], timer := 0, err := 0 }
          if e.1 = aux then { r with st := 3, err := 6 } else { r with st := 0, en := false })) }

/-- The reset of a partition: steps 3 and 4 of R413. -/
def resetPart (s : State) (p aux : Nat) : State :=
  let sids := streamsOf s p
  let mine (t : Option Team) : Bool := t.any (fun t => t.part = p)
  let s := (eopsOf s p).foldl (fun s e => if e.2.started then s else canBarrier s e.2) (failTabs (dropRequests s p) p)
  let s := sids.foldl (fun s i => forgetRequests (s.dropStream i) i) s
  let s := dropPubs s sids
  let own (cl : Nat) : Bool := ownerOf s cl = some p
  let s := { s with
    ottGen := s.ottGen.filterMap (fun e => if tableOf s p (e.1 / 1024) then (if e.2.1 = 0 then none else some (e.1, (e.2.1, 0))) else some e),
    strm := s.strm.map (fun e => (e.1, { e.2 with subs := e.2.subs.filter (fun x => !own x.cluster) })),
    clusters := s.clusters.map (fun e => (e.1, if own e.1 then { e.2 with cq := [], port := [], stopped := false } else e.2)),
    teams := s.teams.filter (fun e => !mine e.2),
    launches := s.launches.filter (fun e => !e.2.any (fun l => l.part = p)),
    eops := s.eops.filter (fun e => !e.2.any (fun x => x.part = p && !x.started)),
    drains := s.drains.filter (fun d => d.part ≠ p),
    pwait := s.pwait.filter (fun r => r.part ≠ p || r.tag.isSome || r.mark.any (fun m => m.kind = 0)) }
  let s := stopQueues (failCounters s p) p aux
  let snapFail (n : Snap) : Snap := { n with st := if n.st = 1 || n.st = 2 then 3 else 0, err := 0, frz := false, fslot := 0, left := [] }
  (s.modPart p (fun x => { x with
    halted := false, perm := false, events := [], handler := none, stoppedAt := [], stopClk := [], owing := [], mboxst := 0, res := [], arms := [], ready := [], gate := [], owner := [],
    pre := 0, awopen := [], awd := 0, wdreset := none, snap := snapFail x.snap })).raiseMsix (8 * p + 2)

/-- WATCHDOG_RESET (R413): once every party has stopped and started collectives are complete, their records are written and the partition is
reset. -/
def watchdogReset (s : State) (p : Nat) : State :=
  match (s.part p).wdreset with
  | none => s
  | some aux =>
    if !(unitsStopped s p) || (eopsOf s p).any (fun e => e.2.kind.collective && e.2.started) then s
    else
      let s := (partiesOf s p).foldl (fun s i => stageRecord s p (stopEvent s p i)) s
      resetPart s p aux

-- Fences (R416)

/-- CLUSTER_FENCE (R416): out of dispatch, recorded, and vector 65. -/
def fenceCluster (s : State) (cl : Nat) : State :=
  if 192 ≤ cl || (s.cluster cl).fenced then s
  else setRepl (s.modCluster cl (fun c => { c with fenced := true })) 2

/-- TRAP (R419). -/
def execTrap32 (o : Opnds) (s : State) : Host.Outcome State Fault Refusal := issue 0xF0 o s (fun c => .trap 0x3E 0 (c.uni o.a))

/-- TRAP (R419). -/
def execTrap (o : Opnds) (s : State) : Host.Outcome State Fault Refusal := issue 0xF0 o s (fun c => .trap 0x3E 0 (c.uni o.a))

/-- RTE (R407). -/
def execRte32 (o : Opnds) (s : State) : Host.Outcome State Fault Refusal := issue 0xF1 o s (fun c => rteMeaning c 0)

/-- RTE (R407). -/
def execRte (o : Opnds) (s : State) : Host.Outcome State Fault Refusal := issue 0xF1 o s (fun c => rteMeaning c 0)

/-- RTE.SKIP (R407). -/
def execRteSkip (o : Opnds) (s : State) : Host.Outcome State Fault Refusal := issue 0xF1 o s (fun c => rteMeaning c 1)

/-- RTE.ENDC (R407). -/
def execRteEndc (o : Opnds) (s : State) : Host.Outcome State Fault Refusal := issue 0xF1 o s (fun c => rteMeaning c 2)

/-- RTE.ENDP (R407). -/
def execRteEndp (o : Opnds) (s : State) : Host.Outcome State Fault Refusal := issue 0xF1 o s (fun c => rteMeaning c 3)

/-- BRKP (R419). -/
def execBrkp32 (o : Opnds) (s : State) : Host.Outcome State Fault Refusal := issue 0xF2 o s (fun _ => .trap 0x3F 0 0)

/-- BRKP (R419). -/
def execBrkp (o : Opnds) (s : State) : Host.Outcome State Fault Refusal := issue 0xF2 o s (fun _ => .trap 0x3F 0 0)

/-- SYSRD (R418). -/
def execSysrd (o : Opnds) (s : State) : Host.Outcome State Fault Refusal := issue 0xF3 o s sysrdMeaning

/-- SYSWR of MODE (R418). -/
def execSyswrMode (o : Opnds) (s : State) : Host.Outcome State Fault Refusal := issue 0xF4 o s syswrModeMeaning

/-- SYSWR of XCONF (R418). -/
def execSyswrXconf (o : Opnds) (s : State) : Host.Outcome State Fault Refusal := issue 0xF4 o s syswrXconfMeaning

/-- SYSWR of MBOXO (R409, R418). -/
def execSyswrMboxo (o : Opnds) (s : State) : Host.Outcome State Fault Refusal := issue 0xF4 o s syswrMboxoMeaning

/-- SYSWR of MBOXST (R418). -/
def execSyswrMboxst (o : Opnds) (s : State) : Host.Outcome State Fault Refusal := issue 0xF4 o s syswrMboxstMeaning

/-- SYSWR of a read-only register (R418): no effect. -/
def execSyswrOther (o : Opnds) (s : State) : Host.Outcome State Fault Refusal := issue 0xF4 o s (fun c => .ok c.s [])

/-- HALTP (R419). -/
def execHaltp32 (o : Opnds) (s : State) : Host.Outcome State Fault Refusal := issue 0xF5 o s haltpMeaning

/-- HALTP (R419). -/
def execHaltp (o : Opnds) (s : State) : Host.Outcome State Fault Refusal := issue 0xF5 o s haltpMeaning

/-- STOPRD (R420). -/
def execStoprd (o : Opnds) (s : State) : Host.Outcome State Fault Refusal :=
  issue 0xF6 o s (fun c => .ok c.s [.s (Ctx.sn o.d) (stopWord c)])

/-- EVTRD (R421). -/
def execEvtrd32 (o : Opnds) (s : State) : Host.Outcome State Fault Refusal :=
  issue 0xF7 o s (fun c => .ok c.s [.s (Ctx.sn o.d) (eventCount c)])

/-- EVTRD (R421). -/
def execEvtrd (o : Opnds) (s : State) : Host.Outcome State Fault Refusal :=
  issue 0xF7 o s (fun c => .ok c.s [.s (Ctx.sn o.d) (eventCount c)])

/-- CYCLE (R422). -/
def execCycle32 (o : Opnds) (s : State) : Host.Outcome State Fault Refusal := issue 0xF8 o s cycleMeaning

/-- CYCLE (R422). -/
def execCycle (o : Opnds) (s : State) : Host.Outcome State Fault Refusal := issue 0xF8 o s cycleMeaning

/-- PARTY_STOP (R402, R404). -/
def execPartyStop (idx : Nat) (s : State) : Host.Outcome State Fault Refusal := .next (partyStop s idx)

/-- HANDLER_ENTRY (R405). -/
def execHandlerEntry (part : Nat) (s : State) : Host.Outcome State Fault Refusal := .next (startHandler s part)

/-- PREEMPT_COMPLETE (R410). -/
def execPreemptComplete (part : Nat) (s : State) : Host.Outcome State Fault Refusal := .next (preemptComplete s part)

/-- QUEUE_WATCHDOG_EXPIRY (R412). -/
def execQueueWatchdogExpiry (q : Nat) (s : State) : Host.Outcome State Fault Refusal := .next (queueExpiry s q)

/-- ARM_WATCHDOG_EXPIRY (R412). -/
def execArmWatchdogExpiry (part : Nat) (s : State) : Host.Outcome State Fault Refusal := .next (armExpiry s part)

/-- WATCHDOG_RESET (R413). -/
def execWatchdogReset (part : Nat) (s : State) : Host.Outcome State Fault Refusal := .next (watchdogReset s part)

/-- CLUSTER_FENCE (R416). -/
def execClusterFence (cl : Nat) (s : State) : Host.Outcome State Fault Refusal := .next (fenceCluster s cl)

end Sys2Proof.Machine
end

