-- ==== Sys2Proof/Machine/Boundary.lean ====
section
/-! DEFINITION. The host endpoint, the management ring, boot, attestation, the FRU record and eviction (R425 to R442). -/
namespace Sys2Proof.Machine

-- Power, eviction and boot (R349, R361, R435, R436, R441, R442)

/-- An SPA in SCM, its reserved area included. -/
def inScm (a : Nat) : Bool := 2 ^ 40 ≤ a && a < 4 * 2 ^ 40

/-- The package without its islands: SCM with its errors, the extension bits, fences, what lies outside the package, and the logs of what it
has sent out remain (R349, R362, R416, R439, log 5). -/
def darkened (s : State) : State :=
  { State.reset with
    clock := s.clock, fresh := s.fresh, agenda := s.agenda, mem := Tab.keep inScm s.mem, ue := s.ue.filter (fun g => inScm (256 * g)), ext := s.ext,
    clusters := s.clusters.filterMap (fun e => if e.2.fenced then some (e.1, { Cluster.zero with fenced := true }) else none),
    groups := s.groups, sw := s.sw, swClosed := s.swClosed, swLate := s.swLate, absent := s.absent, msix := s.msix, hostrd := s.hostrd,
    ejectN := s.ejectN, fru := s.fru, fruLog := s.fruLog, repl := s.repl, nret := s.nret, wout := s.wout, gone := s.gone, cfgAns := s.cfgAns,
    fuseKey := s.fuseKey, fuseVer := s.fuseVer, flash := s.flash, images := [], gated := List.range 24, power := false, bstat := 0, booted := false }

/-- POWER_FAIL (R349): every accepted entry drains, and nothing else but SCM remains. -/
def powerFail (s : State) : State := if s.power then darkened (s.pq.foldl liveWrite s) else s

/-- The kernel serves the management ring and the host's BARs (R436): the Wellhead's and the gateway's islands are up (R12). -/
def State.up (s : State) : Bool := s.booted && islandUp s 23 && islandUp s 21

/-- A cluster as its island leaves reset: a fence lasts (R416, R422). -/
def Cluster.reborn (c : Cluster) : Cluster := { Cluster.zero with fenced := c.fenced }

/-- The islands in the order in which they are powered up: the Wellhead, the hub islands, SCM, the fabric and cistern islands, the quadrants (R435). -/
def powerOrder : List Nat := [23, 20, 21, 22, 16, 17, 18, 19] ++ List.range 16

/-- An island is up again: its clusters and its cores' counters are as reset leaves them (R422), SCM's HUOK is 0 (R466); what else it holds
stands as it stood (DESIGN CHOICE, log 5). -/
def islandOn (s : State) (n : Nat) : State :=
  { s with
    gated := s.gated.filter (fun m => m ≠ n), since := Tab.set 0 s.since n s.clock,
    huok := s.huok && n ≠ 22, lowClk := if n = 22 then s.clock else s.lowClk,
    clusters := s.clusters.map (fun e => (e.1, if quadOf e.1 = n then e.2.reborn else e.2)) }

/-- The Wellhead gates an island, or restores it (R12, R434): each by itself, a quadrant only where no partition owns it. While the persist queue
holds an entry the request is refused with BUSY (R435). -/
def setIsland (s : State) (n : Nat) (on : Bool) : State :=
  if !s.power || !s.booted || 24 ≤ n || s.gated.contains n ≠ on then s
  else if on then islandOn s n
  else if n < 16 && (List.range 8).any (fun p => (s.part p).quads.getLsbD n) then s
  else if !s.pq.isEmpty then { s with pdBusy := s.pdBusy + 1 }
  else { s with gated := n :: s.gated }

/-- The check of an image: its signature, its key against the fused hash, and its version against the fused minimum (R436, R437). -/
def imageOk (s : State) (x : Image) : Bool := x.sigOk && x.key = s.fuseKey && decide (s.fuseVer ≤ x.version)

/-- An image is checked, and loaded where the check passes; else the step has failed and boot stops (R436). -/
def loadImage (s : State) (ok : Bool) (k step : Nat) : State :=
  match s.flash[k]? with
  | some x => if ok && imageOk s x then { s with bstat := step + 1, images := s.images ++ [x.hash] } else { s with bstat := 0x80 + step }
  | none => { s with bstat := 0x80 + step }

/-- BOOT (R436): from power-good the Wellhead's island is up and step 1 runs; then each event is one stage of the step that BSTAT shows. Steps 1 and 2
check and load the images, step 3 powers the islands one by one in their order (R435), step 4 fences every cluster that fails its self-test,
and step 5 reads the snapshot directory and opens the management ring. A step that fails stops boot, with its number in BSTAT. -/
def bootStage (s : State) (ok : Bool) (badClusters : List Nat) : State :=
  if !s.power then { darkened s with power := true, clock := 0, gated := List.range 23, bstat := 1 }
  else if s.booted then s
  else if s.bstat = 1 then loadImage s ok 0 1
  else if s.bstat = 2 then loadImage s ok 1 2
  else if 5 < s.bstat then s
  else if !ok then { s with bstat := 0x80 + s.bstat }
  else if s.bstat = 3 then (match powerOrder.find? s.gated.contains with
    | some n => islandOn s n
    | none => { s with bstat := 4 })
  else if s.bstat = 4 then { badClusters.foldl (fun s c => if 192 ≤ c || (s.cluster c).fenced then s
      else setRepl (s.modCluster c (fun x => { x with fenced := true })) 10) s with bstat := 5 }
  else { (List.range 8).foldl (fun s p => s.modPart p (fun x => { x with snap := bootSnap s p })) s with booted := true }

/-- The endpoint's answer to a configuration request: Request Retry Status until boot is complete (R436). -/
def configRead (s : State) : State := if islandUp s 21 then { s with cfgAns := s.cfgAns ++ [!s.booted] } else s

/-- A partition that the driver has configured. -/
def configured (s : State) : List Nat := (List.range 8).filter (fun p => (s.part p).quads ≠ 0)

/-- A request for eviction (R441, R442). -/
def evictRequest (s : State) : State :=
  if s.evst = .run && s.power && !(s.gated.contains 23) then (configured s).foldl (fun s p => s.raiseMsix (8 * p + 6)) { s with evst := .req, evStart := s.clock, evDone := [] } else s

/-- A withdrawal (R442). -/
def evictWithdraw (s : State) : State := if s.evst = .req || s.evst = .drain then { s with evst := .run, evDone := [], routes := true } else s

/-- EJECT_N, asserted or released. -/
def ejectPin (s : State) (level : Bool) : State :=
  let s := { s with ejectN := level }
  if level then evictRequest s else evictWithdraw s

/-- UNLATCH_OK (Table 19.4). -/
def State.unlatchOk (s : State) : Bool := s.evst = .ready

/-- EVICT_READY (Table 19.4), one stage at a time: once every partition has reported EVICT_DONE, the fabric routes go, and what reaches the package is
answered NOJOB (R442); once the gateway's queues and the persist queue are empty, the islands go down against the order of power-up, but for
the Wellhead's; and then the module is READY. -/
def evictReady (s : State) : State :=
  if s.evst ≠ .drain || !(configured s).all s.evDone.contains then s
  else if s.routes then { s with routes := false }
  else if !s.fout.isEmpty || !s.fin.isEmpty || !s.pq.isEmpty || !s.pwait.isEmpty then s
  else match powerOrder.tail.reverse.find? (fun n => !s.gated.contains n) with
    | some n => { s with gated := n :: s.gated }
    | none => { darkened s with evst := .ready, routes := false, gated := List.range 23 }

/-- EVICT_TIMEOUT: 30 s of 800,000,000 clocks in REQ or DRAIN (Table 19.4). -/
def evictTimeout (s : State) : State :=
  if (s.evst = .req || s.evst = .drain) && s.evStart + 30 * 800000000 ≤ s.clock then setRepl { s with evst := .failed } 16 else s

-- The host's BAR2 (R425, R426)

/-- Bytes of BAR2: HBM, all ones above 768 GiB; an error gives bytes that the spec does not state (log 4). -/
def bar2Bytes (s : State) (off n : Nat) : List Byte :=
  (List.range n).map (fun i =>
    if 0xC000000000 ≤ off + i then 0xFF else if ueAt s (off + i) 1 then Config.freeByte s.fresh i else s.byteAt (off + i))

/-- The host reaches bytes of BAR2: the endpoint serves it, and HBM behind no gated island (R12). -/
def bar2Up (s : State) (off n : Nat) : Bool := s.up && homesUp s off (min n (0xC000000000 - off))

/-- A host write to BAR2; bytes above 768 GiB are dropped. -/
def bar2Write (s : State) (off : Nat) (bs : List Byte) : State := if bar2Up s off bs.length then s.writeMem off (bs.take (0xC000000000 - off)) else s

/-- A host read of BAR2. -/
def bar2Read (s : State) (off n : Nat) : State := if bar2Up s off n then { s with hostrd := s.hostrd ++ [bar2Bytes s off n] } else s

/-- The result of a PCIe AtomicOp: FetchAdd of x, Swap with x, or CAS of x to y. -/
def pcieOp (op : PcieAtomic) (old x y : Nat) : Nat :=
  match op with
  | .fetchAdd => old + x
  | .swap => x
  | .cas => if old = x then y else old

/-- A host AtomicOp on BAR2 (R198, R425): one that is not aligned is not performed. -/
def bar2Atomic (s : State) (off : Nat) (op : PcieAtomic) (wide : Bool) (x y : Nat) : State :=
  let n := if wide then 8 else 4
  if !bar2Up s off n || off % n ≠ 0 then s
  else
    let old := bar2Bytes s off n
    let s1 := { s with hostrd := s.hostrd ++ [old] }
    if ueAt s off n then s1 else bar2Write s1 off (bytesOf (pcieOp op (ofBytes old) (x % 2 ^ (8 * n)) (y % 2 ^ (8 * n)) % 2 ^ (8 * n)) n)

-- The host's BAR0 (R425, R430)

/-- A byte of BAR0: MRTAIL, MRHEAD, HBEAT, BSTAT and the slots; the spec says nothing of the others (log 4). -/
def bar0Byte (s : State) (a : Nat) : Byte :=
  let at_ (lo n x : Nat) : Option Byte := if lo ≤ a && a < lo + n then some (BitVec.ofNat 8 (x / 256 ^ (a - lo))) else none
  ((at_ 0 8 s.mrtail).or ((at_ 8 8 s.mrhead).or ((at_ 0x1000 8 s.hbeat).or (at_ 0x1008 8 s.bstat)))).getD
    (if 0x10000 ≤ a && a < 0x14000 then Tab.get 0 s.bar0 a else Config.freeByte s.fresh a)

/-- A host read of BAR0. -/
def bar0Read (s : State) (off n : Nat) : State :=
  if islandUp s 21 then { s with hostrd := s.hostrd ++ [(List.range n).map (fun i => bar0Byte s (off + i))] } else s

-- The management ring (R429 to R433)

/-- MRTAIL_WRITE (R430): the driver fills slots and advances MRTAIL. -/
def mrtailWrite (s : State) (slots : List (Nat × Byte)) (tail : Nat) : State :=
  if !s.up then s
  else
    let s := slots.foldl (fun s b => if 0x10000 ≤ b.1 && b.1 < 0x14000 then { s with bar0 := Tab.set 0 s.bar0 b.1 b.2 } else s) s
    if s.mrhead ≤ tail && tail ≤ s.mrhead + 256 then { s with mrtail := tail } else s

/-- The slot of a command. -/
def slotAt (n : Nat) : Nat := 0x10000 + 64 * (n % 256)
/-- The bytes of the command at MRHEAD. -/
def State.command (s : State) : List Byte := Tab.getList 0 s.bar0 (slotAt s.mrhead) 64
/-- SUB of a command. -/
def cmdSub (b : List Byte) : Nat := leAt b 2 1
/-- PART of a command. -/
def cmdPart (b : List Byte) : Nat := leAt b 3 1
/-- IDX of a command. -/
def cmdIdx (b : List Byte) : Nat := leAt b 4 4
/-- ARG0 of a command. -/
def cmdArg0 (b : List Byte) : Nat := leAt b 8 8
/-- ARG1 of a command. -/
def cmdArg1 (b : List Byte) : Nat := leAt b 16 8
/-- ARG2 of a command. -/
def cmdArg2 (b : List Byte) : Nat := leAt b 24 8

/-- The status of a command (Table 19.2a). -/
inductive Status | ok | busy | bad | denied
deriving DecidableEq, Repr
/-- Its code. -/
def Status.code : Status → Nat
  | .ok => 0
  | .busy => 1
  | .bad => 2
  | .denied => 3

/-- Which of the table's commands a slot holds (Tables 19.2, 19.2b, 19.2c); none for an undefined CODE, SUB or field code. -/
def commandKind (b : List Byte) : Option Nat :=
  let sub := cmdSub b
  let idx := cmdIdx b
  match leAt b 0 1 with
  | 0x01 => if sub = 0 && idx ≤ 10 then some idx else none
  | 0x02 => if sub = 0 && idx ≤ 2 then some (11 + idx) else none
  | 0x03 => if sub = 0 then some 14 else none
  | 0x04 => if sub ≤ 1 then some (15 + sub) else none
  | 0x05 => if sub = 0 then some 17 else none
  | 0x06 => if sub = 0 then some 18 else none
  | 0x07 => if sub ≤ 2 then some (19 + sub) else none
  | 0x08 => if sub = 0 then some 22 else none
  | 0x09 => if sub = 0 then some 23 else none
  | 0x0A => if sub = 0 then some 24 else none
  | 0x0B => if sub = 0 then some 25 else none
  | 0x0C => if sub ≤ 1 then some (27 - sub) else none
  | _ => none

/-- The command uses PART; IDX; so many of the arguments; RES (Table 19.2b). -/
def commandUses (k : Nat) : Bool × Bool × Nat × Bool :=
  if k ≤ 13 then (true, true, 1, false)
  else if k = 14 then (false, true, 2, false)
  else if k ≤ 16 then (true, true, 1, false)
  else if k = 17 then (false, true, 1, false)
  else if k = 18 then (true, true, 1, false)
  else if k ≤ 21 then (true, false, 0, k = 19)
  else if k = 22 then (true, false, 1, false)
  else if k = 23 then (false, true, 1, true)
  else if k = 24 then (false, false, 3, true)
  else if k = 25 then (true, false, 0, false)
  else (false, false, 2, false)

/-- The fields that a command does not use are zero, and PART is a partition (R431). -/
def commandClean (k : Nat) (b : List Byte) : Bool :=
  let (p, i, n, r) := commandUses k
  cmdPart b ≤ (if p then 7 else 0) && (i || cmdIdx b = 0) && leAt b (8 + 8 * n) (24 - 8 * n) = 0 && (r || leAt b 32 32 = 0)

/-- The kernel's answer: RES, then STATUS, MRHEAD and vector 64 (R430). -/
def answerCmd (s : State) (st : Status) (res : List Byte) : State :=
  let a := slotAt s.mrhead
  ({ s with
    bar0 := Tab.setList 0 (Tab.setList 0 s.bar0 (a + 32) res) (a + 1) [BitVec.ofNat 8 st.code], mrhead := s.mrhead + 1 } : State).raiseMsix 64

/-- What a command comes to: a status without effect, or its effect and results. -/
abbrev Done := Except Status (State × List Byte)

/-- The kernel executes the command at MRHEAD where it is of a kind; an undefined one ends BAD (R430, R431). A command is not begun while an
NVMe command of its slot is out. -/
def execute (s : State) (k : Nat) (go : List Byte → Done) : State :=
  if !s.up || s.mrtail ≤ s.mrhead || !s.nvme.isEmpty then s
  else
    let b := s.command
    match commandKind b with
    | none => answerCmd s .bad []
    | some j =>
      if j ≠ k then s
      else if !commandClean k b then answerCmd s .bad []
      else match go b with
        | .error st => answerCmd s st []
        | .ok (s', res) => answerCmd s' .ok res

/-- A partition holds resident or queued work (Table 19.2). -/
def hasWork (s : State) (p : Nat) : Bool :=
  !(streamsOf s p).isEmpty || s.teams.any (fun e => e.2.any (fun t => t.part = p)) || s.launches.any (fun e => e.2.any (fun l => l.part = p))
    || !(eopsOf s p).isEmpty || (s.part p).ready.any (fun e => !e.2.isEmpty) || !(s.part p).gate.isEmpty

/-- A field of a partition is set: its value is in range, and the partition holds no work (R429, R431). -/
def partCfg (s : State) (b : List Byte) (ok : Bool) (f : Part → Part) : Done :=
  if !ok then .error .bad else if hasWork s (cmdPart b) then .error .busy else .ok (s.modPart (cmdPart b) f, [])

/-- An SPA and a length in populated HBM. -/
def inHbm (a n : Nat) : Bool := a + n ≤ 0xC000000000

/-- QUADS (R434): it also restarts the partition's SEQ series. -/
def cfgQuads (s : State) (b : List Byte) : Done :=
  let v := cmdArg0 b
  let others := (List.range 8).filter (fun q => q ≠ cmdPart b)
  if 65536 ≤ v then .error .bad
  else if others.any (fun q => (s.part q).quads &&& BitVec.ofNat 16 v ≠ 0) then .error .denied
  else partCfg s b true (fun x => { x with quads := BitVec.ofNat 16 v, seq := 0 })
/-- PTROOT (R185). -/
def cfgPtroot (s : State) (b : List Byte) : Done :=
  partCfg s b (cmdArg0 b % 4096 = 0 && inHbm (cmdArg0 b) 4096) (fun x => { x with ptroot := BitVec.ofNat 64 (cmdArg0 b) })
/-- SRBASE (R403). -/
def cfgSrbase (s : State) (b : List Byte) : Done :=
  partCfg s b (cmdArg0 b % 65536 = 0 && inHbm (cmdArg0 b) (2 ^ 20)) (fun x => { x with srbase := BitVec.ofNat 64 (cmdArg0 b) })
/-- TVEC (R405). -/
def cfgTvec (s : State) (b : List Byte) : Done := partCfg s b true (fun x => { x with tvec := BitVec.ofNat 64 (cmdArg0 b) })
/-- CTXBASE (R410). -/
def cfgCtxbase (s : State) (b : List Byte) : Done :=
  partCfg s b (cmdArg0 b % 65536 = 0 && inHbm (cmdArg0 b) 65536) (fun x => { x with ctxbase := BitVec.ofNat 64 (cmdArg0 b) })
/-- TABBASE (R391). -/
def cfgTabbase (s : State) (b : List Byte) : Done := partCfg s b (cmdArg0 b % 32 = 0) (fun x => { x with tabbase := BitVec.ofNat 64 (cmdArg0 b) })
/-- TABN (R391). -/
def cfgTabn (s : State) (b : List Byte) : Done := partCfg s b (cmdArg0 b ≤ 2 ^ 24) (fun x => { x with tabn := cmdArg0 b })
/-- TABCFG (R392): a 1 in a Reserved bit has no effect (R8; DESIGN CHOICE, log 60). -/
def cfgTabcfg (s : State) (b : List Byte) : Done :=
  let v : Addr := BitVec.ofNat 64 (cmdArg0 b % 2 ^ 57)
  partCfg s b (tabcfgOk v) (fun x => { x with tabcfg := v })
/-- MIGRING (R428). -/
def cfgMigring (s : State) (b : List Byte) : Done :=
  let v := cmdArg0 b
  match partCfg s b (v % 65536 = 0 && (regionOf v = .hbm || regionOf v = .host)) (fun x => { x with migring := BitVec.ofNat 64 v, migwi := 0 }) with
  | .ok (s', r) => .ok (if v = 0 then s' else s'.writeMem (v + 16384) (bytesOf 0 8), r)
  | .error e => .error e
/-- DOMCTL (Table 15.1): a 1 in a Reserved bit has no effect (R8; that it is no BAD is a DESIGN CHOICE, log 60). -/
def cfgDomctl (s : State) (b : List Byte) : Done :=
  let v := cmdArg0 b
  let kept := bits v 32 9 * 2 ^ 32 + bits v 16 16 * 2 ^ 16 + bits v 0 10
  partCfg s b true (fun x => { x with domctl := BitVec.ofNat 64 kept })
/-- NVMEPORTS (R433). -/
def cfgNvme (s : State) (b : List Byte) : Done :=
  let v := cmdArg0 b
  let others := (List.range 8).filter (fun q => q ≠ cmdPart b)
  if 3 < v then .error .bad
  else if others.any (fun q => (s.part q).nvmeports &&& v ≠ 0) then .error .denied
  else partCfg s b true (fun x => { x with nvmeports := v })

/-- PART_TUNE of a 32-bit register whose field is its low n bits; the bits above are Reserved (R8). -/
def tune (s : State) (b : List Byte) (n : Nat) (f : Word → Part → Part) : Done :=
  if 2 ^ 32 ≤ cmdArg0 b then .error .bad else .ok (s.modPart (cmdPart b) (f (wd (cmdArg0 b % 2 ^ n))), [])

/-- A queue begins to parse at RDIDX, its error and its fault report cleared (R378, R445). -/
def enableQueue (s : State) (q : Nat) (h : HQ) : State :=
  let s := s.setQueue q { h with en := true, st := 1, err := 0, waiting := none }
  match ringGet s h.part (h.ctl 8) 8 1 with
  | .error f => queueError s q 4 (some f)
  | .ok bs =>
    let s := s.setQueue q { s.queue q with head := ofBytes bs }
    match ringPut s h.part (h.ctl 16) (bytesOf 0 16) with
    | .error f => queueError s q 4 (some f)
    | .ok s' => s'

/-- The partition that owns a queue: the one that its descriptor names since a QUEUE_CFG, while it has quadrants (R378, R431; DESIGN CHOICE, log 60). -/
def queueOwner (s : State) (q : Nat) : Option Nat :=
  let h := s.queue q
  if h.owned && (s.part h.part).quads ≠ 0 then some h.part else none

/-- QUEUE_CFG (R378, R431, R445): a 1 in a Reserved bit of HQDESC has no effect (R8; DESIGN CHOICE, log 60). -/
def queueCfg (s : State) (b : List Byte) : Done :=
  let q := cmdIdx b
  let v := cmdArg0 b
  let h := s.queue q
  let n : HQ := { h with ring := BitVec.ofNat 64 (cmdArg1 b), log2 := bits v 12 4, pri := bits v 10 2, part := bits v 7 3, owned := true }
  let en := v % 2 = 1
  if 128 ≤ q || (en && (n.log2 < 2 || n.ring.toNat % 64 ≠ 0)) then .error .bad
  else if queueOwner s q ≠ none && queueOwner s q ≠ some n.part then .error .denied
  else if h.en && n ≠ h then .error .busy
  else if en then .ok (enableQueue s q n, [])
  else
    let r : HQ := { n with en := false, st := 0, waiting := none }
    .ok (s.setQueue q (if r.busy then r else { r with timer := 0 }), [])

/-- The counters that CNT_ALLOC names. -/
def cmdCounters (b : List Byte) : List Nat := (List.range (cmdArg0 b)).map (fun i => cmdIdx b + i)
/-- CNT_ALLOC's range, and whether another partition owns one of its counters. -/
def counterCfg (s : State) (b : List Byte) (go : List Nat → Done) : Done :=
  if 4096 ≤ cmdIdx b || 4096 < cmdIdx b + cmdArg0 b then .error .bad
  else if (cmdCounters b).any (fun c => (s.cnt c).v && (s.cnt c).part ≠ cmdPart b) then .error .denied
  else go (cmdCounters b)
/-- CNT_ALLOC (R375): a counter that the partition already holds stays as it is. -/
def cntAlloc (s : State) (b : List Byte) : Done :=
  counterCfg s b (fun cs => .ok (cs.foldl (fun s c => if (s.cnt c).v then s else s.setCnt c ⟨true, true, false, cmdPart b, 0, false, 0, 0, 0⟩) s, []))
/-- CNT_FREE (R375). -/
def cntFree (s : State) (b : List Byte) : Done :=
  counterCfg s b (fun cs => if cs.all (fun c => (s.cnt c).done) then .ok (cs.foldl (fun s c => s.setCounter c 0) s, []) else .error .busy)

/-- STREAM_CFG (R295): a 1 in a Reserved bit of Table 13.5 has no effect (R8; DESIGN CHOICE, log 60), WI is 0 and every subscription closes. An enabled stream's ring lies in the cistern (log 40). -/
def streamCfg (s : State) (b : List Byte) : Done :=
  let v := cmdArg0 b
  let kept := bits v 63 1 * 2 ^ 63 + bits v 52 4 * 2 ^ 52 + bits v 37 3 * 2 ^ 37 + bits v 15 15 * 2 ^ 15
  let ring := 1 ≤ bits v 52 4 && bits v 15 15 * 32768 + (bits v 52 4 + 1) * 32768 ≤ 0x18800000
  if 256 ≤ cmdIdx b || (bits v 63 1 = 1 && !ring) then .error .bad
  else .ok (s.setStrm (cmdIdx b) { StrmEnt.zero with reg := BitVec.ofNat 64 kept }, [])

/-- The members of a group record (Table 19.2d). -/
def groupMembers (bs : List Byte) (n : Nat) : List Nat := (List.range n).map (fun i => leAt bs (16 + 2 * i) 2)
/-- No member twice. -/
def distinct : List Nat → Bool
  | [] => true
  | x :: xs => !xs.contains x && distinct xs

/-- The members of a group's entry as it stands in the switch. -/
def formerMembers (s : State) (g : Nat) : List Nat := ((Tab.get none s.groups g).map (fun e => e.members)).getD []

/-- A group entry, or its removal, takes effect: in the switch, in this package's copy where it is a member, and with every sequence of the group
at 0 (R338, R432). -/
def installGroup (s : State) (g : Nat) (e : Option Group) : State :=
  let copy : Option Group := e.filter (fun x => x.members.any (fun m => ownPkg s x.djob m))
  { s with
    groups := Tab.set none s.groups g e, gcopy := Tab.set none s.gcopy g copy, gseq := Tab.set 0 s.gseq g 0,
    sw := s.sw.filter (fun q => q.group ≠ g), swClosed := s.swClosed.filter (fun q => q.1 ≠ g),
    rx := s.rx.filter (fun q => q.aux % 65536 ≠ g) }

/-- GROUP_CFG (R432, R338): the switch and every member, or none where one cannot be reached. -/
def groupCfg (s : State) (b : List Byte) : Done :=
  let g := cmdIdx b
  let a := cmdArg0 b
  let x := s.part (cmdPart b)
  let n := leAt (s.readMem a 16) 2 2
  let len := (16 + 2 * n + 63) / 64 * 64
  let bs := s.readMem a len
  let ms := groupMembers bs n
  if 4096 ≤ g || a % 64 ≠ 0 || !(inHbm a 64) || 512 < n || n = 1 || !(inHbm a len) then .error .bad
  else if leAt bs 4 1 = 0 || 16 < leAt bs 4 1 || leAt bs 0 2 ≠ x.djob || leAt bs 5 1 ≠ 0 || leAt bs 8 8 ≠ 0
      || leAt bs (16 + 2 * n) (len - 16 - 2 * n) ≠ 0 || !(distinct ms) || ms.any (fun m => x.dlast < m) then .error .bad
  else
    if (ms ++ formerMembers s g).any s.absent.contains then .error .busy
    else .ok (installGroup s g (if n = 0 then none else some ⟨leAt bs 0 2, ms, leAt bs 4 1, leAt bs 6 2⟩), [])

/-- GROUP_CFG by another member's driver (R338, R432): the switch has every member acknowledge, or changes nothing. -/
def groupFrom (s : State) (g : Nat) (e : Option Group) : State :=
  let ms := (e.map (fun x => x.members)).getD []
  if 4096 ≤ g || !s.up || !distinct ms || (ms ++ formerMembers s g).any s.absent.contains then s else installGroup s g e

/-- PREEMPT (R410): the collector is asked; RES holds the size that the contexts need. -/
def preemptCmd (s : State) (b : List Byte) : Done :=
  let p := cmdPart b
  .ok (if (s.part p).pre = 0 then s.modPart p (fun x => { x with pre := 1 }) else s, bytesOf (Config.ctxSize p).toNat 8)

/-- MBOX_ANSWER (R409). -/
def mboxAnswer (s : State) (b : List Byte) : Done :=
  let p := cmdPart b
  if !(s.part p).mboxst.getLsbD 1 then .error .busy
  else .ok (s.modPart p (fun x => { x with mboxi := BitVec.ofNat 64 (cmdArg0 b), mboxst := x.mboxst &&& ~~~2 ||| 1 }), [])

/-- The partition that owns a root port. -/
def portOwner (s : State) (port : Nat) : Option Nat := (List.range 8).find? (fun p => (s.part p).nvmeports.testBit port)

/-- NVME_SUBMIT (R433): the command is posted, and its slot is answered when it completes. -/
def nvmeSubmit (s : State) : State :=
  if !s.up || s.mrtail ≤ s.mrhead || !s.nvme.isEmpty then s
  else
    let b := s.command
    match commandKind b with
    | none => answerCmd s .bad []
    | some k =>
      if k ≠ 23 || !homesUp s (cmdArg0 b) 64 then s
      else if !(commandClean k b) || 1 < cmdIdx b || !(inHbm (cmdArg0 b) 64) then answerCmd s .bad []
      else match portOwner s (cmdIdx b) with
        | none => answerCmd s .busy []
        | some p => { s with nvme := [⟨cmdIdx b, s.mrhead % 256, p, s.readMem (cmdArg0 b) 64⟩] }

/-- The frame of an HBM byte is granted to a partition (R433). -/
def granted (s : State) (p a : Nat) : Bool := inHbm a 1 && s.grants.contains (p, a / 65536)

/-- The kernel grants an HBM frame to a partition's controllers, or takes it back (R433). -/
def setGrant (s : State) (p frame : Nat) (on : Bool) : State :=
  if !s.up || !(inHbm (65536 * frame) 65536) then s
  else { s with grants := if on then (if s.grants.contains (p, frame) then s.grants else (p, frame) :: s.grants) else s.grants.filter (fun e => e ≠ (p, frame)) }

/-- A completion entry whose status field says an error: the one it has, or where it claims success a free one (NVMe 2.0: bits [15:1] of its
last two bytes; PRESUMED, log 61). -/
def withError (s : State) (entry : List Byte) : List Byte :=
  let w := leAt entry 14 2
  if w / 2 ≠ 0 then entry
  else entry.take 14 ++ bytesOf (w + 2 * (1 + (Config.freeWord s.fresh 0).toNat % 32767)) 2

/-- NVME_COMPLETION (R433): what the controller wrote by DMA to frames granted to its partition is in HBM before the completion entry is in the slot;
DMA elsewhere is answered Unsupported Request, and the command completes with an error. -/
def nvmeComplete (s : State) (port : Nat) (entry : List Byte) (dma : List (Nat × Byte)) : State :=
  match s.nvme with
  | n :: rest =>
    let mine := dma.filter (fun d => granted s n.part d.1)
    let others := (dma.filter (fun d => !granted s n.part d.1)).length
    if n.port ≠ port || !s.up || mine.any (fun d => !homesUp s d.1 1) then s
    else
      let s := mine.foldl (fun s d => s.writeMem d.1 [d.2]) s
      let e := entry.take 16
      answerCmd { s with nvme := rest, ur := s.ur + others } .ok (if others = 0 then e else withError s e)
  | [] => s

/-- Where the identity key's index counter lies: after the directory in the reserved area (log 41). -/
def indexSpa : Nat := scmSpa (dirOff + 512)

/-- What an attestation reports of the package (R438); the order of the fields is the model's (log 41). -/
def attestBody (s : State) (nonce : List Byte) : List Byte :=
  nonce ++ ((fruCopy s (fruNewest s)).drop 4).take 68 ++ s.images.flatMap (fun h => bytesOf h.toNat 32) ++ bytesOf s.fuseVer 4
    ++ (List.range 192).map (fun c => if (s.cluster c).fenced then 1 else 0) ++ [s.repl]

/-- A signature of XMSS-SHAKE256_20_256 (R437): the index, the randomizer, 67 chains of 32 bytes and a path of 20 nodes, as SP 800-208 lays it out
(PRESUMED, log 41); what it holds beside the index is free (log 4). -/
def xmss (s : State) (idx : Nat) : List Byte :=
  (bytesOf (idx % 2 ^ 32) 4).reverse ++ (List.range (32 + 67 * 32 + 20 * 32)).map (fun i => Config.sign s.fresh i)

/-- The signed report: what is reported, then the signature. -/
def report (s : State) (nonce : List Byte) (idx : Nat) : List Byte := attestBody s nonce ++ xmss s idx

/-- ATTEST (R438): the index counter advances through the persist queue, and then the signed report is written. The command waits for the queue, and
for islands that are gated. -/
def attest (s : State) : State :=
  let b := s.command
  let far := !homesUp s (cmdArg0 b) 32 || !homesUp s (cmdArg1 b) (cmdArg2 b)
  if commandKind b = some 24 && !(islandUp s 22 && s.huok && s.pq.length < pqSize && !far) then s
  else execute s 24 (fun b =>
    let idx := ofBytes (scmNow s indexSpa 8)
    let rep := report s (s.readMem (cmdArg0 b) 32) idx
    if !(inHbm (cmdArg0 b) 32) || !(inHbm (cmdArg1 b) (cmdArg2 b)) || cmdArg2 b < rep.length then .error .bad
    else
      let e : PEnt := ⟨s.pseq + 1, 0, none, none, indexSpa, (bytesOf (idx + 1) 8).zipIdx.map (fun x => (indexSpa + x.2, x.1)), 0⟩
      .ok (({ s with pq := s.pq ++ [e], pseq := s.pseq + 1 } : State).writeMem (cmdArg1 b) rep, bytesOf rep.length 4))

/-- The driver retires an HBM frame in which an uncorrectable error stands (R208, R416, R440). -/
def retireFrame (s : State) (f : Nat) : State :=
  if s.up && inHbm (65536 * f) 65536 && s.ue.any (fun g => g / 256 = f) then setRepl { s with nret := s.nret + 1 } 4 else s

/-- EVICT_DONE (R372, Table 19.4): the first takes REQ to DRAIN. -/
def evictDone (s : State) (b : List Byte) : Done :=
  let p := cmdPart b
  if s.evst ≠ .req && s.evst ≠ .drain then .error .busy
  else .ok ({ s with evst := .drain, evDone := if s.evDone.contains p then s.evDone else p :: s.evDone }, [])

/-- FRAME_EXT (R362). -/
def frameExt (s : State) (on : Bool) (b : List Byte) : Done :=
  let a := cmdArg0 b
  let n := cmdArg1 b
  if a % 65536 ≠ 0 || scmLimit < a + 65536 * n then .error .bad
  else .ok ({ s with ext := (List.range n).foldl (fun t i => Tab.set false t (a / 65536 + i) on) s.ext }, [])

/-- PART_CFG_QUADS (R434). -/
def execPartCfgQuads (s : State) : Host.Outcome State Fault Refusal := .next (execute s 0 (cfgQuads s))

/-- PART_CFG_PTROOT (R185). -/
def execPartCfgPtroot (s : State) : Host.Outcome State Fault Refusal := .next (execute s 1 (cfgPtroot s))

/-- PART_CFG_SRBASE (R403). -/
def execPartCfgSrbase (s : State) : Host.Outcome State Fault Refusal := .next (execute s 2 (cfgSrbase s))

/-- PART_CFG_TVEC (R405). -/
def execPartCfgTvec (s : State) : Host.Outcome State Fault Refusal := .next (execute s 3 (cfgTvec s))

/-- PART_CFG_CTXBASE (R410). -/
def execPartCfgCtxbase (s : State) : Host.Outcome State Fault Refusal := .next (execute s 4 (cfgCtxbase s))

/-- PART_CFG_TABBASE (R391). -/
def execPartCfgTabbase (s : State) : Host.Outcome State Fault Refusal := .next (execute s 5 (cfgTabbase s))

/-- PART_CFG_TABN (R391). -/
def execPartCfgTabn (s : State) : Host.Outcome State Fault Refusal := .next (execute s 6 (cfgTabn s))

/-- PART_CFG_TABCFG (R392). -/
def execPartCfgTabcfg (s : State) : Host.Outcome State Fault Refusal := .next (execute s 7 (cfgTabcfg s))

/-- PART_CFG_MIGRING (R428). -/
def execPartCfgMigring (s : State) : Host.Outcome State Fault Refusal := .next (execute s 8 (cfgMigring s))

/-- PART_CFG_DOMCTL (R323). -/
def execPartCfgDomctl (s : State) : Host.Outcome State Fault Refusal := .next (execute s 9 (cfgDomctl s))

/-- PART_CFG_NVMEPORTS (R433). -/
def execPartCfgNvmeports (s : State) : Host.Outcome State Fault Refusal := .next (execute s 10 (cfgNvme s))

/-- PART_TUNE_MTO (R205). -/
def execPartTuneMto (s : State) : Host.Outcome State Fault Refusal :=
  .next (execute s 11 (fun b => tune s b 5 (fun w x => { x with mto := w })))

/-- PART_TUNE_MIGTH (R275). -/
def execPartTuneMigth (s : State) : Host.Outcome State Fault Refusal :=
  .next (execute s 12 (fun b => tune s b 8 (fun w x => { x with migth := w })))

/-- PART_TUNE_WDCFG (R412). -/
def execPartTuneWdcfg (s : State) : Host.Outcome State Fault Refusal :=
  .next (execute s 13 (fun b => tune s b 5 (fun w x => { x with wdcfg := w })))

/-- QUEUE_CFG (R378, R431). -/
def execQueueCfg (s : State) : Host.Outcome State Fault Refusal := .next (execute s 14 (queueCfg s))

/-- CNT_ALLOC (R375). -/
def execCntAlloc (s : State) : Host.Outcome State Fault Refusal := .next (execute s 15 (cntAlloc s))

/-- CNT_FREE (R375). -/
def execCntFree (s : State) : Host.Outcome State Fault Refusal := .next (execute s 16 (cntFree s))

/-- STREAM_CFG (R295). -/
def execStreamCfg (s : State) : Host.Outcome State Fault Refusal := .next (execute s 17 (streamCfg s))

/-- GROUP_CFG (R432). -/
def execGroupCfg (s : State) : Host.Outcome State Fault Refusal :=
  .next (if commandKind s.command = some 18 && !homesUp s (cmdArg0 s.command) 1088 then s else execute s 18 (groupCfg s))

/-- PREEMPT (R410). -/
def execPreempt (s : State) : Host.Outcome State Fault Refusal := .next (execute s 19 (preemptCmd s))

/-- RESTORE (R410). -/
def execRestore (s : State) : Host.Outcome State Fault Refusal := .next (execute s 20 (fun b => .ok (restorePart s (cmdPart b), [])))

/-- RESET (R413). -/
def execReset (s : State) : Host.Outcome State Fault Refusal := .next (execute s 21 (fun b => .ok (resetPart s (cmdPart b) 0x1000, [])))

/-- MBOX_ANSWER (R409). -/
def execMboxAnswer (s : State) : Host.Outcome State Fault Refusal := .next (execute s 22 (mboxAnswer s))

/-- NVME_SUBMIT (R433). -/
def execNvmeSubmit (s : State) : Host.Outcome State Fault Refusal := .next (nvmeSubmit s)

/-- NVME_COMPLETION (R433). -/
def execNvmeCompletion (port : Nat) (entry : List Byte) (dma : List (Nat × Byte)) (s : State) : Host.Outcome State Fault Refusal :=
  .next (nvmeComplete s port entry dma)

/-- ATTEST (R438). -/
def execAttest (s : State) : Host.Outcome State Fault Refusal := .next (attest s)

/-- EVICT_DONE (R372, R429). -/
def execEvictDone (s : State) : Host.Outcome State Fault Refusal := .next (execute s 25 (evictDone s))

/-- FRAME_EXT_SET (R362). -/
def execFrameExtSet (s : State) : Host.Outcome State Fault Refusal := .next (execute s 26 (frameExt s true))

/-- FRAME_EXT_CLEAR (R362). -/
def execFrameExtClear (s : State) : Host.Outcome State Fault Refusal := .next (execute s 27 (frameExt s false))

/-- MRTAIL_WRITE (R430). -/
def execMrtailWrite (slots : List (Nat × Byte)) (tail : Nat) (s : State) : Host.Outcome State Fault Refusal :=
  .next (mrtailWrite s slots tail)

/-- HOST_BAR2_WRITE (R426). -/
def execHostBar2Write (off : Nat) (bytes : List Byte) (s : State) : Host.Outcome State Fault Refusal := .next (bar2Write s off bytes)

/-- HOST_BAR2_READ (R426). -/
def execHostBar2Read (off n : Nat) (s : State) : Host.Outcome State Fault Refusal := .next (bar2Read s off n)

/-- HOST_BAR2_ATOMICOP (R425). -/
def execHostBar2Atomicop (off : Nat) (op : PcieAtomic) (bytes64 : Bool) (x y : Nat) (s : State) : Host.Outcome State Fault Refusal :=
  .next (bar2Atomic s off op bytes64 x y)

/-- POWER_FAIL (R349). -/
def execPowerFail (s : State) : Host.Outcome State Fault Refusal := .next (powerFail s)

/-- BOOT (R436). -/
def execBoot (fwOk : Bool) (badClusters : List Nat) (s : State) : Host.Outcome State Fault Refusal := .next (bootStage s fwOk badClusters)

/-- HBEAT (R437): once a millisecond; timing is not modelled. -/
def execHbeat (s : State) : Host.Outcome State Fault Refusal := .next (if s.up then { s with hbeat := s.hbeat + 1 } else s)

/-- EJECT_N (R441, R442). -/
def execEjectN (level : Bool) (s : State) : Host.Outcome State Fault Refusal := .next (ejectPin s level)

/-- EVICT_REQUEST (R441). -/
def execEvictRequest (s : State) : Host.Outcome State Fault Refusal := .next (evictRequest s)

/-- EVICT_WITHDRAW (R442). -/
def execEvictWithdraw (s : State) : Host.Outcome State Fault Refusal := .next (evictWithdraw s)

/-- EVICT_READY (R441). -/
def execEvictReady (s : State) : Host.Outcome State Fault Refusal := .next (evictReady s)

/-- EVICT_TIMEOUT (R441). -/
def execEvictTimeout (s : State) : Host.Outcome State Fault Refusal := .next (evictTimeout s)

/-- FRU_READ (R439). -/
def execFruRead (s : State) : Host.Outcome State Fault Refusal := .next ({ s with fruLog := s.fruLog ++ [fruCopy s (fruNewest s)] })

/-- REPL_CLEAR (R440): a service tool, with the strap fitted. -/
def execReplClear (s : State) : Host.Outcome State Fault Refusal := .next (fruWrite { s with repl := 0 })

end Sys2Proof.Machine
end

