-- ==== Sys2Proof/Machine/Speculation.lean ====
section
/-! DEFINITION. Try regions: opening, committing and ending one (R231 to R250, R457). -/
namespace Sys2Proof.Machine

/-- Some register write of the course is pending on a reply (R245). -/
def writesOut (s : State) (sid : Nat) : Bool :=
  s.ott.any (fun e => match e.2 with
    | some x => x.sid = sid && !x.drop && !x.gone && x.pieces.any (fun p => p.dst ≠ .none)
    | none => false)

/-- The checkpoint's widths K and J by the region header (R232). -/
def checkpoint (t : Stream) (h : Hdr) : Nat × Nat :=
  if h.tryres then (h.livev + 1, min h.lives 60) else (min t.nsh t.rg, 60)

/-- Shadow registers take v0 to v(K - 1) of the lanes of a mask (R232). -/
def Stream.shadow (t : Stream) (k : Nat) (m : Lanes) : Stream :=
  (List.range k).foldl (fun t i => m.list.foldl (fun t l =>
    { t with v := Tab.set 0 t.v (96 * (t.rg + i) + l) (t.vAt i l),
             vp := Tab.set false t.vp (96 * (t.rg + i) + l) (Tab.get false t.vp (96 * i + l)) }) t) t

/-- TRYST of a region just opened: DEPTH 1, ACT 1 (R245, Table 11.4). -/
def trystOpen : Word := 0x180

/-- TRYST with a nesting depth. -/
def withDepth (w : Word) (n : Nat) : Word := (w &&& ~~~0x700#32) ||| wd (n * 256)

/-- The issuing path enters the header after its instruction. -/
def Ctx.fallIn (c : Ctx) (t : Stream) : Eff := .jump (enterHeader (c.s.setStream c.sid t) c.sid c.k 0x06 true c.nextPc)

/-- The stream with a region just opened (R232, R245). -/
def Stream.opened (t : Stream) (k j : Nat) (p : Path) (em : Lanes) (target : Addr) : Stream :=
  let saved := t.scalars j
  { t.shadow k p.own with
    tr := some { ctl := t.ctl.settled, emt := em, own := p.own, k := k, j := j, scal := saved.1, sp := saved.2, target := target, buf := [],
                 ord := 0, ext := false },
    abortm := 0, tryst := trystOpen }

/-- TRY (R242, R245). At a blocked page the read of the word after it waits (R202, log 15). -/
def tryMeaning (c : Ctx) : Eff :=
  if c.t.inTry then c.fallIn { c.t with tryst := withDepth c.t.tryst (c.t.depth + 1) }
  else if c.t.divided then .trap 0x22 0 0
  else if unready c.s c.t.part c.nextPc.toNat 8 then .wait
  else match access c.s c.who Acc.fetch c.nextPc.toNat 8 1 with
    | .error f => .trap f.code f.addr 0
    | .ok _ =>
      let h := hdrOf ((codeWord c.s c.who c.nextPc).getD 0) ((codeWord c.s c.who (c.nextPc + 4)).getD 0)
      if !targetOk c.s c.who c.nextPc || !h.tryf then .trap 0x23 0 0
      else
        let kj := checkpoint c.t h
        if c.t.nsh = 0 || c.t.nsh < kj.1 then .trap 0x21 0 0
        else if writesOut c.s c.sid then .wait
        else c.fallIn (c.t.opened kj.1 kj.2 c.p c.act (c.pc + toffOf c.o.b))

/-- Insert a sector by the order of its first buffered store. -/
def insertSector (b : Sector) : List Sector → List Sector
  | [] => [b]
  | x :: rest => if b.ord < x.ord then b :: x :: rest else x :: insertSector b rest

/-- The written sectors of a buffer in the order of their first buffered stores (R246). -/
def writtenSectors (buf : List Sector) : List Sector := (buf.filter (fun b => b.writer.isSome)).foldl (fun l b => insertSector b l) []

/-- Some load issued in the region is outstanding (R246). -/
def tryLoadsOut (s : State) (sid : Nat) : Bool :=
  s.ott.any (fun e => match e.2 with
    | some x => x.sid = sid && x.inTry && !x.gone
    | none => false)

/-- The commit clock (R246, R457): the written sectors enter the drain stage and the region ends. -/
def commitRegion (c : Ctx) (r : Region) : State :=
  let secs := writtenSectors r.buf
  let ds : List Drain := secs.map (fun b => ⟨c.sid, c.t.part, c.cl, b.addr, b.bytes, c.pc, b.va, none, c.t.launch, false, c.t.team, false, c.s.fresh⟩)
  let s := extWrites { c.s with drains := c.s.drains ++ ds } c.sid (secs.map (fun b => (b.addr, 32)))
  s.modStream c.sid (fun t =>
    { (t.setPath c.k (some { c.p with em := r.emt &&& c.p.own })) with
      tr := none, tryst := t.tryst &&& ~~~0x780#32, outst := t.outst + ds.length })

/-- COMMIT (R242, R246). -/
def commitMeaning (c : Ctx) : Eff :=
  match c.t.tr with
  | none => .trap 0x23 0 0
  | some r =>
    if !c.t.inTry then .trap 0x23 0 0
    else if 2 ≤ c.t.depth then .ok (c.s.setStream c.sid { c.t with tryst := withDepth c.t.tryst (c.t.depth - 1) }) []
    else if c.t.divided then .trap 0x22 0 0
    else if tryLoadsOut c.s c.sid then .wait
    else .ok (commitRegion c r) []

/-- ABORT (R247). -/
def abortMeaning (c : Ctx) : Eff :=
  if !c.t.inTry then .trap 0x23 0 0
  else
    let u := bits (c.uni c.o.a).toNat 0 8
    .jump (setAbort (c.s.setStream c.sid { c.t with tryst := (c.t.tryst &&& 0x00FFFFFF#32) ||| wd (u * 16777216) }) c.sid ⟨6, 0, 0⟩)

/-- TRYST and TRYST.M (R249). -/
def trystMeaning (c : Ctx) : Eff :=
  .ok c.s (if c.o.mod = 1 then wrTriple (Ctx.sn c.o.d) c.t.abortm else [.s (Ctx.sn c.o.d) c.t.tryst])

/-- TRYADDR (R249). -/
def tryaddrMeaning (c : Ctx) : Eff := .ok c.s (wrPair (Ctx.sn c.o.d) c.t.tryaddr)

/-- TRYDROP (R248). -/
def trydropMeaning (c : Ctx) : Eff :=
  if !c.t.inTry then .trap 0x23 0 0
  else
    let t1 := (c.triple (Ctx.sn c.o.a) &&& c.act).list.foldl Stream.rollback c.t
    .ok (afterTry c.s c.sid c.t t1) []

/-- Where a stream's first sector that has not been sent stands in the drain stage. -/
def firstDrain (s : State) (sid : Nat) : Option Nat := s.drains.findIdx? (fun d => d.sid = sid && d.tag.isNone)

/-- TRY (R245). -/
def execTryRegion (o : Opnds) (s : State) : Host.Outcome State Fault Refusal := issue 0x90 o s tryMeaning

/-- COMMIT (R246). -/
def execCommit32 (o : Opnds) (s : State) : Host.Outcome State Fault Refusal := issue 0x91 o s commitMeaning

/-- COMMIT (R246). -/
def execCommit (o : Opnds) (s : State) : Host.Outcome State Fault Refusal := issue 0x91 o s commitMeaning

/-- ABORT (R247). -/
def execAbort32 (o : Opnds) (s : State) : Host.Outcome State Fault Refusal := issue 0x92 o s abortMeaning

/-- ABORT (R247). -/
def execAbort (o : Opnds) (s : State) : Host.Outcome State Fault Refusal := issue 0x92 o s abortMeaning

/-- TRYST (R249). -/
def execTryst32 (o : Opnds) (s : State) : Host.Outcome State Fault Refusal := issue 0x93 o s trystMeaning

/-- TRYST (R249). -/
def execTryst (o : Opnds) (s : State) : Host.Outcome State Fault Refusal := issue 0x93 o s trystMeaning

/-- TRYADDR (R249). -/
def execTryaddr32 (o : Opnds) (s : State) : Host.Outcome State Fault Refusal := issue 0x94 o s tryaddrMeaning

/-- TRYADDR (R249). -/
def execTryaddr (o : Opnds) (s : State) : Host.Outcome State Fault Refusal := issue 0x94 o s tryaddrMeaning

/-- TRYDROP (R248). -/
def execTrydrop32 (o : Opnds) (s : State) : Host.Outcome State Fault Refusal := issue 0x95 o s trydropMeaning

/-- TRYDROP (R248). -/
def execTrydrop (o : Opnds) (s : State) : Host.Outcome State Fault Refusal := issue 0x95 o s trydropMeaning

/-- COMMIT_SECTOR_SEND: the next committed sector of a stream is sent (R246, R457); no sector, no effect. -/
def execCommitSectorSend (sid : Nat) (s : State) : Host.Outcome State Fault Refusal :=
  .next (match firstDrain s sid with
    | some k => sendDrain s k
    | none => s)

end Sys2Proof.Machine
end

