-- ==== Sys2Proof/Machine/Dispatch.lean ====
section
/-! DEFINITION. The dispatcher: one arm for each row of spec/opcode_table.json. -/
namespace Sys2Proof.Machine

/-- The meaning of each instruction and event. -/
def exec (i : Instr) (s : State) : Host.Outcome State Fault Refusal :=
  match i with
  | .commitSectorSend sid => Sys2Proof.Machine.execCommitSectorSend sid s
  | .copyRow op => Sys2Proof.Machine.execCopyRow op s
  | .gatherRow op => Sys2Proof.Machine.execGatherRow op s
  | .scatterIndex op => Sys2Proof.Machine.execScatterIndex op s
  | .engineOpComplete op => Sys2Proof.Machine.execEngineOpComplete op s
  | .tileOpComplete cl op => Sys2Proof.Machine.execTileOpComplete cl op s
  | .slotPublished st => Sys2Proof.Machine.execSlotPublished st s
  | .subscriptionSlotCopy st cl => Sys2Proof.Machine.execSubscriptionSlotCopy st cl s
  | .mmaExecute cl => Sys2Proof.Machine.execMmaExecute cl s
  | .drainExecute cl => Sys2Proof.Machine.execDrainExecute cl s
  | .drainPushResume cl => Sys2Proof.Machine.execDrainPushResume cl s
  | .acczExecute cl => Sys2Proof.Machine.execAcczExecute cl s
  | .amodeSwitch cl => Sys2Proof.Machine.execAmodeSwitch cl s
  | .sloadExecute cl => Sys2Proof.Machine.execSloadExecute cl s
  | .sstoreExecute cl => Sys2Proof.Machine.execSstoreExecute cl s
  | .szeroExecute cl => Sys2Proof.Machine.execSzeroExecute cl s
  | .sevalExecute cl => Sys2Proof.Machine.execSevalExecute cl s
  | .sderExecute cl => Sys2Proof.Machine.execSderExecute cl s
  | .sgradExecute cl => Sys2Proof.Machine.execSgradExecute cl s
  | .srefineExecute cl => Sys2Proof.Machine.execSrefineExecute cl s
  | .rdPacket p => Sys2Proof.Machine.execRdPacket p s
  | .wrPacket p => Sys2Proof.Machine.execWrPacket p s
  | .wrfPacket p => Sys2Proof.Machine.execWrfPacket p s
  | .atPacket p => Sys2Proof.Machine.execAtPacket p s
  | .csPacket p => Sys2Proof.Machine.execCsPacket p s
  | .flgPacket p => Sys2Proof.Machine.execFlgPacket p s
  | .msgPacket p => Sys2Proof.Machine.execMsgPacket p s
  | .mcstPacket p => Sys2Proof.Machine.execMcstPacket p s
  | .mcrdPacket p => Sys2Proof.Machine.execMcrdPacket p s
  | .mcrrPacket p => Sys2Proof.Machine.execMcrrPacket p s
  | .nackPacket p => Sys2Proof.Machine.execNackPacket p s
  | .packetDropped p => Sys2Proof.Machine.execPacketDropped p s
  | .absenceWindowExpiry group sq => Sys2Proof.Machine.execAbsenceWindowExpiry group sq s
  | .flitReplay port => Sys2Proof.Machine.execFlitReplay port s
  | .linkDown port lostPkgs => Sys2Proof.Machine.execLinkDown port lostPkgs s
  | .pAccept k => Sys2Proof.Machine.execPAccept k s
  | .persistDrain => Sys2Proof.Machine.execPersistDrain s
  | .windlassSweep part page => Sys2Proof.Machine.execWindlassSweep part page s
  | .localCommit part => Sys2Proof.Machine.execLocalCommit part s
  | .stripeContribution djob stripe idx step unit => Sys2Proof.Machine.execStripeContribution djob stripe idx step unit s
  | .stripeCommit part => Sys2Proof.Machine.execStripeCommit part s
  | .powerFail => Sys2Proof.Machine.execPowerFail s
  | .holdupCharged => Sys2Proof.Machine.execHoldupCharged s
  | .holdupLow => Sys2Proof.Machine.execHoldupLow s
  | .holdupLowTimeout => Sys2Proof.Machine.execHoldupLowTimeout s
  | .nopPacket q => Sys2Proof.Machine.execNopPacket q s
  | .launchPacket q => Sys2Proof.Machine.execLaunchPacket q s
  | .copyPacket q => Sys2Proof.Machine.execCopyPacket q s
  | .signalSet q => Sys2Proof.Machine.execSignalSet q s
  | .signalDec q => Sys2Proof.Machine.execSignalDec q s
  | .signalDecFailed q => Sys2Proof.Machine.execSignalDecFailed q s
  | .waitPacket q => Sys2Proof.Machine.execWaitPacket q s
  | .cancelPacket q => Sys2Proof.Machine.execCancelPacket q s
  | .armPacket q => Sys2Proof.Machine.execArmPacket q s
  | .disarmPacket q => Sys2Proof.Machine.execDisarmPacket q s
  | .concurrentAdmit l => Sys2Proof.Machine.execConcurrentAdmit l s
  | .batchHandoff l die => Sys2Proof.Machine.execBatchHandoff l die s
  | .priorityAging w => Sys2Proof.Machine.execPriorityAging w s
  | .tabStart part cl => Sys2Proof.Machine.execTabStart part cl s
  | .teamDisplace tm => Sys2Proof.Machine.execTeamDisplace tm s
  | .launchComplete l => Sys2Proof.Machine.execLaunchComplete l s
  | .cancelComplete l => Sys2Proof.Machine.execCancelComplete l s
  | .replyArrival tbl ent gen data => Sys2Proof.Machine.execReplyArrival tbl ent gen data s
  | .storeAck tbl ent gen => Sys2Proof.Machine.execStoreAck tbl ent gen s
  | .requestTimeout tbl ent => Sys2Proof.Machine.execRequestTimeout tbl ent s
  | .illegalOp o => Sys2Proof.Machine.execIllegalOp o s
  | .partyStop idx => Sys2Proof.Machine.execPartyStop idx s
  | .handlerEntry part => Sys2Proof.Machine.execHandlerEntry part s
  | .preemptComplete part => Sys2Proof.Machine.execPreemptComplete part s
  | .queueWatchdogExpiry q => Sys2Proof.Machine.execQueueWatchdogExpiry q s
  | .armWatchdogExpiry part => Sys2Proof.Machine.execArmWatchdogExpiry part s
  | .watchdogReset part => Sys2Proof.Machine.execWatchdogReset part s
  | .clusterFence cl => Sys2Proof.Machine.execClusterFence cl s
  | .mrtailWrite slots tail => Sys2Proof.Machine.execMrtailWrite slots tail s
  | .partCfgQuads => Sys2Proof.Machine.execPartCfgQuads s
  | .partCfgPtroot => Sys2Proof.Machine.execPartCfgPtroot s
  | .partCfgSrbase => Sys2Proof.Machine.execPartCfgSrbase s
  | .partCfgTvec => Sys2Proof.Machine.execPartCfgTvec s
  | .partCfgCtxbase => Sys2Proof.Machine.execPartCfgCtxbase s
  | .partCfgTabbase => Sys2Proof.Machine.execPartCfgTabbase s
  | .partCfgTabn => Sys2Proof.Machine.execPartCfgTabn s
  | .partCfgTabcfg => Sys2Proof.Machine.execPartCfgTabcfg s
  | .partCfgMigring => Sys2Proof.Machine.execPartCfgMigring s
  | .partCfgDomctl => Sys2Proof.Machine.execPartCfgDomctl s
  | .partCfgNvmeports => Sys2Proof.Machine.execPartCfgNvmeports s
  | .partTuneMto => Sys2Proof.Machine.execPartTuneMto s
  | .partTuneMigth => Sys2Proof.Machine.execPartTuneMigth s
  | .partTuneWdcfg => Sys2Proof.Machine.execPartTuneWdcfg s
  | .queueCfg => Sys2Proof.Machine.execQueueCfg s
  | .cntAlloc => Sys2Proof.Machine.execCntAlloc s
  | .cntFree => Sys2Proof.Machine.execCntFree s
  | .streamCfg => Sys2Proof.Machine.execStreamCfg s
  | .groupCfg => Sys2Proof.Machine.execGroupCfg s
  | .preempt => Sys2Proof.Machine.execPreempt s
  | .restore => Sys2Proof.Machine.execRestore s
  | .reset => Sys2Proof.Machine.execReset s
  | .mboxAnswer => Sys2Proof.Machine.execMboxAnswer s
  | .nvmeSubmit => Sys2Proof.Machine.execNvmeSubmit s
  | .nvmeCompletion port entry dma => Sys2Proof.Machine.execNvmeCompletion port entry dma s
  | .attest => Sys2Proof.Machine.execAttest s
  | .evictDone => Sys2Proof.Machine.execEvictDone s
  | .frameExtSet => Sys2Proof.Machine.execFrameExtSet s
  | .frameExtClear => Sys2Proof.Machine.execFrameExtClear s
  | .hostBar2Write off bytes => Sys2Proof.Machine.execHostBar2Write off bytes s
  | .hostBar2Read off n => Sys2Proof.Machine.execHostBar2Read off n s
  | .hbeat => Sys2Proof.Machine.execHbeat s
  | .boot fwOk badClusters => Sys2Proof.Machine.execBoot fwOk badClusters s
  | .ejectN level => Sys2Proof.Machine.execEjectN level s
  | .evictRequest => Sys2Proof.Machine.execEvictRequest s
  | .evictWithdraw => Sys2Proof.Machine.execEvictWithdraw s
  | .evictReady => Sys2Proof.Machine.execEvictReady s
  | .evictTimeout => Sys2Proof.Machine.execEvictTimeout s
  | .fruRead => Sys2Proof.Machine.execFruRead s
  | .replClear => Sys2Proof.Machine.execReplClear s
  | .hostBar2Atomicop off op bytes64 x y => Sys2Proof.Machine.execHostBar2Atomicop off op bytes64 x y s
  | .displacedTeamRestore tm => Sys2Proof.Machine.execDisplacedTeamRestore tm s
  | .nop32 o => Sys2Proof.Machine.execNop32 o s
  | .nop o => Sys2Proof.Machine.execNop o s
  | .bra o => Sys2Proof.Machine.execBra o s
  | .brc o => Sys2Proof.Machine.execBrc o s
  | .brd o => Sys2Proof.Machine.execBrd o s
  | .brx32 o => Sys2Proof.Machine.execBrx32 o s
  | .brx o => Sys2Proof.Machine.execBrx o s
  | .join32 o => Sys2Proof.Machine.execJoin32 o s
  | .join o => Sys2Proof.Machine.execJoin o s
  | .jarv32 o => Sys2Proof.Machine.execJarv32 o s
  | .jarv o => Sys2Proof.Machine.execJarv o s
  | .call o => Sys2Proof.Machine.execCall o s
  | .callx32 o => Sys2Proof.Machine.execCallx32 o s
  | .callx o => Sys2Proof.Machine.execCallx o s
  | .ret32 o => Sys2Proof.Machine.execRet32 o s
  | .ret o => Sys2Proof.Machine.execRet o s
  | .exit32 o => Sys2Proof.Machine.execExit32 o s
  | .exit o => Sys2Proof.Machine.execExit o s
  | .loop o => Sys2Proof.Machine.execLoop o s
  | .yield32 o => Sys2Proof.Machine.execYield32 o s
  | .yield o => Sys2Proof.Machine.execYield o s
  | .mand32 o => Sys2Proof.Machine.execMand32 o s
  | .mand o => Sys2Proof.Machine.execMand o s
  | .mor32 o => Sys2Proof.Machine.execMor32 o s
  | .mor o => Sys2Proof.Machine.execMor o s
  | .mxor32 o => Sys2Proof.Machine.execMxor32 o s
  | .mxor o => Sys2Proof.Machine.execMxor o s
  | .mnot32 o => Sys2Proof.Machine.execMnot32 o s
  | .mnot o => Sys2Proof.Machine.execMnot o s
  | .mandn32 o => Sys2Proof.Machine.execMandn32 o s
  | .mandn o => Sys2Proof.Machine.execMandn o s
  | .mset32 o => Sys2Proof.Machine.execMset32 o s
  | .mset o => Sys2Proof.Machine.execMset o s
  | .mffs32 o => Sys2Proof.Machine.execMffs32 o s
  | .mffs o => Sys2Proof.Machine.execMffs o s
  | .vote32 o => Sys2Proof.Machine.execVote32 o s
  | .vote o => Sys2Proof.Machine.execVote o s
  | .rjmv32 o => Sys2Proof.Machine.execRjmv32 o s
  | .rjmv o => Sys2Proof.Machine.execRjmv o s
  | .jmld o => Sys2Proof.Machine.execJmld o s
  | .jmst32 o => Sys2Proof.Machine.execJmst32 o s
  | .jmst o => Sys2Proof.Machine.execJmst o s
  | .iadd32 o => Sys2Proof.Machine.execIadd32 o s
  | .iadd o => Sys2Proof.Machine.execIadd o s
  | .isub32 o => Sys2Proof.Machine.execIsub32 o s
  | .isub o => Sys2Proof.Machine.execIsub o s
  | .imul2432 o => Sys2Proof.Machine.execImul2432 o s
  | .imul24 o => Sys2Proof.Machine.execImul24 o s
  | .imad24 o => Sys2Proof.Machine.execImad24 o s
  | .imul3232 o => Sys2Proof.Machine.execImul3232 o s
  | .imul32 o => Sys2Proof.Machine.execImul32 o s
  | .imulh3232 o => Sys2Proof.Machine.execImulh3232 o s
  | .imulh32 o => Sys2Proof.Machine.execImulh32 o s
  | .imin32 o => Sys2Proof.Machine.execImin32 o s
  | .imin o => Sys2Proof.Machine.execImin o s
  | .imax32 o => Sys2Proof.Machine.execImax32 o s
  | .imax o => Sys2Proof.Machine.execImax o s
  | .icmp32 o => Sys2Proof.Machine.execIcmp32 o s
  | .icmp o => Sys2Proof.Machine.execIcmp o s
  | .and32 o => Sys2Proof.Machine.execAnd32 o s
  | .and o => Sys2Proof.Machine.execAnd o s
  | .or32 o => Sys2Proof.Machine.execOr32 o s
  | .or o => Sys2Proof.Machine.execOr o s
  | .xor32 o => Sys2Proof.Machine.execXor32 o s
  | .xor o => Sys2Proof.Machine.execXor o s
  | .shl32 o => Sys2Proof.Machine.execShl32 o s
  | .shl o => Sys2Proof.Machine.execShl o s
  | .shr32 o => Sys2Proof.Machine.execShr32 o s
  | .shr o => Sys2Proof.Machine.execShr o s
  | .sar32 o => Sys2Proof.Machine.execSar32 o s
  | .sar o => Sys2Proof.Machine.execSar o s
  | .rot32 o => Sys2Proof.Machine.execRot32 o s
  | .rot o => Sys2Proof.Machine.execRot o s
  | .bfx o => Sys2Proof.Machine.execBfx o s
  | .bfi o => Sys2Proof.Machine.execBfi o s
  | .popc32 o => Sys2Proof.Machine.execPopc32 o s
  | .popc o => Sys2Proof.Machine.execPopc o s
  | .clz32 o => Sys2Proof.Machine.execClz32 o s
  | .clz o => Sys2Proof.Machine.execClz o s
  | .sel o => Sys2Proof.Machine.execSel o s
  | .mov32 o => Sys2Proof.Machine.execMov32 o s
  | .mov o => Sys2Proof.Machine.execMov o s
  | .movi o => Sys2Proof.Machine.execMovi o s
  | .addr o => Sys2Proof.Machine.execAddr o s
  | .cvti o => Sys2Proof.Machine.execCvti o s
  | .crc32 o => Sys2Proof.Machine.execCrc32 o s
  | .crc o => Sys2Proof.Machine.execCrc o s
  | .fadd32 o => Sys2Proof.Machine.execFadd32 o s
  | .fadd o => Sys2Proof.Machine.execFadd o s
  | .fsub32 o => Sys2Proof.Machine.execFsub32 o s
  | .fsub o => Sys2Proof.Machine.execFsub o s
  | .fmul32 o => Sys2Proof.Machine.execFmul32 o s
  | .fmul o => Sys2Proof.Machine.execFmul o s
  | .ffma o => Sys2Proof.Machine.execFfma o s
  | .fmin32 o => Sys2Proof.Machine.execFmin32 o s
  | .fmin o => Sys2Proof.Machine.execFmin o s
  | .fmax32 o => Sys2Proof.Machine.execFmax32 o s
  | .fmax o => Sys2Proof.Machine.execFmax o s
  | .fcmp32 o => Sys2Proof.Machine.execFcmp32 o s
  | .fcmp o => Sys2Proof.Machine.execFcmp o s
  | .fclass32 o => Sys2Proof.Machine.execFclass32 o s
  | .fclass o => Sys2Proof.Machine.execFclass o s
  | .fsgn32 o => Sys2Proof.Machine.execFsgn32 o s
  | .fsgn o => Sys2Proof.Machine.execFsgn o s
  | .frcp32 o => Sys2Proof.Machine.execFrcp32 o s
  | .frcp o => Sys2Proof.Machine.execFrcp o s
  | .frsq32 o => Sys2Proof.Machine.execFrsq32 o s
  | .frsq o => Sys2Proof.Machine.execFrsq o s
  | .fsqrt32 o => Sys2Proof.Machine.execFsqrt32 o s
  | .fsqrt o => Sys2Proof.Machine.execFsqrt o s
  | .fexp232 o => Sys2Proof.Machine.execFexp232 o s
  | .fexp2 o => Sys2Proof.Machine.execFexp2 o s
  | .flog232 o => Sys2Proof.Machine.execFlog232 o s
  | .flog2 o => Sys2Proof.Machine.execFlog2 o s
  | .fsin32 o => Sys2Proof.Machine.execFsin32 o s
  | .fsin o => Sys2Proof.Machine.execFsin o s
  | .fcos32 o => Sys2Proof.Machine.execFcos32 o s
  | .fcos o => Sys2Proof.Machine.execFcos o s
  | .fcvt o => Sys2Proof.Machine.execFcvt o s
  | .bxpack o => Sys2Proof.Machine.execBxpack o s
  | .bxunpk o => Sys2Proof.Machine.execBxunpk o s
  | .cadd32 o => Sys2Proof.Machine.execCadd32 o s
  | .cadd o => Sys2Proof.Machine.execCadd o s
  | .csplit32 o => Sys2Proof.Machine.execCsplit32 o s
  | .csplit o => Sys2Proof.Machine.execCsplit o s
  | .cjoin32 o => Sys2Proof.Machine.execCjoin32 o s
  | .cjoin o => Sys2Proof.Machine.execCjoin o s
  | .updm o => Sys2Proof.Machine.execUpdm o s
  | .fsetrm32 o => Sys2Proof.Machine.execFsetrm32 o s
  | .fsetrm o => Sys2Proof.Machine.execFsetrm o s
  | .fgetrm32 o => Sys2Proof.Machine.execFgetrm32 o s
  | .fgetrm o => Sys2Proof.Machine.execFgetrm o s
  | .fflag32 o => Sys2Proof.Machine.execFflag32 o s
  | .fflag o => Sys2Proof.Machine.execFflag o s
  | .xget32 o => Sys2Proof.Machine.execXget32 o s
  | .xget o => Sys2Proof.Machine.execXget o s
  | .xput32 o => Sys2Proof.Machine.execXput32 o s
  | .xput o => Sys2Proof.Machine.execXput o s
  | .shfl32 o => Sys2Proof.Machine.execShfl32 o s
  | .shfl o => Sys2Proof.Machine.execShfl o s
  | .bcast32 o => Sys2Proof.Machine.execBcast32 o s
  | .bcast o => Sys2Proof.Machine.execBcast o s
  | .red32 o => Sys2Proof.Machine.execRed32 o s
  | .red o => Sys2Proof.Machine.execRed o s
  | .scan32 o => Sys2Proof.Machine.execScan32 o s
  | .scan o => Sys2Proof.Machine.execScan o s
  | .compact32 o => Sys2Proof.Machine.execCompact32 o s
  | .compact o => Sys2Proof.Machine.execCompact o s
  | .expand32 o => Sys2Proof.Machine.execExpand32 o s
  | .expand o => Sys2Proof.Machine.execExpand o s
  | .matchLanes32 o => Sys2Proof.Machine.execMatchLanes32 o s
  | .matchLanes o => Sys2Proof.Machine.execMatchLanes o s
  | .vidx32 o => Sys2Proof.Machine.execVidx32 o s
  | .vidx o => Sys2Proof.Machine.execVidx o s
  | .lread32 o => Sys2Proof.Machine.execLread32 o s
  | .lread o => Sys2Proof.Machine.execLread o s
  | .lwrite o => Sys2Proof.Machine.execLwrite o s
  | .ld o => Sys2Proof.Machine.execLd o s
  | .st o => Sys2Proof.Machine.execSt o s
  | .lds32 o => Sys2Proof.Machine.execLds32 o s
  | .lds o => Sys2Proof.Machine.execLds o s
  | .sts32 o => Sys2Proof.Machine.execSts32 o s
  | .sts o => Sys2Proof.Machine.execSts o s
  | .ldb o => Sys2Proof.Machine.execLdb o s
  | .stb o => Sys2Proof.Machine.execStb o s
  | .stash o => Sys2Proof.Machine.execStash o s
  | .atom o => Sys2Proof.Machine.execAtom o s
  | .atoms o => Sys2Proof.Machine.execAtoms o s
  | .cas o => Sys2Proof.Machine.execCas o s
  | .cass o => Sys2Proof.Machine.execCass o s
  | .pref o => Sys2Proof.Machine.execPref o s
  | .pinv o => Sys2Proof.Machine.execPinv o s
  | .pwb o => Sys2Proof.Machine.execPwb o s
  | .xlt o => Sys2Proof.Machine.execXlt o s
  | .stz o => Sys2Proof.Machine.execStz o s
  | .fence o => Sys2Proof.Machine.execFence o s
  | .fenceX o => Sys2Proof.Machine.execFenceX o s
  | .outrd32 o => Sys2Proof.Machine.execOutrd32 o s
  | .outrd o => Sys2Proof.Machine.execOutrd o s
  | .bar32 o => Sys2Proof.Machine.execBar32 o s
  | .bar o => Sys2Proof.Machine.execBar o s
  | .bara32 o => Sys2Proof.Machine.execBara32 o s
  | .bara o => Sys2Proof.Machine.execBara o s
  | .barw32 o => Sys2Proof.Machine.execBarw32 o s
  | .barw o => Sys2Proof.Machine.execBarw o s
  | .bari o => Sys2Proof.Machine.execBari o s
  | .barq32 o => Sys2Proof.Machine.execBarq32 o s
  | .barq o => Sys2Proof.Machine.execBarq o s
  | .tryRegion o => Sys2Proof.Machine.execTryRegion o s
  | .commit32 o => Sys2Proof.Machine.execCommit32 o s
  | .commit o => Sys2Proof.Machine.execCommit o s
  | .abort32 o => Sys2Proof.Machine.execAbort32 o s
  | .abort o => Sys2Proof.Machine.execAbort o s
  | .tryst32 o => Sys2Proof.Machine.execTryst32 o s
  | .tryst o => Sys2Proof.Machine.execTryst o s
  | .tryaddr32 o => Sys2Proof.Machine.execTryaddr32 o s
  | .tryaddr o => Sys2Proof.Machine.execTryaddr o s
  | .trydrop32 o => Sys2Proof.Machine.execTrydrop32 o s
  | .trydrop o => Sys2Proof.Machine.execTrydrop o s
  | .shld o => Sys2Proof.Machine.execShld o s
  | .shset o => Sys2Proof.Machine.execShset o s
  | .shst o => Sys2Proof.Machine.execShst o s
  | .copy o => Sys2Proof.Machine.execCopy o s
  | .gather o => Sys2Proof.Machine.execGather o s
  | .scatter o => Sys2Proof.Machine.execScatter o s
  | .cbinit32 o => Sys2Proof.Machine.execCbinit32 o s
  | .cbinit o => Sys2Proof.Machine.execCbinit o s
  | .cbwait32 o => Sys2Proof.Machine.execCbwait32 o s
  | .cbwait o => Sys2Proof.Machine.execCbwait o s
  | .cbpoll32 o => Sys2Proof.Machine.execCbpoll32 o s
  | .cbpoll o => Sys2Proof.Machine.execCbpoll o s
  | .qbind o => Sys2Proof.Machine.execQbind o s
  | .qbindFree o => Sys2Proof.Machine.execQbindFree o s
  | .qstat32 o => Sys2Proof.Machine.execQstat32 o s
  | .qstat o => Sys2Proof.Machine.execQstat o s
  | .pgacc o => Sys2Proof.Machine.execPgacc o s
  | .movtc o => Sys2Proof.Machine.execMovtc o s
  | .rdtc32 o => Sys2Proof.Machine.execRdtc32 o s
  | .rdtc o => Sys2Proof.Machine.execRdtc o s
  | .tzero32 o => Sys2Proof.Machine.execTzero32 o s
  | .tzero o => Sys2Proof.Machine.execTzero o s
  | .tfill o => Sys2Proof.Machine.execTfill o s
  | .tload32 o => Sys2Proof.Machine.execTload32 o s
  | .tload o => Sys2Proof.Machine.execTload o s
  | .tstore32 o => Sys2Proof.Machine.execTstore32 o s
  | .tstore o => Sys2Proof.Machine.execTstore o s
  | .tmov32 o => Sys2Proof.Machine.execTmov32 o s
  | .tmov o => Sys2Proof.Machine.execTmov o s
  | .txpose32 o => Sys2Proof.Machine.execTxpose32 o s
  | .txpose o => Sys2Proof.Machine.execTxpose o s
  | .mma o => Sys2Proof.Machine.execMma o s
  | .drain o => Sys2Proof.Machine.execDrain o s
  | .accz32 o => Sys2Proof.Machine.execAccz32 o s
  | .accz o => Sys2Proof.Machine.execAccz o s
  | .rqpop32 o => Sys2Proof.Machine.execRqpop32 o s
  | .rqpop o => Sys2Proof.Machine.execRqpop o s
  | .amode32 o => Sys2Proof.Machine.execAmode32 o s
  | .amode o => Sys2Proof.Machine.execAmode o s
  | .await32 o => Sys2Proof.Machine.execAwait32 o s
  | .await o => Sys2Proof.Machine.execAwait o s
  | .spub o => Sys2Proof.Machine.execSpub o s
  | .ssub o => Sys2Proof.Machine.execSsub o s
  | .ssubOpen o => Sys2Proof.Machine.execSsubOpen o s
  | .ssubClose o => Sys2Proof.Machine.execSsubClose o s
  | .ssubCopy o => Sys2Proof.Machine.execSsubCopy o s
  | .srel o => Sys2Proof.Machine.execSrel o s
  | .sstat32 o => Sys2Proof.Machine.execSstat32 o s
  | .sstat o => Sys2Proof.Machine.execSstat o s
  | .kset o => Sys2Proof.Machine.execKset o s
  | .ksetMap o => Sys2Proof.Machine.execKsetMap o s
  | .kget32 o => Sys2Proof.Machine.execKget32 o s
  | .kget o => Sys2Proof.Machine.execKget o s
  | .sload32 o => Sys2Proof.Machine.execSload32 o s
  | .sload o => Sys2Proof.Machine.execSload o s
  | .sstore32 o => Sys2Proof.Machine.execSstore32 o s
  | .sstore o => Sys2Proof.Machine.execSstore o s
  | .szero32 o => Sys2Proof.Machine.execSzero32 o s
  | .szero o => Sys2Proof.Machine.execSzero o s
  | .seval32 o => Sys2Proof.Machine.execSeval32 o s
  | .seval o => Sys2Proof.Machine.execSeval o s
  | .sder32 o => Sys2Proof.Machine.execSder32 o s
  | .sder o => Sys2Proof.Machine.execSder o s
  | .sgrad32 o => Sys2Proof.Machine.execSgrad32 o s
  | .sgrad o => Sys2Proof.Machine.execSgrad o s
  | .srefine32 o => Sys2Proof.Machine.execSrefine32 o s
  | .srefine o => Sys2Proof.Machine.execSrefine o s
  | .ldr o => Sys2Proof.Machine.execLdr o s
  | .stf o => Sys2Proof.Machine.execStf o s
  | .atomr o => Sys2Proof.Machine.execAtomr o s
  | .casr o => Sys2Proof.Machine.execCasr o s
  | .flagw o => Sys2Proof.Machine.execFlagw o s
  | .msg o => Sys2Proof.Machine.execMsg o s
  | .msgq32 o => Sys2Proof.Machine.execMsgq32 o s
  | .msgq o => Sys2Proof.Machine.execMsgq o s
  | .mcst o => Sys2Proof.Machine.execMcst o s
  | .mcred o => Sys2Proof.Machine.execMcred o s
  | .grpq32 o => Sys2Proof.Machine.execGrpq32 o s
  | .grpq o => Sys2Proof.Machine.execGrpq o s
  | .pst o => Sys2Proof.Machine.execPst o s
  | .pbar32 o => Sys2Proof.Machine.execPbar32 o s
  | .pbar o => Sys2Proof.Machine.execPbar o s
  | .pbarWaitPkg o => Sys2Proof.Machine.execPbarWaitPkg o s
  | .pbarWaitStripe o => Sys2Proof.Machine.execPbarWaitStripe o s
  | .pflush32 o => Sys2Proof.Machine.execPflush32 o s
  | .pflush o => Sys2Proof.Machine.execPflush o s
  | .pqst32 o => Sys2Proof.Machine.execPqst32 o s
  | .pqst o => Sys2Proof.Machine.execPqst o s
  | .stepset32 o => Sys2Proof.Machine.execStepset32 o s
  | .stepset o => Sys2Proof.Machine.execStepset o s
  | .steprd32 o => Sys2Proof.Machine.execSteprd32 o s
  | .steprd o => Sys2Proof.Machine.execSteprd o s
  | .snapTake o => Sys2Proof.Machine.execSnapTake o s
  | .snapRestore o => Sys2Proof.Machine.execSnapRestore o s
  | .snapFreeze o => Sys2Proof.Machine.execSnapFreeze o s
  | .snapThaw o => Sys2Proof.Machine.execSnapThaw o s
  | .snapRebuild o => Sys2Proof.Machine.execSnapRebuild o s
  | .snapDelta o => Sys2Proof.Machine.execSnapDelta o s
  | .snapst32 o => Sys2Proof.Machine.execSnapst32 o s
  | .snapst o => Sys2Proof.Machine.execSnapst o s
  | .launch o => Sys2Proof.Machine.execLaunch o s
  | .cancel32 o => Sys2Proof.Machine.execCancel32 o s
  | .cancel o => Sys2Proof.Machine.execCancel o s
  | .cntrd32 o => Sys2Proof.Machine.execCntrd32 o s
  | .cntrd o => Sys2Proof.Machine.execCntrd o s
  | .tabnew o => Sys2Proof.Machine.execTabnew o s
  | .tabdec o => Sys2Proof.Machine.execTabdec o s
  | .tabst32 o => Sys2Proof.Machine.execTabst32 o s
  | .tabst o => Sys2Proof.Machine.execTabst o s
  | .arm o => Sys2Proof.Machine.execArm o s
  | .disarm32 o => Sys2Proof.Machine.execDisarm32 o s
  | .disarm o => Sys2Proof.Machine.execDisarm o s
  | .trap32 o => Sys2Proof.Machine.execTrap32 o s
  | .trap o => Sys2Proof.Machine.execTrap o s
  | .rte32 o => Sys2Proof.Machine.execRte32 o s
  | .rte o => Sys2Proof.Machine.execRte o s
  | .rteSkip o => Sys2Proof.Machine.execRteSkip o s
  | .rteEndc o => Sys2Proof.Machine.execRteEndc o s
  | .rteEndp o => Sys2Proof.Machine.execRteEndp o s
  | .brkp32 o => Sys2Proof.Machine.execBrkp32 o s
  | .brkp o => Sys2Proof.Machine.execBrkp o s
  | .sysrd o => Sys2Proof.Machine.execSysrd o s
  | .syswrMode o => Sys2Proof.Machine.execSyswrMode o s
  | .syswrXconf o => Sys2Proof.Machine.execSyswrXconf o s
  | .syswrMboxo o => Sys2Proof.Machine.execSyswrMboxo o s
  | .syswrMboxst o => Sys2Proof.Machine.execSyswrMboxst o s
  | .syswrOther o => Sys2Proof.Machine.execSyswrOther o s
  | .haltp32 o => Sys2Proof.Machine.execHaltp32 o s
  | .haltp o => Sys2Proof.Machine.execHaltp o s
  | .stoprd o => Sys2Proof.Machine.execStoprd o s
  | .evtrd32 o => Sys2Proof.Machine.execEvtrd32 o s
  | .evtrd o => Sys2Proof.Machine.execEvtrd o s
  | .cycle32 o => Sys2Proof.Machine.execCycle32 o s
  | .cycle o => Sys2Proof.Machine.execCycle o s

end Sys2Proof.Machine
end

