-- ==== Sys2Proof/Machine/Opcodes.lean ====
section
/-! DEFINITION. The opcode map: which row of spec/opcode_table.json an opcode and its operands are (Table 4.10), and back. -/
namespace Sys2Proof.Machine

/-- Table 4.10, opcodes 0x00 to 0x0F. -/
noncomputable def instrOf0 (op : Nat) (o : Opnds) : Instr :=
  match op with
  | 0x00 => if o.words = 1 then .nop32 o else .nop o
  | 0x01 => .bra o
  | 0x02 => .brc o
  | 0x03 => .brd o
  | 0x04 => if o.words = 1 then .brx32 o else .brx o
  | 0x05 => if o.words = 1 then .join32 o else .join o
  | 0x06 => if o.words = 1 then .jarv32 o else .jarv o
  | 0x07 => .call o
  | 0x08 => if o.words = 1 then .callx32 o else .callx o
  | 0x09 => if o.words = 1 then .ret32 o else .ret o
  | 0x0A => if o.words = 1 then .exit32 o else .exit o
  | 0x0B => .loop o
  | 0x0C => if o.words = 1 then .yield32 o else .yield o
  | 0x0D => if o.words = 1 then .mand32 o else .mand o
  | 0x0E => if o.words = 1 then .mor32 o else .mor o
  | 0x0F => if o.words = 1 then .mxor32 o else .mxor o
  | _ => .illegalOp o

/-- Table 4.10, opcodes 0x10 to 0x1F. -/
noncomputable def instrOf1 (op : Nat) (o : Opnds) : Instr :=
  match op with
  | 0x10 => if o.words = 1 then .mnot32 o else .mnot o
  | 0x11 => if o.words = 1 then .mandn32 o else .mandn o
  | 0x12 => if o.words = 1 then .mset32 o else .mset o
  | 0x13 => if o.words = 1 then .mffs32 o else .mffs o
  | 0x14 => if o.words = 1 then .vote32 o else .vote o
  | 0x15 => if o.words = 1 then .rjmv32 o else .rjmv o
  | 0x16 => .jmld o
  | 0x17 => if o.words = 1 then .jmst32 o else .jmst o
  | _ => .illegalOp o

/-- Table 4.10, opcodes 0x20 to 0x2F. -/
noncomputable def instrOf2 (op : Nat) (o : Opnds) : Instr :=
  match op with
  | 0x20 => if o.words = 1 then .iadd32 o else .iadd o
  | 0x21 => if o.words = 1 then .isub32 o else .isub o
  | 0x22 => if o.words = 1 then .imul2432 o else .imul24 o
  | 0x23 => .imad24 o
  | 0x24 => if o.words = 1 then .imul3232 o else .imul32 o
  | 0x25 => if o.words = 1 then .imulh3232 o else .imulh32 o
  | 0x26 => if o.words = 1 then .imin32 o else .imin o
  | 0x27 => if o.words = 1 then .imax32 o else .imax o
  | 0x28 => if o.words = 1 then .icmp32 o else .icmp o
  | 0x29 => if o.words = 1 then .and32 o else .and o
  | 0x2A => if o.words = 1 then .or32 o else .or o
  | 0x2B => if o.words = 1 then .xor32 o else .xor o
  | 0x2C => if o.words = 1 then .shl32 o else .shl o
  | 0x2D => if o.words = 1 then .shr32 o else .shr o
  | 0x2E => if o.words = 1 then .sar32 o else .sar o
  | 0x2F => if o.words = 1 then .rot32 o else .rot o
  | _ => .illegalOp o

/-- Table 4.10, opcodes 0x30 to 0x3F. -/
noncomputable def instrOf3 (op : Nat) (o : Opnds) : Instr :=
  match op with
  | 0x30 => .bfx o
  | 0x31 => .bfi o
  | 0x32 => if o.words = 1 then .popc32 o else .popc o
  | 0x33 => if o.words = 1 then .clz32 o else .clz o
  | 0x34 => .sel o
  | 0x35 => if o.words = 1 then .mov32 o else .mov o
  | 0x36 => .movi o
  | 0x37 => .addr o
  | 0x38 => .cvti o
  | 0x39 => if o.words = 1 then .crc32 o else .crc o
  | _ => .illegalOp o

/-- Table 4.10, opcodes 0x40 to 0x4F. -/
noncomputable def instrOf4 (op : Nat) (o : Opnds) : Instr :=
  match op with
  | 0x40 => if o.words = 1 then .fadd32 o else .fadd o
  | 0x41 => if o.words = 1 then .fsub32 o else .fsub o
  | 0x42 => if o.words = 1 then .fmul32 o else .fmul o
  | 0x43 => .ffma o
  | 0x44 => if o.words = 1 then .fmin32 o else .fmin o
  | 0x45 => if o.words = 1 then .fmax32 o else .fmax o
  | 0x46 => if o.words = 1 then .fcmp32 o else .fcmp o
  | 0x47 => if o.words = 1 then .fclass32 o else .fclass o
  | 0x48 => if o.words = 1 then .fsgn32 o else .fsgn o
  | 0x49 => if o.words = 1 then .frcp32 o else .frcp o
  | 0x4A => if o.words = 1 then .frsq32 o else .frsq o
  | 0x4B => if o.words = 1 then .fsqrt32 o else .fsqrt o
  | 0x4C => if o.words = 1 then .fexp232 o else .fexp2 o
  | 0x4D => if o.words = 1 then .flog232 o else .flog2 o
  | 0x4E => if o.words = 1 then .fsin32 o else .fsin o
  | 0x4F => if o.words = 1 then .fcos32 o else .fcos o
  | _ => .illegalOp o

/-- Table 4.10, opcodes 0x50 to 0x5F. -/
noncomputable def instrOf5 (op : Nat) (o : Opnds) : Instr :=
  match op with
  | 0x50 => .fcvt o
  | 0x51 => .bxpack o
  | 0x52 => .bxunpk o
  | 0x53 => if o.words = 1 then .cadd32 o else .cadd o
  | 0x54 => if o.words = 1 then .csplit32 o else .csplit o
  | 0x55 => if o.words = 1 then .cjoin32 o else .cjoin o
  | 0x56 => .updm o
  | 0x57 => if o.words = 1 then .fsetrm32 o else .fsetrm o
  | 0x58 => if o.words = 1 then .fgetrm32 o else .fgetrm o
  | 0x59 => if o.words = 1 then .fflag32 o else .fflag o
  | _ => .illegalOp o

/-- Table 4.10, opcodes 0x60 to 0x6F. -/
noncomputable def instrOf6 (op : Nat) (o : Opnds) : Instr :=
  match op with
  | 0x60 => if o.words = 1 then .xget32 o else .xget o
  | 0x61 => if o.words = 1 then .xput32 o else .xput o
  | 0x62 => if o.words = 1 then .shfl32 o else .shfl o
  | 0x63 => if o.words = 1 then .bcast32 o else .bcast o
  | 0x64 => if o.words = 1 then .red32 o else .red o
  | 0x65 => if o.words = 1 then .scan32 o else .scan o
  | 0x66 => if o.words = 1 then .compact32 o else .compact o
  | 0x67 => if o.words = 1 then .expand32 o else .expand o
  | 0x68 => if o.words = 1 then .matchLanes32 o else .matchLanes o
  | 0x69 => if o.words = 1 then .vidx32 o else .vidx o
  | 0x6A => if o.words = 1 then .lread32 o else .lread o
  | 0x6B => .lwrite o
  | _ => .illegalOp o

/-- Table 4.10, opcodes 0x70 to 0x7F. -/
noncomputable def instrOf7 (op : Nat) (o : Opnds) : Instr :=
  match op with
  | 0x70 => .ld o
  | 0x71 => .st o
  | 0x72 => if o.words = 1 then .lds32 o else .lds o
  | 0x73 => if o.words = 1 then .sts32 o else .sts o
  | 0x74 => .ldb o
  | 0x75 => .stb o
  | 0x76 => .stash o
  | 0x77 => .atom o
  | 0x78 => .atoms o
  | 0x79 => .cas o
  | 0x7A => .cass o
  | 0x7B => .pref o
  | 0x7C => .pinv o
  | 0x7D => .pwb o
  | 0x7E => .xlt o
  | 0x7F => .stz o
  | _ => .illegalOp o

/-- Table 4.10, opcodes 0x80 to 0x8F. -/
noncomputable def instrOf8 (op : Nat) (o : Opnds) : Instr :=
  match op with
  | 0x80 => .fence o
  | 0x81 => .fenceX o
  | 0x82 => if o.words = 1 then .outrd32 o else .outrd o
  | 0x83 => if o.words = 1 then .bar32 o else .bar o
  | 0x84 => if o.words = 1 then .bara32 o else .bara o
  | 0x85 => if o.words = 1 then .barw32 o else .barw o
  | 0x86 => .bari o
  | 0x87 => if o.words = 1 then .barq32 o else .barq o
  | _ => .illegalOp o

/-- Table 4.10, opcodes 0x90 to 0x9F. -/
noncomputable def instrOf9 (op : Nat) (o : Opnds) : Instr :=
  match op with
  | 0x90 => .tryRegion o
  | 0x91 => if o.words = 1 then .commit32 o else .commit o
  | 0x92 => if o.words = 1 then .abort32 o else .abort o
  | 0x93 => if o.words = 1 then .tryst32 o else .tryst o
  | 0x94 => if o.words = 1 then .tryaddr32 o else .tryaddr o
  | 0x95 => if o.words = 1 then .trydrop32 o else .trydrop o
  | 0x98 => .shld o
  | 0x99 => .shset o
  | 0x9A => .shst o
  | 0x9B => .copy o
  | 0x9C => .gather o
  | 0x9D => .scatter o
  | 0x9E => if o.words = 1 then .cbinit32 o else .cbinit o
  | 0x9F => if o.words = 1 then .cbwait32 o else .cbwait o
  | _ => .illegalOp o

/-- Table 4.10, opcodes 0xA0 to 0xAF. -/
noncomputable def instrOfA (op : Nat) (o : Opnds) : Instr :=
  match op with
  | 0xA0 => if o.words = 1 then .cbpoll32 o else .cbpoll o
  | 0xA1 => if o.mod = 0 then .qbind o else .qbindFree o
  | 0xA2 => if o.words = 1 then .qstat32 o else .qstat o
  | 0xA3 => .pgacc o
  | 0xA8 => .movtc o
  | 0xA9 => if o.words = 1 then .rdtc32 o else .rdtc o
  | 0xAA => if o.words = 1 then .tzero32 o else .tzero o
  | 0xAB => .tfill o
  | 0xAC => if o.words = 1 then .tload32 o else .tload o
  | 0xAD => if o.words = 1 then .tstore32 o else .tstore o
  | 0xAE => if o.words = 1 then .tmov32 o else .tmov o
  | 0xAF => if o.words = 1 then .txpose32 o else .txpose o
  | _ => .illegalOp o

/-- Table 4.10, opcodes 0xB0 to 0xBF. -/
noncomputable def instrOfB (op : Nat) (o : Opnds) : Instr :=
  match op with
  | 0xB0 => .mma o
  | 0xB1 => .drain o
  | 0xB2 => if o.words = 1 then .accz32 o else .accz o
  | 0xB3 => if o.words = 1 then .rqpop32 o else .rqpop o
  | 0xB4 => if o.words = 1 then .amode32 o else .amode o
  | 0xB5 => if o.words = 1 then .await32 o else .await o
  | 0xB6 => .spub o
  | 0xB7 => if o.mod = 0 then .ssub o else if o.mod = 1 then .ssubOpen o else if o.mod = 2 then .ssubClose o else .ssubCopy o
  | 0xB8 => .srel o
  | 0xB9 => if o.words = 1 then .sstat32 o else .sstat o
  | _ => .illegalOp o

/-- Table 4.10, opcodes 0xC0 to 0xCF. -/
noncomputable def instrOfC (op : Nat) (o : Opnds) : Instr :=
  match op with
  | 0xC0 => if o.mod = 0 then .kset o else .ksetMap o
  | 0xC1 => if o.words = 1 then .kget32 o else .kget o
  | 0xC2 => if o.words = 1 then .sload32 o else .sload o
  | 0xC3 => if o.words = 1 then .sstore32 o else .sstore o
  | 0xC4 => if o.words = 1 then .szero32 o else .szero o
  | 0xC5 => if o.words = 1 then .seval32 o else .seval o
  | 0xC6 => if o.words = 1 then .sder32 o else .sder o
  | 0xC7 => if o.words = 1 then .sgrad32 o else .sgrad o
  | 0xC8 => if o.words = 1 then .srefine32 o else .srefine o
  | 0xCC => .ldr o
  | 0xCD => .stf o
  | 0xCE => .atomr o
  | 0xCF => .casr o
  | _ => .illegalOp o

/-- Table 4.10, opcodes 0xD0 to 0xDF. -/
noncomputable def instrOfD (op : Nat) (o : Opnds) : Instr :=
  match op with
  | 0xD0 => .flagw o
  | 0xD1 => .msg o
  | 0xD2 => if o.words = 1 then .msgq32 o else .msgq o
  | 0xD3 => .mcst o
  | 0xD4 => .mcred o
  | 0xD5 => if o.words = 1 then .grpq32 o else .grpq o
  | 0xD8 => .pst o
  | 0xD9 => if o.words = 1 then .pbar32 o else if o.mod = 0 then .pbar o else if o.mod = 1 then .pbarWaitPkg o else .pbarWaitStripe o
  | 0xDA => if o.words = 1 then .pflush32 o else .pflush o
  | 0xDB => if o.words = 1 then .pqst32 o else .pqst o
  | 0xDC => if o.words = 1 then .stepset32 o else .stepset o
  | 0xDD => if o.words = 1 then .steprd32 o else .steprd o
  | 0xDE => if o.mod = 0 then .snapTake o else if o.mod = 1 then .snapRestore o else if o.mod = 2 then .snapFreeze o else if o.mod = 3 then .snapThaw o else if o.mod = 4 then .snapRebuild o else .snapDelta o
  | 0xDF => if o.words = 1 then .snapst32 o else .snapst o
  | _ => .illegalOp o

/-- Table 4.10, opcodes 0xE0 to 0xEF. -/
noncomputable def instrOfE (op : Nat) (o : Opnds) : Instr :=
  match op with
  | 0xE4 => .launch o
  | 0xE5 => if o.words = 1 then .cancel32 o else .cancel o
  | 0xE6 => if o.words = 1 then .cntrd32 o else .cntrd o
  | 0xE7 => .tabnew o
  | 0xE8 => .tabdec o
  | 0xE9 => if o.words = 1 then .tabst32 o else .tabst o
  | 0xEA => .arm o
  | 0xEB => if o.words = 1 then .disarm32 o else .disarm o
  | _ => .illegalOp o

/-- Table 4.10, opcodes 0xF0 to 0xFF. -/
noncomputable def instrOfF (op : Nat) (o : Opnds) : Instr :=
  match op with
  | 0xF0 => if o.words = 1 then .trap32 o else .trap o
  | 0xF1 => if o.words = 1 then .rte32 o else if o.mod = 0 then .rte o else if o.mod = 1 then .rteSkip o else if o.mod = 2 then .rteEndc o else .rteEndp o
  | 0xF2 => if o.words = 1 then .brkp32 o else .brkp o
  | 0xF3 => .sysrd o
  | 0xF4 => if o.mod = 0 then .syswrMode o else if o.mod = 5 then .syswrXconf o else if o.mod = 38 then .syswrMboxo o else if o.mod = 40 then .syswrMboxst o else .syswrOther o
  | 0xF5 => if o.words = 1 then .haltp32 o else .haltp o
  | 0xF6 => .stoprd o
  | 0xF7 => if o.words = 1 then .evtrd32 o else .evtrd o
  | 0xF8 => if o.words = 1 then .cycle32 o else .cycle o
  | _ => .illegalOp o

/-- The instruction of an opcode and its operands; an unassigned opcode is the row ILLEGAL_OP (Table 4.10, R94). -/
noncomputable def instrOf (op : Nat) (o : Opnds) : Instr :=
  match op / 16 with
  | 0x0 => instrOf0 op o
  | 0x1 => instrOf1 op o
  | 0x2 => instrOf2 op o
  | 0x3 => instrOf3 op o
  | 0x4 => instrOf4 op o
  | 0x5 => instrOf5 op o
  | 0x6 => instrOf6 op o
  | 0x7 => instrOf7 op o
  | 0x8 => instrOf8 op o
  | 0x9 => instrOf9 op o
  | 0xA => instrOfA op o
  | 0xB => instrOfB op o
  | 0xC => instrOfC op o
  | 0xD => instrOfD op o
  | 0xE => instrOfE op o
  | 0xF => instrOfF op o
  | _ => .illegalOp o

/-- The opcode and operands of an instruction word, none for an event. -/
def wordOf (i : Instr) : Option (Nat × Opnds) :=
  match i with
  | .nop32 o => some (0x00, o)
  | .nop o => some (0x00, o)
  | .bra o => some (0x01, o)
  | .brc o => some (0x02, o)
  | .brd o => some (0x03, o)
  | .brx32 o => some (0x04, o)
  | .brx o => some (0x04, o)
  | .join32 o => some (0x05, o)
  | .join o => some (0x05, o)
  | .jarv32 o => some (0x06, o)
  | .jarv o => some (0x06, o)
  | .call o => some (0x07, o)
  | .callx32 o => some (0x08, o)
  | .callx o => some (0x08, o)
  | .ret32 o => some (0x09, o)
  | .ret o => some (0x09, o)
  | .exit32 o => some (0x0A, o)
  | .exit o => some (0x0A, o)
  | .loop o => some (0x0B, o)
  | .yield32 o => some (0x0C, o)
  | .yield o => some (0x0C, o)
  | .mand32 o => some (0x0D, o)
  | .mand o => some (0x0D, o)
  | .mor32 o => some (0x0E, o)
  | .mor o => some (0x0E, o)
  | .mxor32 o => some (0x0F, o)
  | .mxor o => some (0x0F, o)
  | .mnot32 o => some (0x10, o)
  | .mnot o => some (0x10, o)
  | .mandn32 o => some (0x11, o)
  | .mandn o => some (0x11, o)
  | .mset32 o => some (0x12, o)
  | .mset o => some (0x12, o)
  | .mffs32 o => some (0x13, o)
  | .mffs o => some (0x13, o)
  | .vote32 o => some (0x14, o)
  | .vote o => some (0x14, o)
  | .rjmv32 o => some (0x15, o)
  | .rjmv o => some (0x15, o)
  | .jmld o => some (0x16, o)
  | .jmst32 o => some (0x17, o)
  | .jmst o => some (0x17, o)
  | .iadd32 o => some (0x20, o)
  | .iadd o => some (0x20, o)
  | .isub32 o => some (0x21, o)
  | .isub o => some (0x21, o)
  | .imul2432 o => some (0x22, o)
  | .imul24 o => some (0x22, o)
  | .imad24 o => some (0x23, o)
  | .imul3232 o => some (0x24, o)
  | .imul32 o => some (0x24, o)
  | .imulh3232 o => some (0x25, o)
  | .imulh32 o => some (0x25, o)
  | .imin32 o => some (0x26, o)
  | .imin o => some (0x26, o)
  | .imax32 o => some (0x27, o)
  | .imax o => some (0x27, o)
  | .icmp32 o => some (0x28, o)
  | .icmp o => some (0x28, o)
  | .and32 o => some (0x29, o)
  | .and o => some (0x29, o)
  | .or32 o => some (0x2A, o)
  | .or o => some (0x2A, o)
  | .xor32 o => some (0x2B, o)
  | .xor o => some (0x2B, o)
  | .shl32 o => some (0x2C, o)
  | .shl o => some (0x2C, o)
  | .shr32 o => some (0x2D, o)
  | .shr o => some (0x2D, o)
  | .sar32 o => some (0x2E, o)
  | .sar o => some (0x2E, o)
  | .rot32 o => some (0x2F, o)
  | .rot o => some (0x2F, o)
  | .bfx o => some (0x30, o)
  | .bfi o => some (0x31, o)
  | .popc32 o => some (0x32, o)
  | .popc o => some (0x32, o)
  | .clz32 o => some (0x33, o)
  | .clz o => some (0x33, o)
  | .sel o => some (0x34, o)
  | .mov32 o => some (0x35, o)
  | .mov o => some (0x35, o)
  | .movi o => some (0x36, o)
  | .addr o => some (0x37, o)
  | .cvti o => some (0x38, o)
  | .crc32 o => some (0x39, o)
  | .crc o => some (0x39, o)
  | .fadd32 o => some (0x40, o)
  | .fadd o => some (0x40, o)
  | .fsub32 o => some (0x41, o)
  | .fsub o => some (0x41, o)
  | .fmul32 o => some (0x42, o)
  | .fmul o => some (0x42, o)
  | .ffma o => some (0x43, o)
  | .fmin32 o => some (0x44, o)
  | .fmin o => some (0x44, o)
  | .fmax32 o => some (0x45, o)
  | .fmax o => some (0x45, o)
  | .fcmp32 o => some (0x46, o)
  | .fcmp o => some (0x46, o)
  | .fclass32 o => some (0x47, o)
  | .fclass o => some (0x47, o)
  | .fsgn32 o => some (0x48, o)
  | .fsgn o => some (0x48, o)
  | .frcp32 o => some (0x49, o)
  | .frcp o => some (0x49, o)
  | .frsq32 o => some (0x4A, o)
  | .frsq o => some (0x4A, o)
  | .fsqrt32 o => some (0x4B, o)
  | .fsqrt o => some (0x4B, o)
  | .fexp232 o => some (0x4C, o)
  | .fexp2 o => some (0x4C, o)
  | .flog232 o => some (0x4D, o)
  | .flog2 o => some (0x4D, o)
  | .fsin32 o => some (0x4E, o)
  | .fsin o => some (0x4E, o)
  | .fcos32 o => some (0x4F, o)
  | .fcos o => some (0x4F, o)
  | .fcvt o => some (0x50, o)
  | .bxpack o => some (0x51, o)
  | .bxunpk o => some (0x52, o)
  | .cadd32 o => some (0x53, o)
  | .cadd o => some (0x53, o)
  | .csplit32 o => some (0x54, o)
  | .csplit o => some (0x54, o)
  | .cjoin32 o => some (0x55, o)
  | .cjoin o => some (0x55, o)
  | .updm o => some (0x56, o)
  | .fsetrm32 o => some (0x57, o)
  | .fsetrm o => some (0x57, o)
  | .fgetrm32 o => some (0x58, o)
  | .fgetrm o => some (0x58, o)
  | .fflag32 o => some (0x59, o)
  | .fflag o => some (0x59, o)
  | .xget32 o => some (0x60, o)
  | .xget o => some (0x60, o)
  | .xput32 o => some (0x61, o)
  | .xput o => some (0x61, o)
  | .shfl32 o => some (0x62, o)
  | .shfl o => some (0x62, o)
  | .bcast32 o => some (0x63, o)
  | .bcast o => some (0x63, o)
  | .red32 o => some (0x64, o)
  | .red o => some (0x64, o)
  | .scan32 o => some (0x65, o)
  | .scan o => some (0x65, o)
  | .compact32 o => some (0x66, o)
  | .compact o => some (0x66, o)
  | .expand32 o => some (0x67, o)
  | .expand o => some (0x67, o)
  | .matchLanes32 o => some (0x68, o)
  | .matchLanes o => some (0x68, o)
  | .vidx32 o => some (0x69, o)
  | .vidx o => some (0x69, o)
  | .lread32 o => some (0x6A, o)
  | .lread o => some (0x6A, o)
  | .lwrite o => some (0x6B, o)
  | .ld o => some (0x70, o)
  | .st o => some (0x71, o)
  | .lds32 o => some (0x72, o)
  | .lds o => some (0x72, o)
  | .sts32 o => some (0x73, o)
  | .sts o => some (0x73, o)
  | .ldb o => some (0x74, o)
  | .stb o => some (0x75, o)
  | .stash o => some (0x76, o)
  | .atom o => some (0x77, o)
  | .atoms o => some (0x78, o)
  | .cas o => some (0x79, o)
  | .cass o => some (0x7A, o)
  | .pref o => some (0x7B, o)
  | .pinv o => some (0x7C, o)
  | .pwb o => some (0x7D, o)
  | .xlt o => some (0x7E, o)
  | .stz o => some (0x7F, o)
  | .fence o => some (0x80, o)
  | .fenceX o => some (0x81, o)
  | .outrd32 o => some (0x82, o)
  | .outrd o => some (0x82, o)
  | .bar32 o => some (0x83, o)
  | .bar o => some (0x83, o)
  | .bara32 o => some (0x84, o)
  | .bara o => some (0x84, o)
  | .barw32 o => some (0x85, o)
  | .barw o => some (0x85, o)
  | .bari o => some (0x86, o)
  | .barq32 o => some (0x87, o)
  | .barq o => some (0x87, o)
  | .tryRegion o => some (0x90, o)
  | .commit32 o => some (0x91, o)
  | .commit o => some (0x91, o)
  | .abort32 o => some (0x92, o)
  | .abort o => some (0x92, o)
  | .tryst32 o => some (0x93, o)
  | .tryst o => some (0x93, o)
  | .tryaddr32 o => some (0x94, o)
  | .tryaddr o => some (0x94, o)
  | .trydrop32 o => some (0x95, o)
  | .trydrop o => some (0x95, o)
  | .commitSectorSend _ => none
  | .shld o => some (0x98, o)
  | .shset o => some (0x99, o)
  | .shst o => some (0x9A, o)
  | .copy o => some (0x9B, o)
  | .gather o => some (0x9C, o)
  | .scatter o => some (0x9D, o)
  | .cbinit32 o => some (0x9E, o)
  | .cbinit o => some (0x9E, o)
  | .cbwait32 o => some (0x9F, o)
  | .cbwait o => some (0x9F, o)
  | .cbpoll32 o => some (0xA0, o)
  | .cbpoll o => some (0xA0, o)
  | .qbind o => some (0xA1, o)
  | .qbindFree o => some (0xA1, o)
  | .qstat32 o => some (0xA2, o)
  | .qstat o => some (0xA2, o)
  | .pgacc o => some (0xA3, o)
  | .copyRow _ => none
  | .gatherRow _ => none
  | .scatterIndex _ => none
  | .engineOpComplete _ => none
  | .movtc o => some (0xA8, o)
  | .rdtc32 o => some (0xA9, o)
  | .rdtc o => some (0xA9, o)
  | .tzero32 o => some (0xAA, o)
  | .tzero o => some (0xAA, o)
  | .tfill o => some (0xAB, o)
  | .tload32 o => some (0xAC, o)
  | .tload o => some (0xAC, o)
  | .tstore32 o => some (0xAD, o)
  | .tstore o => some (0xAD, o)
  | .tmov32 o => some (0xAE, o)
  | .tmov o => some (0xAE, o)
  | .txpose32 o => some (0xAF, o)
  | .txpose o => some (0xAF, o)
  | .tileOpComplete _ _ => none
  | .mma o => some (0xB0, o)
  | .drain o => some (0xB1, o)
  | .accz32 o => some (0xB2, o)
  | .accz o => some (0xB2, o)
  | .rqpop32 o => some (0xB3, o)
  | .rqpop o => some (0xB3, o)
  | .amode32 o => some (0xB4, o)
  | .amode o => some (0xB4, o)
  | .await32 o => some (0xB5, o)
  | .await o => some (0xB5, o)
  | .spub o => some (0xB6, o)
  | .ssub o => some (0xB7, o)
  | .ssubOpen o => some (0xB7, o)
  | .ssubClose o => some (0xB7, o)
  | .ssubCopy o => some (0xB7, o)
  | .srel o => some (0xB8, o)
  | .sstat32 o => some (0xB9, o)
  | .sstat o => some (0xB9, o)
  | .slotPublished _ => none
  | .subscriptionSlotCopy _ _ => none
  | .mmaExecute _ => none
  | .drainExecute _ => none
  | .drainPushResume _ => none
  | .acczExecute _ => none
  | .amodeSwitch _ => none
  | .kset o => some (0xC0, o)
  | .ksetMap o => some (0xC0, o)
  | .kget32 o => some (0xC1, o)
  | .kget o => some (0xC1, o)
  | .sload32 o => some (0xC2, o)
  | .sload o => some (0xC2, o)
  | .sstore32 o => some (0xC3, o)
  | .sstore o => some (0xC3, o)
  | .szero32 o => some (0xC4, o)
  | .szero o => some (0xC4, o)
  | .seval32 o => some (0xC5, o)
  | .seval o => some (0xC5, o)
  | .sder32 o => some (0xC6, o)
  | .sder o => some (0xC6, o)
  | .sgrad32 o => some (0xC7, o)
  | .sgrad o => some (0xC7, o)
  | .srefine32 o => some (0xC8, o)
  | .srefine o => some (0xC8, o)
  | .sloadExecute _ => none
  | .sstoreExecute _ => none
  | .szeroExecute _ => none
  | .sevalExecute _ => none
  | .sderExecute _ => none
  | .sgradExecute _ => none
  | .srefineExecute _ => none
  | .ldr o => some (0xCC, o)
  | .stf o => some (0xCD, o)
  | .atomr o => some (0xCE, o)
  | .casr o => some (0xCF, o)
  | .flagw o => some (0xD0, o)
  | .msg o => some (0xD1, o)
  | .msgq32 o => some (0xD2, o)
  | .msgq o => some (0xD2, o)
  | .mcst o => some (0xD3, o)
  | .mcred o => some (0xD4, o)
  | .grpq32 o => some (0xD5, o)
  | .grpq o => some (0xD5, o)
  | .rdPacket _ => none
  | .wrPacket _ => none
  | .wrfPacket _ => none
  | .atPacket _ => none
  | .csPacket _ => none
  | .flgPacket _ => none
  | .msgPacket _ => none
  | .mcstPacket _ => none
  | .mcrdPacket _ => none
  | .mcrrPacket _ => none
  | .nackPacket _ => none
  | .packetDropped _ => none
  | .absenceWindowExpiry _ _ => none
  | .flitReplay _ => none
  | .linkDown _ _ => none
  | .pst o => some (0xD8, o)
  | .pbar32 o => some (0xD9, o)
  | .pbar o => some (0xD9, o)
  | .pbarWaitPkg o => some (0xD9, o)
  | .pbarWaitStripe o => some (0xD9, o)
  | .pflush32 o => some (0xDA, o)
  | .pflush o => some (0xDA, o)
  | .pqst32 o => some (0xDB, o)
  | .pqst o => some (0xDB, o)
  | .stepset32 o => some (0xDC, o)
  | .stepset o => some (0xDC, o)
  | .steprd32 o => some (0xDD, o)
  | .steprd o => some (0xDD, o)
  | .snapTake o => some (0xDE, o)
  | .snapRestore o => some (0xDE, o)
  | .snapFreeze o => some (0xDE, o)
  | .snapThaw o => some (0xDE, o)
  | .snapRebuild o => some (0xDE, o)
  | .snapDelta o => some (0xDE, o)
  | .snapst32 o => some (0xDF, o)
  | .snapst o => some (0xDF, o)
  | .pAccept _ => none
  | .persistDrain => none
  | .windlassSweep _ _ => none
  | .localCommit _ => none
  | .stripeContribution _ _ _ _ _ => none
  | .stripeCommit _ => none
  | .powerFail => none
  | .holdupCharged => none
  | .holdupLow => none
  | .holdupLowTimeout => none
  | .launch o => some (0xE4, o)
  | .cancel32 o => some (0xE5, o)
  | .cancel o => some (0xE5, o)
  | .cntrd32 o => some (0xE6, o)
  | .cntrd o => some (0xE6, o)
  | .tabnew o => some (0xE7, o)
  | .tabdec o => some (0xE8, o)
  | .tabst32 o => some (0xE9, o)
  | .tabst o => some (0xE9, o)
  | .arm o => some (0xEA, o)
  | .disarm32 o => some (0xEB, o)
  | .disarm o => some (0xEB, o)
  | .nopPacket _ => none
  | .launchPacket _ => none
  | .copyPacket _ => none
  | .signalSet _ => none
  | .signalDec _ => none
  | .signalDecFailed _ => none
  | .waitPacket _ => none
  | .cancelPacket _ => none
  | .armPacket _ => none
  | .disarmPacket _ => none
  | .concurrentAdmit _ => none
  | .batchHandoff _ _ => none
  | .priorityAging _ => none
  | .tabStart _ _ => none
  | .teamDisplace _ => none
  | .launchComplete _ => none
  | .cancelComplete _ => none
  | .replyArrival _ _ _ _ => none
  | .storeAck _ _ _ => none
  | .requestTimeout _ _ => none
  | .illegalOp _ => none
  | .trap32 o => some (0xF0, o)
  | .trap o => some (0xF0, o)
  | .rte32 o => some (0xF1, o)
  | .rte o => some (0xF1, o)
  | .rteSkip o => some (0xF1, o)
  | .rteEndc o => some (0xF1, o)
  | .rteEndp o => some (0xF1, o)
  | .brkp32 o => some (0xF2, o)
  | .brkp o => some (0xF2, o)
  | .sysrd o => some (0xF3, o)
  | .syswrMode o => some (0xF4, o)
  | .syswrXconf o => some (0xF4, o)
  | .syswrMboxo o => some (0xF4, o)
  | .syswrMboxst o => some (0xF4, o)
  | .syswrOther o => some (0xF4, o)
  | .haltp32 o => some (0xF5, o)
  | .haltp o => some (0xF5, o)
  | .stoprd o => some (0xF6, o)
  | .evtrd32 o => some (0xF7, o)
  | .evtrd o => some (0xF7, o)
  | .cycle32 o => some (0xF8, o)
  | .cycle o => some (0xF8, o)
  | .partyStop _ => none
  | .handlerEntry _ => none
  | .preemptComplete _ => none
  | .queueWatchdogExpiry _ => none
  | .armWatchdogExpiry _ => none
  | .watchdogReset _ => none
  | .clusterFence _ => none
  | .mrtailWrite _ _ => none
  | .partCfgQuads => none
  | .partCfgPtroot => none
  | .partCfgSrbase => none
  | .partCfgTvec => none
  | .partCfgCtxbase => none
  | .partCfgTabbase => none
  | .partCfgTabn => none
  | .partCfgTabcfg => none
  | .partCfgMigring => none
  | .partCfgDomctl => none
  | .partCfgNvmeports => none
  | .partTuneMto => none
  | .partTuneMigth => none
  | .partTuneWdcfg => none
  | .queueCfg => none
  | .cntAlloc => none
  | .cntFree => none
  | .streamCfg => none
  | .groupCfg => none
  | .preempt => none
  | .restore => none
  | .reset => none
  | .mboxAnswer => none
  | .nvmeSubmit => none
  | .nvmeCompletion _ _ _ => none
  | .attest => none
  | .evictDone => none
  | .frameExtSet => none
  | .frameExtClear => none
  | .hostBar2Write _ _ => none
  | .hostBar2Read _ _ => none
  | .hbeat => none
  | .boot _ _ => none
  | .ejectN _ => none
  | .evictRequest => none
  | .evictWithdraw => none
  | .evictReady => none
  | .evictTimeout => none
  | .fruRead => none
  | .replClear => none
  | .hostBar2Atomicop _ _ _ _ _ => none
  | .displacedTeamRestore _ => none

end Sys2Proof.Machine
end

