-- ==== Sys2Proof/Machine/Fast.lean ====
section
/-! DEFINITION. The dispatcher by opcode, which the compiler can run: it cannot build a constructor of Instr past the 245th. -/
namespace Sys2Proof.Machine

/-- The meanings of opcodes 0x00 to 0x0F. -/
def execWord0 (op : Nat) (o : Opnds) (s : State) : Host.Outcome State Fault Refusal :=
  match op with
  | 0x00 => if o.words = 1 then execNop32 o s else execNop o s
  | 0x01 => execBra o s
  | 0x02 => execBrc o s
  | 0x03 => execBrd o s
  | 0x04 => if o.words = 1 then execBrx32 o s else execBrx o s
  | 0x05 => if o.words = 1 then execJoin32 o s else execJoin o s
  | 0x06 => if o.words = 1 then execJarv32 o s else execJarv o s
  | 0x07 => execCall o s
  | 0x08 => if o.words = 1 then execCallx32 o s else execCallx o s
  | 0x09 => if o.words = 1 then execRet32 o s else execRet o s
  | 0x0A => if o.words = 1 then execExit32 o s else execExit o s
  | 0x0B => execLoop o s
  | 0x0C => if o.words = 1 then execYield32 o s else execYield o s
  | 0x0D => if o.words = 1 then execMand32 o s else execMand o s
  | 0x0E => if o.words = 1 then execMor32 o s else execMor o s
  | 0x0F => if o.words = 1 then execMxor32 o s else execMxor o s
  | _ => execIllegalOp o s

/-- The meanings of opcodes 0x10 to 0x1F. -/
def execWord1 (op : Nat) (o : Opnds) (s : State) : Host.Outcome State Fault Refusal :=
  match op with
  | 0x10 => if o.words = 1 then execMnot32 o s else execMnot o s
  | 0x11 => if o.words = 1 then execMandn32 o s else execMandn o s
  | 0x12 => if o.words = 1 then execMset32 o s else execMset o s
  | 0x13 => if o.words = 1 then execMffs32 o s else execMffs o s
  | 0x14 => if o.words = 1 then execVote32 o s else execVote o s
  | 0x15 => if o.words = 1 then execRjmv32 o s else execRjmv o s
  | 0x16 => execJmld o s
  | 0x17 => if o.words = 1 then execJmst32 o s else execJmst o s
  | _ => execIllegalOp o s

/-- The meanings of opcodes 0x20 to 0x2F. -/
def execWord2 (op : Nat) (o : Opnds) (s : State) : Host.Outcome State Fault Refusal :=
  match op with
  | 0x20 => if o.words = 1 then execIadd32 o s else execIadd o s
  | 0x21 => if o.words = 1 then execIsub32 o s else execIsub o s
  | 0x22 => if o.words = 1 then execImul2432 o s else execImul24 o s
  | 0x23 => execImad24 o s
  | 0x24 => if o.words = 1 then execImul3232 o s else execImul32 o s
  | 0x25 => if o.words = 1 then execImulh3232 o s else execImulh32 o s
  | 0x26 => if o.words = 1 then execImin32 o s else execImin o s
  | 0x27 => if o.words = 1 then execImax32 o s else execImax o s
  | 0x28 => if o.words = 1 then execIcmp32 o s else execIcmp o s
  | 0x29 => if o.words = 1 then execAnd32 o s else execAnd o s
  | 0x2A => if o.words = 1 then execOr32 o s else execOr o s
  | 0x2B => if o.words = 1 then execXor32 o s else execXor o s
  | 0x2C => if o.words = 1 then execShl32 o s else execShl o s
  | 0x2D => if o.words = 1 then execShr32 o s else execShr o s
  | 0x2E => if o.words = 1 then execSar32 o s else execSar o s
  | 0x2F => if o.words = 1 then execRot32 o s else execRot o s
  | _ => execIllegalOp o s

/-- The meanings of opcodes 0x30 to 0x3F. -/
def execWord3 (op : Nat) (o : Opnds) (s : State) : Host.Outcome State Fault Refusal :=
  match op with
  | 0x30 => execBfx o s
  | 0x31 => execBfi o s
  | 0x32 => if o.words = 1 then execPopc32 o s else execPopc o s
  | 0x33 => if o.words = 1 then execClz32 o s else execClz o s
  | 0x34 => execSel o s
  | 0x35 => if o.words = 1 then execMov32 o s else execMov o s
  | 0x36 => execMovi o s
  | 0x37 => execAddr o s
  | 0x38 => execCvti o s
  | 0x39 => if o.words = 1 then execCrc32 o s else execCrc o s
  | _ => execIllegalOp o s

/-- The meanings of opcodes 0x40 to 0x4F. -/
def execWord4 (op : Nat) (o : Opnds) (s : State) : Host.Outcome State Fault Refusal :=
  match op with
  | 0x40 => if o.words = 1 then execFadd32 o s else execFadd o s
  | 0x41 => if o.words = 1 then execFsub32 o s else execFsub o s
  | 0x42 => if o.words = 1 then execFmul32 o s else execFmul o s
  | 0x43 => execFfma o s
  | 0x44 => if o.words = 1 then execFmin32 o s else execFmin o s
  | 0x45 => if o.words = 1 then execFmax32 o s else execFmax o s
  | 0x46 => if o.words = 1 then execFcmp32 o s else execFcmp o s
  | 0x47 => if o.words = 1 then execFclass32 o s else execFclass o s
  | 0x48 => if o.words = 1 then execFsgn32 o s else execFsgn o s
  | 0x49 => if o.words = 1 then execFrcp32 o s else execFrcp o s
  | 0x4A => if o.words = 1 then execFrsq32 o s else execFrsq o s
  | 0x4B => if o.words = 1 then execFsqrt32 o s else execFsqrt o s
  | 0x4C => if o.words = 1 then execFexp232 o s else execFexp2 o s
  | 0x4D => if o.words = 1 then execFlog232 o s else execFlog2 o s
  | 0x4E => if o.words = 1 then execFsin32 o s else execFsin o s
  | 0x4F => if o.words = 1 then execFcos32 o s else execFcos o s
  | _ => execIllegalOp o s

/-- The meanings of opcodes 0x50 to 0x5F. -/
def execWord5 (op : Nat) (o : Opnds) (s : State) : Host.Outcome State Fault Refusal :=
  match op with
  | 0x50 => execFcvt o s
  | 0x51 => execBxpack o s
  | 0x52 => execBxunpk o s
  | 0x53 => if o.words = 1 then execCadd32 o s else execCadd o s
  | 0x54 => if o.words = 1 then execCsplit32 o s else execCsplit o s
  | 0x55 => if o.words = 1 then execCjoin32 o s else execCjoin o s
  | 0x56 => execUpdm o s
  | 0x57 => if o.words = 1 then execFsetrm32 o s else execFsetrm o s
  | 0x58 => if o.words = 1 then execFgetrm32 o s else execFgetrm o s
  | 0x59 => if o.words = 1 then execFflag32 o s else execFflag o s
  | _ => execIllegalOp o s

/-- The meanings of opcodes 0x60 to 0x6F. -/
def execWord6 (op : Nat) (o : Opnds) (s : State) : Host.Outcome State Fault Refusal :=
  match op with
  | 0x60 => if o.words = 1 then execXget32 o s else execXget o s
  | 0x61 => if o.words = 1 then execXput32 o s else execXput o s
  | 0x62 => if o.words = 1 then execShfl32 o s else execShfl o s
  | 0x63 => if o.words = 1 then execBcast32 o s else execBcast o s
  | 0x64 => if o.words = 1 then execRed32 o s else execRed o s
  | 0x65 => if o.words = 1 then execScan32 o s else execScan o s
  | 0x66 => if o.words = 1 then execCompact32 o s else execCompact o s
  | 0x67 => if o.words = 1 then execExpand32 o s else execExpand o s
  | 0x68 => if o.words = 1 then execMatchLanes32 o s else execMatchLanes o s
  | 0x69 => if o.words = 1 then execVidx32 o s else execVidx o s
  | 0x6A => if o.words = 1 then execLread32 o s else execLread o s
  | 0x6B => execLwrite o s
  | _ => execIllegalOp o s

/-- The meanings of opcodes 0x70 to 0x7F. -/
def execWord7 (op : Nat) (o : Opnds) (s : State) : Host.Outcome State Fault Refusal :=
  match op with
  | 0x70 => execLd o s
  | 0x71 => execSt o s
  | 0x72 => if o.words = 1 then execLds32 o s else execLds o s
  | 0x73 => if o.words = 1 then execSts32 o s else execSts o s
  | 0x74 => execLdb o s
  | 0x75 => execStb o s
  | 0x76 => execStash o s
  | 0x77 => execAtom o s
  | 0x78 => execAtoms o s
  | 0x79 => execCas o s
  | 0x7A => execCass o s
  | 0x7B => execPref o s
  | 0x7C => execPinv o s
  | 0x7D => execPwb o s
  | 0x7E => execXlt o s
  | 0x7F => execStz o s
  | _ => execIllegalOp o s

/-- The meanings of opcodes 0x80 to 0x8F. -/
def execWord8 (op : Nat) (o : Opnds) (s : State) : Host.Outcome State Fault Refusal :=
  match op with
  | 0x80 => execFence o s
  | 0x81 => execFenceX o s
  | 0x82 => if o.words = 1 then execOutrd32 o s else execOutrd o s
  | 0x83 => if o.words = 1 then execBar32 o s else execBar o s
  | 0x84 => if o.words = 1 then execBara32 o s else execBara o s
  | 0x85 => if o.words = 1 then execBarw32 o s else execBarw o s
  | 0x86 => execBari o s
  | 0x87 => if o.words = 1 then execBarq32 o s else execBarq o s
  | _ => execIllegalOp o s

/-- The meanings of opcodes 0x90 to 0x9F. -/
def execWord9 (op : Nat) (o : Opnds) (s : State) : Host.Outcome State Fault Refusal :=
  match op with
  | 0x90 => execTryRegion o s
  | 0x91 => if o.words = 1 then execCommit32 o s else execCommit o s
  | 0x92 => if o.words = 1 then execAbort32 o s else execAbort o s
  | 0x93 => if o.words = 1 then execTryst32 o s else execTryst o s
  | 0x94 => if o.words = 1 then execTryaddr32 o s else execTryaddr o s
  | 0x95 => if o.words = 1 then execTrydrop32 o s else execTrydrop o s
  | 0x98 => execShld o s
  | 0x99 => execShset o s
  | 0x9A => execShst o s
  | 0x9B => execCopy o s
  | 0x9C => execGather o s
  | 0x9D => execScatter o s
  | 0x9E => if o.words = 1 then execCbinit32 o s else execCbinit o s
  | 0x9F => if o.words = 1 then execCbwait32 o s else execCbwait o s
  | _ => execIllegalOp o s

/-- The meanings of opcodes 0xA0 to 0xAF. -/
def execWordA (op : Nat) (o : Opnds) (s : State) : Host.Outcome State Fault Refusal :=
  match op with
  | 0xA0 => if o.words = 1 then execCbpoll32 o s else execCbpoll o s
  | 0xA1 => if o.mod = 0 then execQbind o s else execQbindFree o s
  | 0xA2 => if o.words = 1 then execQstat32 o s else execQstat o s
  | 0xA3 => execPgacc o s
  | 0xA8 => execMovtc o s
  | 0xA9 => if o.words = 1 then execRdtc32 o s else execRdtc o s
  | 0xAA => if o.words = 1 then execTzero32 o s else execTzero o s
  | 0xAB => execTfill o s
  | 0xAC => if o.words = 1 then execTload32 o s else execTload o s
  | 0xAD => if o.words = 1 then execTstore32 o s else execTstore o s
  | 0xAE => if o.words = 1 then execTmov32 o s else execTmov o s
  | 0xAF => if o.words = 1 then execTxpose32 o s else execTxpose o s
  | _ => execIllegalOp o s

/-- The meanings of opcodes 0xB0 to 0xBF. -/
def execWordB (op : Nat) (o : Opnds) (s : State) : Host.Outcome State Fault Refusal :=
  match op with
  | 0xB0 => execMma o s
  | 0xB1 => execDrain o s
  | 0xB2 => if o.words = 1 then execAccz32 o s else execAccz o s
  | 0xB3 => if o.words = 1 then execRqpop32 o s else execRqpop o s
  | 0xB4 => if o.words = 1 then execAmode32 o s else execAmode o s
  | 0xB5 => if o.words = 1 then execAwait32 o s else execAwait o s
  | 0xB6 => execSpub o s
  | 0xB7 => if o.mod = 0 then execSsub o s else if o.mod = 1 then execSsubOpen o s else if o.mod = 2 then execSsubClose o s else execSsubCopy o s
  | 0xB8 => execSrel o s
  | 0xB9 => if o.words = 1 then execSstat32 o s else execSstat o s
  | _ => execIllegalOp o s

/-- The meanings of opcodes 0xC0 to 0xCF. -/
def execWordC (op : Nat) (o : Opnds) (s : State) : Host.Outcome State Fault Refusal :=
  match op with
  | 0xC0 => if o.mod = 0 then execKset o s else execKsetMap o s
  | 0xC1 => if o.words = 1 then execKget32 o s else execKget o s
  | 0xC2 => if o.words = 1 then execSload32 o s else execSload o s
  | 0xC3 => if o.words = 1 then execSstore32 o s else execSstore o s
  | 0xC4 => if o.words = 1 then execSzero32 o s else execSzero o s
  | 0xC5 => if o.words = 1 then execSeval32 o s else execSeval o s
  | 0xC6 => if o.words = 1 then execSder32 o s else execSder o s
  | 0xC7 => if o.words = 1 then execSgrad32 o s else execSgrad o s
  | 0xC8 => if o.words = 1 then execSrefine32 o s else execSrefine o s
  | 0xCC => execLdr o s
  | 0xCD => execStf o s
  | 0xCE => execAtomr o s
  | 0xCF => execCasr o s
  | _ => execIllegalOp o s

/-- The meanings of opcodes 0xD0 to 0xDF. -/
def execWordD (op : Nat) (o : Opnds) (s : State) : Host.Outcome State Fault Refusal :=
  match op with
  | 0xD0 => execFlagw o s
  | 0xD1 => execMsg o s
  | 0xD2 => if o.words = 1 then execMsgq32 o s else execMsgq o s
  | 0xD3 => execMcst o s
  | 0xD4 => execMcred o s
  | 0xD5 => if o.words = 1 then execGrpq32 o s else execGrpq o s
  | 0xD8 => execPst o s
  | 0xD9 => if o.words = 1 then execPbar32 o s else if o.mod = 0 then execPbar o s else if o.mod = 1 then execPbarWaitPkg o s else execPbarWaitStripe o s
  | 0xDA => if o.words = 1 then execPflush32 o s else execPflush o s
  | 0xDB => if o.words = 1 then execPqst32 o s else execPqst o s
  | 0xDC => if o.words = 1 then execStepset32 o s else execStepset o s
  | 0xDD => if o.words = 1 then execSteprd32 o s else execSteprd o s
  | 0xDE => if o.mod = 0 then execSnapTake o s else if o.mod = 1 then execSnapRestore o s else if o.mod = 2 then execSnapFreeze o s else if o.mod = 3 then execSnapThaw o s else if o.mod = 4 then execSnapRebuild o s else execSnapDelta o s
  | 0xDF => if o.words = 1 then execSnapst32 o s else execSnapst o s
  | _ => execIllegalOp o s

/-- The meanings of opcodes 0xE0 to 0xEF. -/
def execWordE (op : Nat) (o : Opnds) (s : State) : Host.Outcome State Fault Refusal :=
  match op with
  | 0xE4 => execLaunch o s
  | 0xE5 => if o.words = 1 then execCancel32 o s else execCancel o s
  | 0xE6 => if o.words = 1 then execCntrd32 o s else execCntrd o s
  | 0xE7 => execTabnew o s
  | 0xE8 => execTabdec o s
  | 0xE9 => if o.words = 1 then execTabst32 o s else execTabst o s
  | 0xEA => execArm o s
  | 0xEB => if o.words = 1 then execDisarm32 o s else execDisarm o s
  | _ => execIllegalOp o s

/-- The meanings of opcodes 0xF0 to 0xFF. -/
def execWordF (op : Nat) (o : Opnds) (s : State) : Host.Outcome State Fault Refusal :=
  match op with
  | 0xF0 => if o.words = 1 then execTrap32 o s else execTrap o s
  | 0xF1 => if o.words = 1 then execRte32 o s else if o.mod = 0 then execRte o s else if o.mod = 1 then execRteSkip o s else if o.mod = 2 then execRteEndc o s else execRteEndp o s
  | 0xF2 => if o.words = 1 then execBrkp32 o s else execBrkp o s
  | 0xF3 => execSysrd o s
  | 0xF4 => if o.mod = 0 then execSyswrMode o s else if o.mod = 5 then execSyswrXconf o s else if o.mod = 38 then execSyswrMboxo o s else if o.mod = 40 then execSyswrMboxst o s else execSyswrOther o s
  | 0xF5 => if o.words = 1 then execHaltp32 o s else execHaltp o s
  | 0xF6 => execStoprd o s
  | 0xF7 => if o.words = 1 then execEvtrd32 o s else execEvtrd o s
  | 0xF8 => if o.words = 1 then execCycle32 o s else execCycle o s
  | _ => execIllegalOp o s

/-- The instruction of an opcode and its operands; an unassigned opcode is the row ILLEGAL_OP (Table 4.10, R94). -/
def execWord (op : Nat) (o : Opnds) (s : State) : Host.Outcome State Fault Refusal :=
  match op / 16 with
  | 0x0 => execWord0 op o s
  | 0x1 => execWord1 op o s
  | 0x2 => execWord2 op o s
  | 0x3 => execWord3 op o s
  | 0x4 => execWord4 op o s
  | 0x5 => execWord5 op o s
  | 0x6 => execWord6 op o s
  | 0x7 => execWord7 op o s
  | 0x8 => execWord8 op o s
  | 0x9 => execWord9 op o s
  | 0xA => execWordA op o s
  | 0xB => execWordB op o s
  | 0xC => execWordC op o s
  | 0xD => execWordD op o s
  | 0xE => execWordE op o s
  | 0xF => execWordF op o s
  | _ => execIllegalOp o s

theorem exec_ite (c : Prop) [Decidable c] (a b : Instr) (s : State) :
    exec (if c then a else b) s = if c then exec a s else exec b s := by split <;> rfl

theorem execWord0_eq (op : Nat) (o : Opnds) (s : State) : execWord0 op o s = exec (instrOf0 op o) s := by
  unfold execWord0 instrOf0
  split
  · show _ = exec (if o.words = 1 then .nop32 o else .nop o) s
    simp only [exec_ite]
    rfl
  · first | rfl | (split <;> first | contradiction | rfl)
  · first | rfl | (split <;> first | contradiction | rfl)
  · first | rfl | (split <;> first | contradiction | rfl)
  · show _ = exec (if o.words = 1 then .brx32 o else .brx o) s
    simp only [exec_ite]
    rfl
  · show _ = exec (if o.words = 1 then .join32 o else .join o) s
    simp only [exec_ite]
    rfl
  · show _ = exec (if o.words = 1 then .jarv32 o else .jarv o) s
    simp only [exec_ite]
    rfl
  · first | rfl | (split <;> first | contradiction | rfl)
  · show _ = exec (if o.words = 1 then .callx32 o else .callx o) s
    simp only [exec_ite]
    rfl
  · show _ = exec (if o.words = 1 then .ret32 o else .ret o) s
    simp only [exec_ite]
    rfl
  · show _ = exec (if o.words = 1 then .exit32 o else .exit o) s
    simp only [exec_ite]
    rfl
  · first | rfl | (split <;> first | contradiction | rfl)
  · show _ = exec (if o.words = 1 then .yield32 o else .yield o) s
    simp only [exec_ite]
    rfl
  · show _ = exec (if o.words = 1 then .mand32 o else .mand o) s
    simp only [exec_ite]
    rfl
  · show _ = exec (if o.words = 1 then .mor32 o else .mor o) s
    simp only [exec_ite]
    rfl
  · show _ = exec (if o.words = 1 then .mxor32 o else .mxor o) s
    simp only [exec_ite]
    rfl
  · first | rfl | (split <;> first | contradiction | rfl)

theorem execWord1_eq (op : Nat) (o : Opnds) (s : State) : execWord1 op o s = exec (instrOf1 op o) s := by
  unfold execWord1 instrOf1
  split
  · show _ = exec (if o.words = 1 then .mnot32 o else .mnot o) s
    simp only [exec_ite]
    rfl
  · show _ = exec (if o.words = 1 then .mandn32 o else .mandn o) s
    simp only [exec_ite]
    rfl
  · show _ = exec (if o.words = 1 then .mset32 o else .mset o) s
    simp only [exec_ite]
    rfl
  · show _ = exec (if o.words = 1 then .mffs32 o else .mffs o) s
    simp only [exec_ite]
    rfl
  · show _ = exec (if o.words = 1 then .vote32 o else .vote o) s
    simp only [exec_ite]
    rfl
  · show _ = exec (if o.words = 1 then .rjmv32 o else .rjmv o) s
    simp only [exec_ite]
    rfl
  · first | rfl | (split <;> first | contradiction | rfl)
  · show _ = exec (if o.words = 1 then .jmst32 o else .jmst o) s
    simp only [exec_ite]
    rfl
  · first | rfl | (split <;> first | contradiction | rfl)

theorem execWord2_eq (op : Nat) (o : Opnds) (s : State) : execWord2 op o s = exec (instrOf2 op o) s := by
  unfold execWord2 instrOf2
  split
  · show _ = exec (if o.words = 1 then .iadd32 o else .iadd o) s
    simp only [exec_ite]
    rfl
  · show _ = exec (if o.words = 1 then .isub32 o else .isub o) s
    simp only [exec_ite]
    rfl
  · show _ = exec (if o.words = 1 then .imul2432 o else .imul24 o) s
    simp only [exec_ite]
    rfl
  · first | rfl | (split <;> first | contradiction | rfl)
  · show _ = exec (if o.words = 1 then .imul3232 o else .imul32 o) s
    simp only [exec_ite]
    rfl
  · show _ = exec (if o.words = 1 then .imulh3232 o else .imulh32 o) s
    simp only [exec_ite]
    rfl
  · show _ = exec (if o.words = 1 then .imin32 o else .imin o) s
    simp only [exec_ite]
    rfl
  · show _ = exec (if o.words = 1 then .imax32 o else .imax o) s
    simp only [exec_ite]
    rfl
  · show _ = exec (if o.words = 1 then .icmp32 o else .icmp o) s
    simp only [exec_ite]
    rfl
  · show _ = exec (if o.words = 1 then .and32 o else .and o) s
    simp only [exec_ite]
    rfl
  · show _ = exec (if o.words = 1 then .or32 o else .or o) s
    simp only [exec_ite]
    rfl
  · show _ = exec (if o.words = 1 then .xor32 o else .xor o) s
    simp only [exec_ite]
    rfl
  · show _ = exec (if o.words = 1 then .shl32 o else .shl o) s
    simp only [exec_ite]
    rfl
  · show _ = exec (if o.words = 1 then .shr32 o else .shr o) s
    simp only [exec_ite]
    rfl
  · show _ = exec (if o.words = 1 then .sar32 o else .sar o) s
    simp only [exec_ite]
    rfl
  · show _ = exec (if o.words = 1 then .rot32 o else .rot o) s
    simp only [exec_ite]
    rfl
  · first | rfl | (split <;> first | contradiction | rfl)

theorem execWord3_eq (op : Nat) (o : Opnds) (s : State) : execWord3 op o s = exec (instrOf3 op o) s := by
  unfold execWord3 instrOf3
  split
  · first | rfl | (split <;> first | contradiction | rfl)
  · first | rfl | (split <;> first | contradiction | rfl)
  · show _ = exec (if o.words = 1 then .popc32 o else .popc o) s
    simp only [exec_ite]
    rfl
  · show _ = exec (if o.words = 1 then .clz32 o else .clz o) s
    simp only [exec_ite]
    rfl
  · first | rfl | (split <;> first | contradiction | rfl)
  · show _ = exec (if o.words = 1 then .mov32 o else .mov o) s
    simp only [exec_ite]
    rfl
  · first | rfl | (split <;> first | contradiction | rfl)
  · first | rfl | (split <;> first | contradiction | rfl)
  · first | rfl | (split <;> first | contradiction | rfl)
  · show _ = exec (if o.words = 1 then .crc32 o else .crc o) s
    simp only [exec_ite]
    rfl
  · first | rfl | (split <;> first | contradiction | rfl)

theorem execWord4_eq (op : Nat) (o : Opnds) (s : State) : execWord4 op o s = exec (instrOf4 op o) s := by
  unfold execWord4 instrOf4
  split
  · show _ = exec (if o.words = 1 then .fadd32 o else .fadd o) s
    simp only [exec_ite]
    rfl
  · show _ = exec (if o.words = 1 then .fsub32 o else .fsub o) s
    simp only [exec_ite]
    rfl
  · show _ = exec (if o.words = 1 then .fmul32 o else .fmul o) s
    simp only [exec_ite]
    rfl
  · first | rfl | (split <;> first | contradiction | rfl)
  · show _ = exec (if o.words = 1 then .fmin32 o else .fmin o) s
    simp only [exec_ite]
    rfl
  · show _ = exec (if o.words = 1 then .fmax32 o else .fmax o) s
    simp only [exec_ite]
    rfl
  · show _ = exec (if o.words = 1 then .fcmp32 o else .fcmp o) s
    simp only [exec_ite]
    rfl
  · show _ = exec (if o.words = 1 then .fclass32 o else .fclass o) s
    simp only [exec_ite]
    rfl
  · show _ = exec (if o.words = 1 then .fsgn32 o else .fsgn o) s
    simp only [exec_ite]
    rfl
  · show _ = exec (if o.words = 1 then .frcp32 o else .frcp o) s
    simp only [exec_ite]
    rfl
  · show _ = exec (if o.words = 1 then .frsq32 o else .frsq o) s
    simp only [exec_ite]
    rfl
  · show _ = exec (if o.words = 1 then .fsqrt32 o else .fsqrt o) s
    simp only [exec_ite]
    rfl
  · show _ = exec (if o.words = 1 then .fexp232 o else .fexp2 o) s
    simp only [exec_ite]
    rfl
  · show _ = exec (if o.words = 1 then .flog232 o else .flog2 o) s
    simp only [exec_ite]
    rfl
  · show _ = exec (if o.words = 1 then .fsin32 o else .fsin o) s
    simp only [exec_ite]
    rfl
  · show _ = exec (if o.words = 1 then .fcos32 o else .fcos o) s
    simp only [exec_ite]
    rfl
  · first | rfl | (split <;> first | contradiction | rfl)

theorem execWord5_eq (op : Nat) (o : Opnds) (s : State) : execWord5 op o s = exec (instrOf5 op o) s := by
  unfold execWord5 instrOf5
  split
  · first | rfl | (split <;> first | contradiction | rfl)
  · first | rfl | (split <;> first | contradiction | rfl)
  · first | rfl | (split <;> first | contradiction | rfl)
  · show _ = exec (if o.words = 1 then .cadd32 o else .cadd o) s
    simp only [exec_ite]
    rfl
  · show _ = exec (if o.words = 1 then .csplit32 o else .csplit o) s
    simp only [exec_ite]
    rfl
  · show _ = exec (if o.words = 1 then .cjoin32 o else .cjoin o) s
    simp only [exec_ite]
    rfl
  · first | rfl | (split <;> first | contradiction | rfl)
  · show _ = exec (if o.words = 1 then .fsetrm32 o else .fsetrm o) s
    simp only [exec_ite]
    rfl
  · show _ = exec (if o.words = 1 then .fgetrm32 o else .fgetrm o) s
    simp only [exec_ite]
    rfl
  · show _ = exec (if o.words = 1 then .fflag32 o else .fflag o) s
    simp only [exec_ite]
    rfl
  · first | rfl | (split <;> first | contradiction | rfl)

theorem execWord6_eq (op : Nat) (o : Opnds) (s : State) : execWord6 op o s = exec (instrOf6 op o) s := by
  unfold execWord6 instrOf6
  split
  · show _ = exec (if o.words = 1 then .xget32 o else .xget o) s
    simp only [exec_ite]
    rfl
  · show _ = exec (if o.words = 1 then .xput32 o else .xput o) s
    simp only [exec_ite]
    rfl
  · show _ = exec (if o.words = 1 then .shfl32 o else .shfl o) s
    simp only [exec_ite]
    rfl
  · show _ = exec (if o.words = 1 then .bcast32 o else .bcast o) s
    simp only [exec_ite]
    rfl
  · show _ = exec (if o.words = 1 then .red32 o else .red o) s
    simp only [exec_ite]
    rfl
  · show _ = exec (if o.words = 1 then .scan32 o else .scan o) s
    simp only [exec_ite]
    rfl
  · show _ = exec (if o.words = 1 then .compact32 o else .compact o) s
    simp only [exec_ite]
    rfl
  · show _ = exec (if o.words = 1 then .expand32 o else .expand o) s
    simp only [exec_ite]
    rfl
  · show _ = exec (if o.words = 1 then .matchLanes32 o else .matchLanes o) s
    simp only [exec_ite]
    rfl
  · show _ = exec (if o.words = 1 then .vidx32 o else .vidx o) s
    simp only [exec_ite]
    rfl
  · show _ = exec (if o.words = 1 then .lread32 o else .lread o) s
    simp only [exec_ite]
    rfl
  · first | rfl | (split <;> first | contradiction | rfl)
  · first | rfl | (split <;> first | contradiction | rfl)

theorem execWord7_eq (op : Nat) (o : Opnds) (s : State) : execWord7 op o s = exec (instrOf7 op o) s := by
  unfold execWord7 instrOf7
  split
  · first | rfl | (split <;> first | contradiction | rfl)
  · first | rfl | (split <;> first | contradiction | rfl)
  · show _ = exec (if o.words = 1 then .lds32 o else .lds o) s
    simp only [exec_ite]
    rfl
  · show _ = exec (if o.words = 1 then .sts32 o else .sts o) s
    simp only [exec_ite]
    rfl
  · first | rfl | (split <;> first | contradiction | rfl)
  · first | rfl | (split <;> first | contradiction | rfl)
  · first | rfl | (split <;> first | contradiction | rfl)
  · first | rfl | (split <;> first | contradiction | rfl)
  · first | rfl | (split <;> first | contradiction | rfl)
  · first | rfl | (split <;> first | contradiction | rfl)
  · first | rfl | (split <;> first | contradiction | rfl)
  · first | rfl | (split <;> first | contradiction | rfl)
  · first | rfl | (split <;> first | contradiction | rfl)
  · first | rfl | (split <;> first | contradiction | rfl)
  · first | rfl | (split <;> first | contradiction | rfl)
  · first | rfl | (split <;> first | contradiction | rfl)
  · first | rfl | (split <;> first | contradiction | rfl)

theorem execWord8_eq (op : Nat) (o : Opnds) (s : State) : execWord8 op o s = exec (instrOf8 op o) s := by
  unfold execWord8 instrOf8
  split
  · first | rfl | (split <;> first | contradiction | rfl)
  · first | rfl | (split <;> first | contradiction | rfl)
  · show _ = exec (if o.words = 1 then .outrd32 o else .outrd o) s
    simp only [exec_ite]
    rfl
  · show _ = exec (if o.words = 1 then .bar32 o else .bar o) s
    simp only [exec_ite]
    rfl
  · show _ = exec (if o.words = 1 then .bara32 o else .bara o) s
    simp only [exec_ite]
    rfl
  · show _ = exec (if o.words = 1 then .barw32 o else .barw o) s
    simp only [exec_ite]
    rfl
  · first | rfl | (split <;> first | contradiction | rfl)
  · show _ = exec (if o.words = 1 then .barq32 o else .barq o) s
    simp only [exec_ite]
    rfl
  · first | rfl | (split <;> first | contradiction | rfl)

theorem execWord9_eq (op : Nat) (o : Opnds) (s : State) : execWord9 op o s = exec (instrOf9 op o) s := by
  unfold execWord9 instrOf9
  split
  · first | rfl | (split <;> first | contradiction | rfl)
  · show _ = exec (if o.words = 1 then .commit32 o else .commit o) s
    simp only [exec_ite]
    rfl
  · show _ = exec (if o.words = 1 then .abort32 o else .abort o) s
    simp only [exec_ite]
    rfl
  · show _ = exec (if o.words = 1 then .tryst32 o else .tryst o) s
    simp only [exec_ite]
    rfl
  · show _ = exec (if o.words = 1 then .tryaddr32 o else .tryaddr o) s
    simp only [exec_ite]
    rfl
  · show _ = exec (if o.words = 1 then .trydrop32 o else .trydrop o) s
    simp only [exec_ite]
    rfl
  · first | rfl | (split <;> first | contradiction | rfl)
  · first | rfl | (split <;> first | contradiction | rfl)
  · first | rfl | (split <;> first | contradiction | rfl)
  · first | rfl | (split <;> first | contradiction | rfl)
  · first | rfl | (split <;> first | contradiction | rfl)
  · first | rfl | (split <;> first | contradiction | rfl)
  · show _ = exec (if o.words = 1 then .cbinit32 o else .cbinit o) s
    simp only [exec_ite]
    rfl
  · show _ = exec (if o.words = 1 then .cbwait32 o else .cbwait o) s
    simp only [exec_ite]
    rfl
  · first | rfl | (split <;> first | contradiction | rfl)

theorem execWordA_eq (op : Nat) (o : Opnds) (s : State) : execWordA op o s = exec (instrOfA op o) s := by
  unfold execWordA instrOfA
  split
  · show _ = exec (if o.words = 1 then .cbpoll32 o else .cbpoll o) s
    simp only [exec_ite]
    rfl
  · show _ = exec (if o.mod = 0 then .qbind o else .qbindFree o) s
    simp only [exec_ite]
    rfl
  · show _ = exec (if o.words = 1 then .qstat32 o else .qstat o) s
    simp only [exec_ite]
    rfl
  · first | rfl | (split <;> first | contradiction | rfl)
  · first | rfl | (split <;> first | contradiction | rfl)
  · show _ = exec (if o.words = 1 then .rdtc32 o else .rdtc o) s
    simp only [exec_ite]
    rfl
  · show _ = exec (if o.words = 1 then .tzero32 o else .tzero o) s
    simp only [exec_ite]
    rfl
  · first | rfl | (split <;> first | contradiction | rfl)
  · show _ = exec (if o.words = 1 then .tload32 o else .tload o) s
    simp only [exec_ite]
    rfl
  · show _ = exec (if o.words = 1 then .tstore32 o else .tstore o) s
    simp only [exec_ite]
    rfl
  · show _ = exec (if o.words = 1 then .tmov32 o else .tmov o) s
    simp only [exec_ite]
    rfl
  · show _ = exec (if o.words = 1 then .txpose32 o else .txpose o) s
    simp only [exec_ite]
    rfl
  · first | rfl | (split <;> first | contradiction | rfl)

theorem execWordB_eq (op : Nat) (o : Opnds) (s : State) : execWordB op o s = exec (instrOfB op o) s := by
  unfold execWordB instrOfB
  split
  · first | rfl | (split <;> first | contradiction | rfl)
  · first | rfl | (split <;> first | contradiction | rfl)
  · show _ = exec (if o.words = 1 then .accz32 o else .accz o) s
    simp only [exec_ite]
    rfl
  · show _ = exec (if o.words = 1 then .rqpop32 o else .rqpop o) s
    simp only [exec_ite]
    rfl
  · show _ = exec (if o.words = 1 then .amode32 o else .amode o) s
    simp only [exec_ite]
    rfl
  · show _ = exec (if o.words = 1 then .await32 o else .await o) s
    simp only [exec_ite]
    rfl
  · first | rfl | (split <;> first | contradiction | rfl)
  · show _ = exec (if o.mod = 0 then .ssub o else if o.mod = 1 then .ssubOpen o else if o.mod = 2 then .ssubClose o else .ssubCopy o) s
    simp only [exec_ite]
    rfl
  · first | rfl | (split <;> first | contradiction | rfl)
  · show _ = exec (if o.words = 1 then .sstat32 o else .sstat o) s
    simp only [exec_ite]
    rfl
  · first | rfl | (split <;> first | contradiction | rfl)

theorem execWordC_eq (op : Nat) (o : Opnds) (s : State) : execWordC op o s = exec (instrOfC op o) s := by
  unfold execWordC instrOfC
  split
  · show _ = exec (if o.mod = 0 then .kset o else .ksetMap o) s
    simp only [exec_ite]
    rfl
  · show _ = exec (if o.words = 1 then .kget32 o else .kget o) s
    simp only [exec_ite]
    rfl
  · show _ = exec (if o.words = 1 then .sload32 o else .sload o) s
    simp only [exec_ite]
    rfl
  · show _ = exec (if o.words = 1 then .sstore32 o else .sstore o) s
    simp only [exec_ite]
    rfl
  · show _ = exec (if o.words = 1 then .szero32 o else .szero o) s
    simp only [exec_ite]
    rfl
  · show _ = exec (if o.words = 1 then .seval32 o else .seval o) s
    simp only [exec_ite]
    rfl
  · show _ = exec (if o.words = 1 then .sder32 o else .sder o) s
    simp only [exec_ite]
    rfl
  · show _ = exec (if o.words = 1 then .sgrad32 o else .sgrad o) s
    simp only [exec_ite]
    rfl
  · show _ = exec (if o.words = 1 then .srefine32 o else .srefine o) s
    simp only [exec_ite]
    rfl
  · first | rfl | (split <;> first | contradiction | rfl)
  · first | rfl | (split <;> first | contradiction | rfl)
  · first | rfl | (split <;> first | contradiction | rfl)
  · first | rfl | (split <;> first | contradiction | rfl)
  · first | rfl | (split <;> first | contradiction | rfl)

theorem execWordD_eq (op : Nat) (o : Opnds) (s : State) : execWordD op o s = exec (instrOfD op o) s := by
  unfold execWordD instrOfD
  split
  · first | rfl | (split <;> first | contradiction | rfl)
  · first | rfl | (split <;> first | contradiction | rfl)
  · show _ = exec (if o.words = 1 then .msgq32 o else .msgq o) s
    simp only [exec_ite]
    rfl
  · first | rfl | (split <;> first | contradiction | rfl)
  · first | rfl | (split <;> first | contradiction | rfl)
  · show _ = exec (if o.words = 1 then .grpq32 o else .grpq o) s
    simp only [exec_ite]
    rfl
  · first | rfl | (split <;> first | contradiction | rfl)
  · show _ = exec (if o.words = 1 then .pbar32 o else if o.mod = 0 then .pbar o else if o.mod = 1 then .pbarWaitPkg o else .pbarWaitStripe o) s
    simp only [exec_ite]
    rfl
  · show _ = exec (if o.words = 1 then .pflush32 o else .pflush o) s
    simp only [exec_ite]
    rfl
  · show _ = exec (if o.words = 1 then .pqst32 o else .pqst o) s
    simp only [exec_ite]
    rfl
  · show _ = exec (if o.words = 1 then .stepset32 o else .stepset o) s
    simp only [exec_ite]
    rfl
  · show _ = exec (if o.words = 1 then .steprd32 o else .steprd o) s
    simp only [exec_ite]
    rfl
  · show _ = exec (if o.mod = 0 then .snapTake o else if o.mod = 1 then .snapRestore o else if o.mod = 2 then .snapFreeze o else if o.mod = 3 then .snapThaw o else if o.mod = 4 then .snapRebuild o else .snapDelta o) s
    simp only [exec_ite]
    rfl
  · show _ = exec (if o.words = 1 then .snapst32 o else .snapst o) s
    simp only [exec_ite]
    rfl
  · first | rfl | (split <;> first | contradiction | rfl)

theorem execWordE_eq (op : Nat) (o : Opnds) (s : State) : execWordE op o s = exec (instrOfE op o) s := by
  unfold execWordE instrOfE
  split
  · first | rfl | (split <;> first | contradiction | rfl)
  · show _ = exec (if o.words = 1 then .cancel32 o else .cancel o) s
    simp only [exec_ite]
    rfl
  · show _ = exec (if o.words = 1 then .cntrd32 o else .cntrd o) s
    simp only [exec_ite]
    rfl
  · first | rfl | (split <;> first | contradiction | rfl)
  · first | rfl | (split <;> first | contradiction | rfl)
  · show _ = exec (if o.words = 1 then .tabst32 o else .tabst o) s
    simp only [exec_ite]
    rfl
  · first | rfl | (split <;> first | contradiction | rfl)
  · show _ = exec (if o.words = 1 then .disarm32 o else .disarm o) s
    simp only [exec_ite]
    rfl
  · first | rfl | (split <;> first | contradiction | rfl)

theorem execWordF_eq (op : Nat) (o : Opnds) (s : State) : execWordF op o s = exec (instrOfF op o) s := by
  unfold execWordF instrOfF
  split
  · show _ = exec (if o.words = 1 then .trap32 o else .trap o) s
    simp only [exec_ite]
    rfl
  · show _ = exec (if o.words = 1 then .rte32 o else if o.mod = 0 then .rte o else if o.mod = 1 then .rteSkip o else if o.mod = 2 then .rteEndc o else .rteEndp o) s
    simp only [exec_ite]
    rfl
  · show _ = exec (if o.words = 1 then .brkp32 o else .brkp o) s
    simp only [exec_ite]
    rfl
  · first | rfl | (split <;> first | contradiction | rfl)
  · show _ = exec (if o.mod = 0 then .syswrMode o else if o.mod = 5 then .syswrXconf o else if o.mod = 38 then .syswrMboxo o else if o.mod = 40 then .syswrMboxst o else .syswrOther o) s
    simp only [exec_ite]
    rfl
  · show _ = exec (if o.words = 1 then .haltp32 o else .haltp o) s
    simp only [exec_ite]
    rfl
  · first | rfl | (split <;> first | contradiction | rfl)
  · show _ = exec (if o.words = 1 then .evtrd32 o else .evtrd o) s
    simp only [exec_ite]
    rfl
  · show _ = exec (if o.words = 1 then .cycle32 o else .cycle o) s
    simp only [exec_ite]
    rfl
  · first | rfl | (split <;> first | contradiction | rfl)

/-- The meaning of an opcode is the meaning of the instruction it names. -/
theorem execWord_eq (op : Nat) (o : Opnds) (s : State) : execWord op o s = exec (instrOf op o) s := by
  unfold execWord instrOf
  generalize op / 16 = g
  split
  · exact execWord0_eq op o s
  · exact execWord1_eq op o s
  · exact execWord2_eq op o s
  · exact execWord3_eq op o s
  · exact execWord4_eq op o s
  · exact execWord5_eq op o s
  · exact execWord6_eq op o s
  · exact execWord7_eq op o s
  · exact execWord8_eq op o s
  · exact execWord9_eq op o s
  · exact execWordA_eq op o s
  · exact execWordB_eq op o s
  · exact execWordC_eq op o s
  · exact execWordD_eq op o s
  · exact execWordE_eq op o s
  · exact execWordF_eq op o s
  · first | rfl | (split <;> first | contradiction | rfl)

end Sys2Proof.Machine
end

