-- ==== Sys2Proof/WellFormed.lean ====
section
/-! DEFINITION. Which instructions some word encodes: every operand within its slot, the literal word used once (R73 to R79). -/
namespace Sys2Proof.WellFormed
open Sys2Proof.Machine

/-- An operand that its slot admits, in a form of the given number of words (Tables 4.2, 4.4 and 4.5). -/
def opnd (words : Nat) (slot : Slot) (x : Opnd) : Bool :=
  match slot, x with
  | .zero, .none => true
  | .toffLo, .none => true
  | .toffHi, .toff _ => words = 2
  | .gen v _ _ _ _ _ _, .v n => v && (if words = 1 then n < 64 else n < 256)
  | .gen v _ _ _ _ _ _, .vi n off => v && n < 64 && off < 1024 && (words = 3 || (words = 2 && off = 0))
  | .gen _ s _ _ even top _, .s n => s && n ≤ top && n < 64 && (!even || n % 2 = 0)
  | .gen _ _ i _ _ _ _, .imm _ => i && words ≠ 1
  | .gen _ _ _ l _ _ _, .lit _ => l && words = 3
  | .exactLit, .lit _ => words = 3
  | .file f, .f n => n < f.size
  | .classes, .f n => n < 256 && words ≠ 1
  | .disp, .disp n => if words = 1 then n = 0 else n < 256
  | .disp, .dlit _ => words = 3
  | _, _ => false

/-- The operand is indirect. -/
def indirect : Opnd → Bool
  | .vi _ _ => true
  | _ => false

/-- The operand is of literal kind; a displacement taken from the literal word is not (R77, R78). -/
def literal : Opnd → Bool
  | .lit _ => true
  | _ => false

/-- The literal word that an operand or displacement takes. -/
def literalWord : Opnd → List Word
  | .lit w => [w]
  | .dlit w => [w]
  | _ => []

/-- How many operands are of literal kind (R78). -/
def literals (o : Opnds) : Nat := (if literal o.d then 1 else 0) + (if literal o.a then 1 else 0)
  + (if literal o.b then 1 else 0) + (if literal o.c then 1 else 0)

/-- What the operands and the displacement take from the literal word. -/
def literalWords (o : Opnds) : List Word := literalWord o.d ++ literalWord o.a ++ literalWord o.b ++ literalWord o.c

/-- Literal words that are all one. -/
def oneWord : List Word → Bool
  | [] => false
  | w :: ws => ws.all (fun x => x = w)

/-- Some operand is indirect (R77). -/
def indirects (o : Opnds) : Bool := indirect o.d || indirect o.a || indirect o.b

/-- The use of the literal word is legal (R77, R78): it holds offsets and nothing else, or at most one operand of literal kind, which a
displacement may share; C is never indirect. -/
def literalOk (o : Opnds) : Bool :=
  !indirect o.c && (if o.words = 3 ∧ indirects o = false then literals o ≤ 1 && oneWord (literalWords o) else (literalWords o).isEmpty)

/-- The kind bit the 32-bit form needs for an operand, none where the field is free (R74). -/
def kindBit (slot : Slot) (x : Opnd) : Option Bool :=
  match slot, x with
  | .zero, _ => none
  | .disp, _ => none
  | _, .s _ => some true
  | _, _ => some false

/-- The three kind bits D, A, B of a KIND code (Table 4.3). -/
def kindBits : Nat → Bool × Bool × Bool
  | 0 => (false, false, false)
  | 1 => (false, false, true)
  | 2 => (true, true, true)
  | _ => (true, false, true)

/-- A KIND code suits the operands. -/
def kindFits (r : Row) (o : Opnds) (k : Nat) : Bool :=
  let ok (want : Option Bool) (b : Bool) := want = none || want = some b
  ok (kindBit r.d o.d) (kindBits k).1 && ok (kindBit r.a o.a) (kindBits k).2.1 && ok (kindBit r.b o.b) (kindBits k).2.2

/-- The form exists for the row (Tables 4.1 and 4.3). -/
def formOk (r : Row) (o : Opnds) : Bool :=
  match o.words with
  | 1 => o.mod = 0 && o.stall < 4 && r.k32.any (kindFits r o)
  | 2 => r.f64 && o.stall < 8
  | 3 => r.f96 && o.stall < 8
  | _ => false

/-- The operands of an opcode are those of some word of it (R72 to R79). -/
def opnds (u : IssueUnit) (op : Nat) (o : Opnds) : Bool :=
  match row u op o.mod with
  | none => false
  | some r => o.mod < 256 && formOk r o && opnd o.words r.d o.d && opnd o.words r.a o.a && opnd o.words r.b o.b
      && opnd o.words r.c o.c && literalOk o && crossOk op o

/-- A field of vector kind that no sequencer instruction may name (R92). -/
def seqBad (slot : Slot) (vecKind : Bool) : Bool :=
  match slot with
  | .gen _ _ _ _ _ _ _ => vecKind
  | _ => false

/-- The unit may issue the instruction with these operands (R91, R92). -/
def unitOk (u : IssueUnit) (op : Nat) (o : Opnds) : Bool :=
  match issuePt op, row u op o.mod with
  | some p, some r => p.admits u && (u = .course || !(seqBad r.d (isVec o.d) || seqBad r.a (isVec o.a)
      || seqBad r.b (isVec o.b) || seqBad r.c (isVec o.c)))
  | _, _ => false

/-- An instruction word that the unit decodes and may issue; the constructor is the one its opcode and operands name. -/
noncomputable def instr (u : IssueUnit) (i : Instr) : Bool :=
  match wordOf i with
  | none => false
  | some (op, o) => opnds u op o && unitOk u op o && instrOf op o = i

end Sys2Proof.WellFormed
end

