-- ==== Sys2Proof/Decode.lean ====
section
/-! DEFINITION. The decoder, total on any bytes and rejecting by name (R72 to R80, R91 to R94), and the encoder. -/
namespace Sys2Proof

/-- Why a word is no instruction of the unit. -/
inductive DecodeErr
  /-- A header word stands where an instruction must begin (R82). -/
  | header
  /-- The words end before the instruction does (R82). -/
  | truncated
  /-- The issue point excludes the unit, or R92 applies. -/
  | wrongUnit
  /-- R76 to R79. -/
  | illegalField
deriving DecidableEq, Repr

namespace Decode
open Sys2Proof.Machine Sys2Proof.WellFormed

/-- An opcode with its decoded operands. -/
abbrev Coded := Nat × Opnds

/-- The bits [lo + n - 1 : lo] of a word. -/
def field (w : Word) (lo n : Nat) : BitVec n := w.extractLsb' lo n

/-- The words of an instruction or header, by bits [31:30] (Table 4.1). -/
def wordCount (w : Word) : Nat := if field w 30 2 = 0 then 1 else if field w 30 2 = 2 then 3 else 2

/-- A block header word (Table 4.1). -/
def isHeader (w : Word) : Bool := field w 30 2 = 3

/-- A raw operand field: its 8 bits, kind bit, indirect bit and offset. -/
structure Raw where
  f : BitVec 8
  k : Bool
  i : Bool
  off : Nat
deriving DecidableEq, Repr

/-- A scalar register number that a slot admits. -/
def scalarOk (even : Bool) (top n : Nat) : Bool := n ≤ top && n < 64 && (!even || n % 2 = 0)

/-- Table 4.5, for a slot; l is the literal word where the form has one. -/
def operand (slot : Slot) (l : Option Word) (r : Raw) : Option Opnd :=
  match slot with
  | .zero => if r.f = 0 && !r.k && !r.i then some .none else none
  | .toffHi => if !r.k && !r.i then some (.toff (r.f.setWidth 16 <<< 8)) else none
  | .toffLo => if !r.k && !r.i then some .none else none
  | .file fn => if !r.k && !r.i && r.f.toNat < fn.size then some (.f r.f.toNat) else none
  | .classes => if !r.k && !r.i then some (.f r.f.toNat) else none
  | .exactLit => match l with
    | some w => if r.f = 0x80 && r.k && !r.i then some (.lit w) else none
    | none => none
  | .disp =>
    if r.i then none
    else if !r.k then some (.disp r.f.toNat)
    else match l with
      | some w => if r.f.extractLsb' 6 2 = 2 then some (.dlit w) else none
      | none => none
  | .gen v s im li even top _ =>
    let top2 := r.f.extractLsb' 6 2
    let low := r.f.extractLsb' 0 6
    if !r.k then
      if !v then none
      else if !r.i then some (.v r.f.toNat)
      else if top2 = 0 then some (.vi low.toNat r.off) else none
    else if r.i then none
    else if top2 = 0 then (if s && scalarOk even top low.toNat then some (.s low.toNat) else none)
    else if top2 = 1 then (if im then some (.imm low) else none)
    else if top2 = 2 then (match l with
      | some w => if li then some (.lit w) else none
      | none => none)
    else none

/-- The TOFF of B and C together (R109). -/
def joinToff (c : BitVec 8) : Opnd → Opnd
  | .toff t => .toff (t ||| c.setWidth 16)
  | x => x

/-- The offset slots of L agree with the indirect bits (R77). -/
def offsetsOk (w : Word) (id ia ib : Bool) : Bool :=
  field w 30 2 = 0 && (id || field w 0 10 = 0) && (ia || field w 10 10 = 0) && (ib || field w 20 10 = 0)

/-- Assemble the operands and check the rules over the whole word (R77 to R79). -/
def finish (op : Nat) (r : Row) (words stall mod : Nat) (d a b c : Option Opnd) : Except DecodeErr Coded :=
  match d, a, b, c with
  | some d, some a, some b, some c =>
    let o : Opnds := ⟨words, stall, d, a, b, c, mod⟩
    if formOk r o && literalOk o && crossOk op o then .ok (op, o) else .error .illegalField
  | _, _, _, _ => .error .illegalField

/-- The row that gives the slots R92 looks at; an undefined modifier takes a defined one's. -/
def unitRow (u : IssueUnit) (op mod : Nat) : Option Row :=
  match row u op mod with
  | some r => some r
  | none => row u op (if op = 2 then 3 else 0)

/-- A sequencer word of issue point B with an operand field of vector kind (R92). -/
def seqWrong (u : IssueUnit) (op mod : Nat) (kd ka kb kc : Bool) : Bool :=
  match u, unitRow u op mod with
  | .seq, some r => issuePt op = some .both && (seqBad r.d (!kd) || seqBad r.a (!ka) || seqBad r.b (!kb) || seqBad r.c (!kc))
  | _, _ => false

/-- The 32-bit form (Table 4.2). -/
def decode32 (u : IssueUnit) (w : Word) : Except DecodeErr Coded :=
  let op := (field w 22 8).toNat
  let kind := (field w 18 2).toNat
  let (kd, ka, kb) := kindBits kind
  let raw (lo : Nat) (k : Bool) (slot : Slot) : Raw := ⟨(field w lo 6).setWidth 8, k && slot ≠ .zero, false, 0⟩
  if seqWrong u op 0 kd ka kb true then .error .wrongUnit
  else match row u op 0 with
    | none => .error .illegalField
    | some r =>
      if r.k32.contains kind then
        finish op r 1 (field w 20 2).toNat 0 (operand r.d none (raw 12 kd r.d)) (operand r.a none (raw 6 ka r.a))
          (operand r.b none (raw 0 kb r.b)) (operand r.c none ⟨0, false, false, 0⟩)
      else .error .illegalField

/-- The 64- and 96-bit forms (Table 4.4). -/
def decodeLong (u : IssueUnit) (w x : Word) (l : Option Word) : Except DecodeErr Coded :=
  let op := (field w 22 8).toNat
  let mod := (field x 8 8).toNat
  let bit (n : Nat) : Bool := field x n 1 = 1
  let any := bit 3 || bit 2 || bit 1
  let off (lo : Nat) : Nat := match l with
    | some lw => (field lw lo 10).toNat
    | none => 0
  if seqWrong u op mod (bit 7) (bit 6) (bit 5) (bit 4) then .error .wrongUnit
  else match row u op mod with
    | none => .error .illegalField
    | some r =>
      let lok := match l with
        | some lw => !any || offsetsOk lw (bit 3) (bit 2) (bit 1)
        | none => true
      let c : BitVec 8 := field x 16 8
      if field w 0 3 = 0 && !bit 0 && lok then
        finish op r (if l.isSome then 3 else 2) (field w 19 3).toNat mod
          (operand r.d l ⟨field w 11 8, bit 7, bit 3, off 0⟩)
          (operand r.a l ⟨field w 3 8, bit 6, bit 2, off 10⟩)
          ((operand r.b l ⟨field x 24 8, bit 5, bit 1, off 20⟩).map (joinToff c))
          (operand r.c l ⟨c, bit 4, false, 0⟩)
      else .error .illegalField

/-- The operands of a word that is no instruction (ILLEGAL_OP carries none). -/
def noOpnds (words : Nat) : Opnds := ⟨words, 0, .none, .none, .none, .none, 0⟩

/-- The opcode and operands that begin a list of words (R72, R91 to R94). -/
def coded (u : IssueUnit) (ws : List Word) : Except DecodeErr Coded :=
  match ws with
  | [] => .error .truncated
  | w :: rest =>
    let op := (field w 22 8).toNat
    if isHeader w then .error .header
    else if ws.length < wordCount w then .error .truncated
    else match issuePt op with
      | none => .ok (op, noOpnds (wordCount w))
      | some p =>
        if !p.admits u then .error .wrongUnit
        else match wordCount w, rest with
          | 2, x :: _ => decodeLong u w x none
          | 3, x :: l :: _ => decodeLong u w x (some l)
          | _, _ => decode32 u w

/-- The instruction of an opcode and its operands, a refusal kept. -/
noncomputable def named (r : Except DecodeErr Coded) : Except DecodeErr Instr :=
  match r with
  | .ok (op, o) => .ok (instrOf op o)
  | .error e => .error e

/-- The instruction that begins a list of words. -/
noncomputable def words (u : IssueUnit) (ws : List Word) : Except DecodeErr Instr := named (coded u ws)

/-- Little-endian words from bytes (R3, R72); trailing bytes short of a word are dropped. -/
def toWords : List Byte → List Word
  | a :: b :: c :: d :: rest => (d ++ c ++ b ++ a) :: toWords rest
  | _ => []

/-- The bytes of a word, least significant first (R3). -/
def ofWord (w : Word) : List Byte := [field w 0 8, field w 8 8, field w 16 8, field w 24 8]

/-- The instruction that begins a list of bytes, and the bytes after it. -/
noncomputable def bytes (u : IssueUnit) (bs : List Byte) : Except DecodeErr (Instr × List Byte) :=
  match words u (toWords bs) with
  | .error e => .error e
  | .ok i => match toWords bs with
    | [] => .error .truncated
    | w :: _ => .ok (i, bs.drop (4 * wordCount w))

/-- The eight bits, kind bit and indirect bit that encode an operand (Table 4.5). -/
def encOperand : Opnd → BitVec 8 × Bool × Bool
  | .none => (0, false, false)
  | .v n => (BitVec.ofNat 8 n, false, false)
  | .vi n _ => (BitVec.ofNat 8 n, false, true)
  | .s n => (BitVec.ofNat 8 n, true, false)
  | .imm b => ((1#2 ++ b), true, false)
  | .lit _ => (0x80#8, true, false)
  | .f n => (BitVec.ofNat 8 n, false, false)
  | .disp n => (BitVec.ofNat 8 n, false, false)
  | .dlit _ => (0x80#8, true, false)
  | .toff t => (t.extractLsb' 8 8, false, false)

/-- The bits of C: the low half of a TOFF where B holds one (R109). -/
def encC (b c : Opnd) : BitVec 8 × Bool × Bool :=
  match b with
  | .toff t => (t.extractLsb' 0 8, false, false)
  | _ => encOperand c

/-- The offset of an indirect operand, else 0. -/
def encOff : Opnd → BitVec 10
  | .vi _ off => BitVec.ofNat 10 off
  | _ => 0

/-- The literal word that an operand takes, else 0. -/
def encLit : Opnd → Word
  | .lit w => w
  | .dlit w => w
  | _ => 0

/-- One bit. -/
def bit (b : Bool) : BitVec 1 := if b then 1 else 0

/-- The words of an opcode with its operands (Tables 4.2 and 4.4). -/
def encodeOp (r : Row) (op : Nat) (o : Opnds) : List Word :=
  let d := encOperand o.d
  let a := encOperand o.a
  let b := encOperand o.b
  let c := encC o.b o.c
  let w : Word := (if o.words = 2 then 1#2 else 2#2) ++ BitVec.ofNat 8 op ++ BitVec.ofNat 3 o.stall ++ d.1 ++ a.1 ++ 0#3
  let x : Word := b.1 ++ c.1 ++ BitVec.ofNat 8 o.mod ++ bit d.2.1 ++ bit a.2.1 ++ bit b.2.1 ++ bit c.2.1
    ++ bit d.2.2 ++ bit a.2.2 ++ bit b.2.2 ++ 0#1
  let l : Word := if indirects o then 0#2 ++ encOff o.b ++ encOff o.a ++ encOff o.d
    else encLit o.d ||| encLit o.a ||| encLit o.b ||| encLit o.c
  match o.words with
  | 1 => [0#2 ++ BitVec.ofNat 8 op ++ BitVec.ofNat 2 o.stall ++ BitVec.ofNat 2 ((r.k32.find? (kindFits r o)).getD 0)
      ++ d.1.setWidth 6 ++ a.1.setWidth 6 ++ b.1.setWidth 6]
  | 2 => [w, x]
  | _ => [w, x, l]

/-- The words of a well-formed instruction of a unit; none for an event. -/
def encode (u : IssueUnit) (i : Instr) : List Word :=
  match wordOf i with
  | none => []
  | some (op, o) => match row u op o.mod with
    | none => []
    | some r => encodeOp r op o

/-- The n words of a number whose bit 0 is the least significant bit of the first word. -/
def numWords (w : Nat) : Nat → List Word
  | 0 => []
  | n + 1 => BitVec.ofNat 32 w :: numWords (w / 2 ^ 32) n

end Decode

/-- The instruction a table word decodes to: the course decoder, and where it refuses the unit, the sequencer's. -/
noncomputable def decodeTableWord (nbits w : Nat) : Option Instr :=
  let bs := (Decode.numWords (w % 2 ^ nbits) 3).flatMap Decode.ofWord
  match Decode.bytes .course bs with
  | .ok (i, _) => some i
  | .error .wrongUnit => match Decode.bytes .seq bs with
    | .ok (i, _) => some i
    | .error _ => none
  | .error _ => none

end Sys2Proof
end

