-- ==== Sys2Proof/Machine/Placing.lean ====
section
/-! DEFINITION. A stream made resident with a given instruction next (log 3): what a launch and the entry of a block leave. -/
namespace Sys2Proof.Machine

/-- The address at which the block of a placed instruction begins. -/
def placedBlock : Addr := 0x1000

/-- The block: a header (BLEN 6, LIVEV 0), the instruction's words, and zeros, which are NOPs. -/
def placedWords (nbits w : Nat) : List Word := [0xC0600000, 0] ++ Decode.numWords (w % 2 ^ nbits) 3 ++ [0]

/-- The path that stands before a placed instruction. -/
def placedPath (m : Lanes) (ws : List Word) : Path := ⟨0, placedBlock + 8, m, [], m, none, placedBlock, ws, 0, [], [], none, false, false, false⟩

/-- The stream of a placed instruction: 128 vector registers, 40 of them with shadows, and the system attribute. -/
def placedStream (m : Lanes) (ws : List Word) : Stream :=
  { part := 0, team := 0, launch := 0, idx := 0, alloc := 168, rg := 128, nsh := 40, sys := true, tab := none, tabw := 0, live := m,
    p0 := some (placedPath m ws), p1 := none, arms := [], jm := [], lr := [], rstk := [], lost := 0, v := [], vp := [], s := [], sp := [],
    q := [], sh := [], cb := [], mode := 0, fpflags := 0, xconf := 0, msgst := 0, step := 0, tryst := 0, tryaddr := 0, abortm := 0,
    tr := none, abort := none, hwue := [], hnd := none, outst := 0, acq := [], pepoch := 0, ptag := none, hold := none,
    stopped := false, ended := false, nid := 1, know := [], taint := [] }

/-- The team of a placed stream. -/
def placedTeam (seq : Bool) : Team :=
  { part := 0, launch := 0, index := 0, cluster := 0, courses := if seq then [] else [0], slots := if seq then [] else [(0, 168)], ncourses := 1, seq := seq, wbase := 0, wsize := 0,
    bars := [], restarts := 0, killed := false, cancelled := false, displaced := none }

/-- The opcode issues only on a sequencer. -/
def seqOnly (nbits w : Nat) : Bool :=
  let op := bits (w % 2 ^ nbits) 22 8
  match issuePt op with
  | some p => !p.admits .course
  | none => false

/-- The state with an instruction next: a course of cluster 0, or its sequencer for an opcode of the sequencer only. -/
def placeWord (s : State) (nbits w : Nat) : State :=
  let seq := seqOnly nbits w
  let sid := if seq then seqBase else 0
  let m : Lanes := if seq then 1 else Lanes.all
  { (s.setStream sid (placedStream m (placedWords nbits w))).setTeam 0 (some (placedTeam seq)) with agenda := [Move.run sid 0] }

end Sys2Proof.Machine
end

