-- ==== Sys2Proof/Machine/Schedule.lean ====
section
/-! DEFINITION. Which moves are open to the package's own parts, and what a move that is no event does (log 3). Inputs from outside come
from the agenda alone. -/
namespace Sys2Proof.Machine

/-- A number joins a list once. -/
def note {α : Type} [BEq α] (l : List α) (x : α) : List α := if l.contains x then l else x :: l

/-- A storage error strikes (R208, R329, R415). One in memory stays, whatever is written there, until a team's start zeroes the window that holds it,
or, outside SCM, the package goes dark (DESIGN CHOICE, log 31). -/
def strike (s : State) : Upset → State
  | .mem g => { s with ue := note s.ue g }
  | .reg sid r => s.modStream sid (fun t => { t with hwue := note t.hwue r })
  | .cell cl n => strikeCell s cl n
  | .tile cl n => strikeTile s cl n
  | .queue cl h => s.modCluster cl (fun c => { c with hq := Tab.set [] c.hq h (match Tab.get [] c.hq h with
      | e :: q => { e with bad := true } :: q
      | [] => []) })
  | .persist k => match s.pq[k]? with
    | some e => { s with ue := note s.ue (e.spa / 256) }
    | none => s
  | .gateway tbl ent => poisonReply s tbl ent
  | .request outbound k => poisonRequest s outbound k
  | .corrected p => s.modPart p (fun x => { x with ceCount := x.ceCount + 1 })
  | .correctedIn cl p => (s.modPart p (fun x => { x with ceCount := x.ceCount + 1 })).modCluster cl (fun c => { c with ceN := c.ceN + 1 })

/-- Time passes. -/
def passTime (s : State) (n : Nat) : State := { s with clock := s.clock + n }

/-- The keys of a table's entries that are there. -/
def keys {α : Type} (t : Tab (Option α)) : List Nat := t.filterMap (fun e => if e.2.isSome then some e.1 else none)

/-- The turns of the streams' paths. -/
def pathMoves (s : State) : List Move :=
  s.streams.flatMap (fun e => match e.2 with
    | some t => t.pathSlots.map (fun k => Move.run e.1 k)
    | none => [])

/-- The requests that may be performed, the answers to those that have been, timeouts, and the drain stage. -/
def portMoves (s : State) : List Move :=
  ((List.range s.reqs.length).filter (mayPerform s.reqs)).map Move.perform
    ++ (s.reqs.filter (fun r => r.done)).flatMap (fun r =>
      match Tab.get none s.ott (entKey r.tag.tbl r.tag.ent) with
      | some e => if e.kind = .store then [Move.ev (.storeAck r.tag.tbl r.tag.ent r.tag.gen)]
          else [Move.ev (.replyArrival r.tag.tbl r.tag.ent r.tag.gen [])]
      | none => [Move.ev (.replyArrival r.tag.tbl r.tag.ent r.tag.gen [])])
    ++ (keys s.ott).map (fun k => Move.ev (.requestTimeout (k / 1024) (k % 1024)))
    ++ s.drains.map (fun d => Move.ev (.commitSectorSend d.sid))

/-- The engines' units and ends, and the starts of collectives. -/
def engineMoves (s : State) : List Move :=
  s.eops.flatMap (fun e => match e.2 with
    | none => []
    | some x => Move.ev (.engineOpComplete e.1) :: Move.ev (.requestTimeout engTbl e.1) :: (match x.kind with
      | .copy _ _ => [Move.ev (.copyRow e.1)]
      | .gather => [Move.ev (.gatherRow e.1)]
      | .scatter _ => [Move.ev (.scatterIndex e.1)]
      | .mcst => if mayStart s e.1 x then [Move.ev (.mcstPacket (mcstOf s e.1 x))] else []
      | .mcred => if mayStart s e.1 x then [Move.ev (.mcrdPacket (mcredOf s e.1 x))] else []))

/-- The event of an array command. -/
def cmdEvent (cl : Nat) : Cmd → Instr
  | .mma .. => .mmaExecute cl
  | .drain .. => .drainExecute cl
  | .accz .. => .acczExecute cl
  | .amode .. => .amodeSwitch cl
  | .sload .. => .sloadExecute cl
  | .sstore .. => .sstoreExecute cl
  | .szero => .szeroExecute cl
  | .seval .. => .sevalExecute cl
  | .sder .. => .sderExecute cl
  | .sgrad .. => .sgradExecute cl
  | .srefine .. => .srefineExecute cl

/-- The arrays, the tile ports and the streams. -/
def clusterMoves (s : State) : List Move :=
  s.clusters.flatMap (fun e =>
    (match e.2.cq with
      | c :: _ => [Move.ev (cmdEvent e.1 c.cmd), Move.ev (.drainPushResume e.1)]
      | [] => [])
    ++ e.2.port.map (fun x => Move.ev (.tileOpComplete e.1 x.stamp)))
  ++ s.strm.flatMap (fun e => (if e.2.pending.isSome then [Move.ev (.slotPublished e.1)] else [])
    ++ e.2.subs.filterMap (fun b => if b.copy.isSome then some (Move.ev (.subscriptionSlotCopy e.1 b.cluster)) else none))

/-- A cluster that is to be fenced: an uncorrectable error in its storage, or corrected errors above the Wellhead's threshold (R416). -/
def fenceDue (c : Cluster) : Bool := !c.fenced && (c.hwerr || decide (Config.fenceRate < c.ceN))

/-- The persist queue and the Windlass. -/
def hubMoves (s : State) : List Move :=
  (List.range s.pwait.length).map (fun k => Move.ev (.pAccept k)) ++ (if s.pq.isEmpty then [] else [Move.ev .persistDrain])
    ++ (List.range 8).flatMap (fun p =>
      let n := (s.part p).snap
      (List.range n.left.length).map (fun k => Move.ev (.windlassSweep p k)) ++ (if n.st = 1 then [Move.ev (.localCommit p)] else [])
        ++ (if n.st = 2 then [Move.ev (.stripeCommit p), Move.unit p] else []))

/-- The event of a packet. -/
def packetEvent (p : Packet) : Instr :=
  let t := (entryOf p.tag).getD ⟨0, 0, 0⟩
  match p.ty with
  | 1 => .rdPacket p
  | 2 => .wrPacket p
  | 3 => .wrfPacket p
  | 4 => .atPacket p
  | 5 => .csPacket p
  | 6 => .flgPacket p
  | 7 => .msgPacket p
  | 8 => .mcstPacket p
  | 9 => .mcrdPacket p
  | 0x10 => .replyArrival t.tbl t.ent t.gen p.payload
  | 0x11 => if p.payload.isEmpty then .storeAck t.tbl t.ent t.gen else .replyArrival t.tbl t.ent t.gen p.payload
  | 0x12 => .nackPacket p
  | 0x13 => .mcrrPacket p
  | _ => .packetDropped p

/-- The fabric's packets that are here, each the first of its queues, and the absence windows. -/
def fabricMoves (s : State) : List Move :=
  (List.range s.fout.length).map Move.depart ++ (((s.fout.filter (loopReady s)) ++ s.fin).filter (fun p => !mustWait s p)).map (fun p => Move.ev (packetEvent p)) ++ s.sw.map (fun q => Move.ev (.absenceWindowExpiry q.group q.seq))

/-- The rings and the dispatchers. -/
def dispatchMoves (s : State) : List Move :=
  s.queues.flatMap (fun e => if e.2.en && e.2.st = 1 then
      [.nopPacket e.1, .launchPacket e.1, .copyPacket e.1, .signalSet e.1, .signalDec e.1, .signalDecFailed e.1, .waitPacket e.1, .cancelPacket e.1,
       .armPacket e.1, .disarmPacket e.1].map Move.ev else [])
    ++ (keys s.launches).flatMap (fun l =>
      (.concurrentAdmit l :: .launchComplete l :: .cancelComplete l :: (List.range 4).map (fun d => .batchHandoff l d)).map Move.ev)
    ++ s.aging.map (fun e => Move.ev (.priorityAging e.1))
    ++ (keys s.teams).flatMap (fun t => [Move.ev (.teamDisplace t), Move.ev (.displacedTeamRestore t)])
    ++ (List.range 8).flatMap (fun p => if (s.part p).ready.any (fun e => !e.2.isEmpty) then
        (clustersOf s p).map (fun c => Move.ev (.tabStart p c)) else [])

/-- Stops, handlers, pre-emption and the watchdogs. -/
def haltMoves (s : State) : List Move :=
  (List.range 8).flatMap (fun p => if (s.part p).stops then
      (partiesOf s p).map (fun i => Move.ev (.partyStop i)) ++ [Move.ev (.handlerEntry p), Move.ev (.preemptComplete p), Move.ev (.watchdogReset p)]
    else [])
  ++ (List.range 8).filterMap (fun p => if (s.part p).awd = 0 then none else some (Move.ev (.armWatchdogExpiry p)))
  ++ s.queues.filterMap (fun e => if e.2.timer = 0 then none else some (Move.ev (.queueWatchdogExpiry e.1)))

/-- The Wellhead kernel. -/
def kernelMoves (s : State) : List Move :=
  (if s.mrhead < s.mrtail then
    (([.partCfgQuads, .partCfgPtroot, .partCfgSrbase, .partCfgTvec, .partCfgCtxbase, .partCfgTabbase, .partCfgTabn, .partCfgTabcfg, .partCfgMigring,
      .partCfgDomctl, .partCfgNvmeports, .partTuneMto, .partTuneMigth, .partTuneWdcfg] ++
     [.queueCfg, .cntAlloc, .cntFree, .streamCfg, .groupCfg, .preempt, .restore, .reset, .mboxAnswer, .nvmeSubmit, .attest, .evictDone, .frameExtSet,
      .frameExtClear] : List Instr)).map Move.ev else [])
  ++ (List.range 24).flatMap (fun n => [Move.island n false, Move.island n true])
  ++ (if s.power && !s.booted && s.bstat ≤ 5 then [Move.ev (.boot true []), Move.ev (.boot false [])] else [])
  ++ s.clusters.filterMap (fun e => if fenceDue e.2 then some (Move.ev (.clusterFence e.1)) else none)
  ++ [Move.ev .hbeat] ++ (if s.evst = .req || s.evst = .drain then [Move.ev .evictReady, Move.ev .evictTimeout] else [])

/-- The open moves; the clock may always run on. -/
def openMoves (s : State) : List Move :=
  Move.tick 1 :: (pathMoves s ++ portMoves s ++ engineMoves s ++ clusterMoves s ++ hubMoves s ++ fabricMoves s ++ dispatchMoves s ++ haltMoves s
    ++ kernelMoves s)

/-- The next move: the head of the agenda, else a free choice among the open moves (log 3). -/
def nextMove (s : State) : Move :=
  match s.agenda with
  | m :: _ => m
  | [] => nth (Move.tick 1) (openMoves s) (Config.pick s.fresh % (openMoves s).length)

/-- The state as a step begins: the move is off the agenda, one clock passes, a fresh number is drawn (log 3, log 4), and no packet is on a die-to-die link. -/
def begin_ (s : State) : State := { s with agenda := s.agenda.tail, clock := s.clock + 1, fresh := s.fresh + 1, wire := [] }

/-- What every step adds to its effect: the translation buffers keep what it has changed in the page tables (R188), and the bytes it has changed
are noted as they were (R219). -/
def noted (s s' : State) : State := remember s (keepTranslations s s')

/-- The outcome of a step, with what it adds. -/
def closed (s : State) : Host.Outcome State Fault Refusal → Host.Outcome State Fault Refusal
  | .next s' => .next (noted s s')
  | o => o

end Sys2Proof.Machine
end

