-- ==== Sys2Proof/Machine/Turn.lean ====
section
/-! DEFINITION. The turn of a path before its instruction's meaning: entering a block, fetching and decoding a word, and the
traps of fetch and decode (R82, R83, R93, R94). -/
namespace Sys2Proof.Machine

/-- What a path's turn comes to: it is over, or an instruction of an opcode with its operands is to be executed. -/
inductive Turn
  | done (s : State)
  | word (op : Nat) (o : Opnds) (s : State)

/-- The words of a path's block from its pc on. -/
def Path.rest (p : Path) : List Word := p.blk.drop ((p.pc.toNat - p.hdr.toNat) / 4)

/-- The targets that a control transfer with an illegal field still names (R94): by the offset field, the literal word, a register pair
or a vector register, where that operand itself is one that the encoding has. -/
def rawTargets (t : Stream) (p : Path) (op : Nat) (ws : List Word) : List Addr :=
  let w := nth 0 ws 0
  let x := nth 0 ws 1
  let l := nth 0 ws 2
  let at_ (off : BitVec 16) : Addr := p.pc + off.signExtend 64 * 4
  let form := (w.extractLsb' 30 2).toNat
  let toff : List Addr := if form ≠ 0 && x &&& 0x33 = 0 then [at_ (x.extractLsb' 16 16)] else []
  let field := if form = 0 then (w.extractLsb' 6 6).toNat else (w.extractLsb' 3 8).toNat
  if op = 0x01 || op = 0x02 || op = 0x07 || op = 0x0B then toff
  else if op = 0x90 then (if t.inTry then [] else toff)
  else if op = 0x03 then
    (if form = 2 && x.extractLsb' 24 8 = 0x80 && x &&& 0x22 = 0x20 then [at_ (l.extractLsb' 0 16), at_ (l.extractLsb' 16 16)] else [])
  else if op = 0x04 || op = 0x08 then
    (if (if form = 0 then w.extractLsb' 18 2 = 2 else x &&& 0x44 = 0x40) && field % 2 = 0 && field ≤ 62 then [t.pairAt field] else [])
  else if op = 0x06 then
    let off := if form = 2 then (l.extractLsb' 10 10).toNat else 0
    let reg : Option Nat := if form = 0 then (if w.extractLsb' 18 2 = 0 then some field else none)
      else if x &&& 0x44 = 0 then some field
      else if x &&& 0x44 = 4 && field < 64 then some (t.sAt field + wd off).toNat else none
    match reg with
    | some n => if n < t.alloc then p.em.list.map (fun i => p.pc + (t.vAt n i).signExtend 64 * 4) else []
    | none => []
  else []

/-- Every target that a word which does not decode still names is a header; LOOP's has LOOPF (R94, R120). -/
def rawTargetsOk (s : State) (sid : Nat) (t : Stream) (p : Path) : Bool :=
  let ws := p.rest
  let op := ((nth 0 ws 0).extractLsb' 22 8).toNat
  let tm := if isSeq sid then t else t.withMask p.em
  (rawTargets tm p op ws).all (fun a => targetOk s (whoOf s t sid) a && (op ≠ 0x0B || loopHead s (whoOf s t sid) a))

/-- The trap of a word that does not decode (Table 4.11), BAD_TARGET first (R94). An instruction whose words reach past its block traps
BAD_BLOCK: a target that a word outside the block would name is none it has (DEDUCED, log 65). -/
def decodeTrap (s : State) (sid : Nat) (t : Stream) (p : Path) (e : DecodeErr) : Nat :=
  match e with
  | .header => 0x06
  | .truncated => 0x06
  | .wrongUnit => if rawTargetsOk s sid t p then 0x03 else 0x05
  | .illegalField => if rawTargetsOk s sid t p then 0x02 else 0x05

/-- The path is at the end of its block (R82). -/
def Path.atEnd (p : Path) : Bool := !p.blk.isEmpty && p.pc.toNat = p.hdr.toNat + 4 * p.blk.length

/-- The path's instruction has waited at issue: it stands where it stood, and its stream has not stopped for it (R402). -/
def waited (k : Nat) (t u : Stream) : Bool :=
  match t.path? k, u.path? k with
  | some p, some q => p.id = q.id && p.pc = q.pc && p.slot = q.slot && !q.entry && !u.stopped && u.abort.isNone
  | _, _ => false

/-- Note of the path that has had its turn whether its instruction waits at issue (R402). -/
def noteHeld (sid k : Nat) (s s' : State) : State :=
  match s.stream? sid, s'.stream? sid with
  | some t, some u => match u.path? k with
    | some q => if q.held = waited k t u then s' else s'.setStream sid (u.setPath k (some { q with held := waited k t u }))
    | none => s'
  | _, _ => s'

/-- An instruction's outcome with that note. -/
def heldNoted (sid k : Nat) (s : State) : Host.Outcome State Fault Refusal → Host.Outcome State Fault Refusal
  | .next s' => .next (noteHeld sid k s s')
  | r => r

/-- The turn of a path: it enters a block, or fetches and decodes its next word. -/
def turn (s0 : State) (sid k : Nat) : Turn :=
  let s := { s0 with cur := (sid, k) }
  match s.stream? sid with
  | none => .done s
  | some t => match t.path? k with
    | none => .done s
    | some p => match preIssue s sid k t with
      | some s' => .done s'
      | none =>
        if !clusterUp s (clusterOf sid) then .done s
        else if p.entry || p.atEnd then .done (enterHeader s sid k (if p.atEnd then 0x06 else 0x05) p.check p.pc)
        else match Decode.coded (unitOf sid) p.rest with
          | .ok (op, o) => .word op o s
          | .error e => .done (takeTrap s sid k (decodeTrap s sid t p e) 0 0)

end Sys2Proof.Machine
end

