-- ==== Sys2Proof/Machine/Step.lean ====
section
/-! DEFINITION. One step of the package. -/
namespace Sys2Proof.Machine

/-- Carry out a move. -/
noncomputable def carry (m : Move) (s : State) : Host.Outcome State Fault Refusal :=
  match m with
  | .run sid k => match turn s sid k with
    | .done s' => .next s'
    | .word op o s' => heldNoted sid k s' (exec (instrOf op o) s')
  | .ev i => exec i s
  | .perform k => .next (performReq s k)
  | .tick n => .next (passTime s n)
  | .upset u => .next (strike s u)
  | .island n on => .next (setIsland s n on)
  | .unit p => .next (sendUnit s p)
  | .peer djob m => .next (peerMsg s djob m)
  | .depart k => .next (depart s k)
  | .group g e => .next (groupFrom s g e)
  | .bar0Read off n => .next (bar0Read s off n)
  | .configRead => .next (configRead s)
  | .grant p f on => .next (setGrant s p f on)
  | .retire f => .next (retireFrame s f)

/-- carry, with the meaning found by the opcode: what the compiler runs, since it builds no constructor of Instr past the 245th. -/
def carryFast (m : Move) (s : State) : Host.Outcome State Fault Refusal :=
  match m with
  | .run sid k => match turn s sid k with
    | .done s' => .next s'
    | .word op o s' => heldNoted sid k s' (execWord op o s')
  | .ev i => exec i s
  | .perform k => .next (performReq s k)
  | .tick n => .next (passTime s n)
  | .upset u => .next (strike s u)
  | .island n on => .next (setIsland s n on)
  | .unit p => .next (sendUnit s p)
  | .peer djob m => .next (peerMsg s djob m)
  | .depart k => .next (depart s k)
  | .group g e => .next (groupFrom s g e)
  | .bar0Read off n => .next (bar0Read s off n)
  | .configRead => .next (configRead s)
  | .grant p f on => .next (setGrant s p f on)
  | .retire f => .next (retireFrame s f)

/-- The two agree. -/
@[csimp] theorem carry_eq_carryFast : @carry = @carryFast := by
  funext m s
  cases m <;> simp only [carry, carryFast, execWord_eq] <;> rfl

/-- One step: the next move, carried out (log 3). -/
def step (s : State) : Host.Outcome State Fault Refusal := closed s (carry (nextMove s) (begin_ s))

/-- Put an instruction where the next step fetches: the next move is a turn of a resident stream that stands before it (log 3). -/
def State.withFetchWord (s : State) (nbits w : Nat) : State := placeWord s nbits w

end Sys2Proof.Machine
end

