-- ==== Sys2Proof/Safety.lean ====
section
/-! DEFINITION. The vocabulary of the statements: a well-kept machine, and what an instruction leaves alone. -/
namespace Sys2Proof.Machine

/-- The memory is in its canonical form. -/
def State.memWf (s : State) : Bool := Tab.wf State.emptyByte s.mem

/-- A well-formed instruction that the issuing unit may issue passes the checks of R94; c is what it finds. -/
def Passes (op : Nat) (o : Opnds) (s : State) (c : Ctx) : Prop :=
  gate op o s = .go c ∧ WellFormed.opnds (unitOf s.cur.1) op o = true ∧ WellFormed.unitOk (unitOf s.cur.1) op o = true

/-- The instruction is not the last of its path's block: its end enters no header (R82). -/
def Ctx.inside (c : Ctx) : Prop := c.nextPc.toNat ≠ c.p.hdr.toNat + 4 * c.p.blk.length

/-- Neither a source nor a destination of the issuing stream is bound to a hardware queue (R272). -/
def Ctx.unbound (c : Ctx) : Prop := c.t.q = []

/-- The issuing stream u after an instruction, against its stream t before: registers outside the list ws keep their values, and so
do both paths but for what the issuing one's place, mask and slots become and what is pending of their writes and flags. -/
structure KeepsOthers (c : Ctx) (ws : List Reg) (t u : Stream) : Prop where
  vectors : ∀ r l, l < 96 → Reg.v r ∉ ws → u.vAt r l = t.vAt r l
  scalars : ∀ n, Reg.s n ∉ ws → u.sAt n = t.sAt n
  other : ∃ pend fl, u.path? (1 - c.k) = (t.path? (1 - c.k)).map (fun q => { q with pend := pend, fl := fl })
  own : ∀ p, t.path? c.k = some p → ∃ pc em emp slot pend fl,
    u.path? c.k = some { p with pc := pc, em := em, emp := emp, slot := slot, pend := pend, fl := fl, wait := none, held := false }
    ∧ ((c.seq = true ∨ ∀ n, 61 ≤ n → Reg.s n ∉ ws) → em = p.em ∧ emp = p.emp)

/-- s' is s but for the issuing stream, whose registers outside the instruction's written ones, control state and special registers are
as before. -/
def RegisterFrame (c : Ctx) (s s' : State) : Prop :=
  ∃ u, KeepsOthers c c.written c.t u ∧
    s' = s.setStream c.sid { c.t with v := u.v, vp := u.vp, s := u.s, sp := u.sp, p0 := u.p0, p1 := u.p1, hwue := u.hwue }

/-- As RegisterFrame, but flags may be set as well; none is cleared (R149). -/
def FlagFrame (c : Ctx) (s s' : State) : Prop :=
  ∃ u, KeepsOthers c c.written c.t u ∧ c.t.fpflags &&& ~~~u.fpflags = 0 ∧
    s' = s.setStream c.sid
      { c.t with v := u.v, vp := u.vp, s := u.s, sp := u.sp, p0 := u.p0, p1 := u.p1, hwue := u.hwue, fpflags := u.fpflags }

/-- As RegisterFrame, but XCONF may change as well (Table 8.1). -/
def ConflictFrame (c : Ctx) (s s' : State) : Prop :=
  ∃ u, KeepsOthers c c.written c.t u ∧
    s' = s.setStream c.sid
      { c.t with v := u.v, vp := u.vp, s := u.s, sp := u.sp, p0 := u.p0, p1 := u.p1, hwue := u.hwue, xconf := u.xconf }

/-- The instruction completes and writes the registers of ws; `retire` stands for its end (statement RegisterWritesAndAdvance). -/
def Writes (i : Instr) (s : State) (c : Ctx) (ws : List Wr) : Prop := exec i s = .next (retire c c.s ws)

/-- The instruction completes and writes D: in each active lane of a vector D, or into one scalar, a word that stands in the relation R
to the lane (R98, R128). -/
def WritesD (i : Instr) (s : State) (c : Ctx) (R : Nat → Word → Prop) : Prop :=
  ∃ f : Nat → Word, (∀ l, l < 96 → R l (f l)) ∧ Writes i s c (c.res f)

/-- Source A of a lane. -/
def Ctx.srcA (c : Ctx) (l : Nat) : Word := c.src c.o.a l
/-- Source B of a lane. -/
def Ctx.srcB (c : Ctx) (l : Nat) : Word := c.src c.o.b l
/-- Source C of a lane. -/
def Ctx.srcC (c : Ctx) (l : Nat) : Word := c.src c.o.c l

/-- The instruction completes, sets the flags that its counted lanes raise, and writes D: word and flags of a lane stand in the relation R
to it (R146, R150). -/
def WritesF (i : Instr) (s : State) (c : Ctx) (R : Nat → Word → Word → Prop) : Prop :=
  ∃ g : Nat → Word × Word, (∀ l, l < 96 → R l (g l).1 (g l).2) ∧
    exec i s = .next (retire c (setFlags c c.s (c.lanes.foldl (fun w l => w ||| (g l).2) 0)) (c.res (fun l => (g l).1)))

/-- The instruction completes by transferring its path, its stream left as t, to the header at va (R82), its issue slots taken (R85);
check asks for the bypass check of R104. `enterHeader` stands for the entry (statement BlockEntryChecksHeaderAndMovesPath). -/
def TransfersTo (i : Instr) (s : State) (c : Ctx) (t : Stream) (check : Bool) (va : Addr) : Prop :=
  ∃ p, t.path? c.k = some p ∧
    exec i s = .next (enterHeader (c.s.setStream c.sid (t.setPath c.k (some { p with slot := c.p.slot + 1 + c.o.stall, wait := none })))
      c.sid c.k 0x05 check va)

/-- The instruction takes a trap with a code, no fault address and no argument. `takeTrap` stands for it (statement TrapIsTakenByArbiter). -/
def TrapsWith (i : Instr) (s : State) (c : Ctx) (code : Nat) : Prop := exec i s = .next (takeTrap s c.sid c.k code 0 0)

/-- The instruction completes at its end, writing the registers of ws, with its stream left as t before. -/
def CompletesWith (i : Instr) (s : State) (c : Ctx) (t : Stream) (ws : List Wr) : Prop :=
  exec i s = .next (retire c (c.s.setStream c.sid t) ws)

end Sys2Proof.Machine
end

