-- ==== Sys2Proof/Certificates/Slice0/Obligations.lean ====
section
/-! DEFINITION. The statements about the model. In most of them `Passes op o s c` says that the well-formed instruction of opcode op and
operands o passes the checks of R94 in state s, and c is what it finds there; statement ChecksPassOrTrapInTheirOrder says when it does so. -/

open Sys2Proof Sys2Proof.Machine

-- Encoding

/-- R72 to R79: the words of a well-formed instruction, stored as the hardware stores them, decode to that instruction and leave the
bytes after it. -/
def Obligations.EncodedInstructionDecodesToItself : Prop :=
  ∀ (u : IssueUnit) (i : Instr) (tail : List Byte), WellFormed.instr u i = true →
    Decode.bytes u ((Decode.encode u i).flatMap Decode.ofWord ++ tail) = .ok (i, tail)

/-- R76 to R79, R91, R92: what decodes under an assigned opcode is well-formed for the unit that decodes it. -/
def Obligations.DecodedOperandsAreWellFormed : Prop :=
  ∀ (u : IssueUnit) (ws : List Word) (op : Nat) (o : Opnds), Decode.coded u ws = .ok (op, o) → (issuePt op).isSome = true →
    WellFormed.opnds u op o = true ∧ WellFormed.unitOk u op o = true

/-- R82, R91, R93: a header word, a list of words too short for the instruction, and an instruction of the other unit are refused, each
by its own name; an opcode without a row decodes to ILLEGAL_OP. -/
def Obligations.UndecodableWordsAreRefusedByName : Prop :=
  ∀ (u : IssueUnit) (w : Word) (ws : List Word),
    (w.extractLsb' 30 2 = 3 → Decode.coded u (w :: ws) = .error .header) ∧
    (w.extractLsb' 30 2 ≠ 3 → ws.length + 1 < Decode.wordCount w → Decode.coded u (w :: ws) = .error .truncated) ∧
    (w.extractLsb' 30 2 ≠ 3 → Decode.wordCount w ≤ ws.length + 1 →
      (∀ p, issuePt (w.extractLsb' 22 8).toNat = some p → p.admits u = false → Decode.coded u (w :: ws) = .error .wrongUnit) ∧
      (issuePt (w.extractLsb' 22 8).toNat = none → ∃ o, Decode.words u (w :: ws) = .ok (.illegalOp o)))

/-- Words that the spec writes out with their meaning (N11, N16, N17, N22, N25, N28, N29, N37). -/
def Obligations.PublishedWordsDecodeAsPublished : Prop :=
  Decode.words .course [0x0349453D] = .ok (.mand32 ⟨1, 0, .s 20, .s 20, .s 61, .none, 0⟩) ∧
  Decode.words .course [0x0A0D4006] = .ok (.icmp32 ⟨1, 0, .s 20, .v 0, .s 6, .none, 0⟩) ∧
  Decode.words .course [0x4B000800, 0x42000020] = .ok (.shl ⟨2, 0, .v 1, .v 0, .imm 2, .none, 0⟩) ∧
  Decode.words .course [0x50E01810, 0x07090030] = .ok (.ffma ⟨2, 4, .v 3, .v 2, .s 7, .s 9, 0⟩) ∧
  Decode.words .course [0x40400000, 0x00060000] = .ok (.bra ⟨2, 0, .none, .none, .toff 6, .none, 0⟩) ∧
  Decode.words .course [0x8D802400, 0x000000C0, 0x00040000] = .ok (.movi ⟨3, 0, .s 4, .lit 0x00040000, .none, .none, 0⟩) ∧
  Decode.words .course [0x8D406018, 0x00000008, 0x00000004] = .ok (.mov ⟨3, 0, .vi 12 4, .v 3, .none, .none, 0⟩) ∧
  Decode.words .course [0x80C000D0, 0x80000060, 0x00090003] = .ok (.brd ⟨3, 0, .f 0, .s 26, .lit 0x00090003, .none, 0⟩)

-- Fetch, issue and the end of an instruction

/-- R82, R402, log 3: where the next move is the turn of a path that stands before a word that decodes, its cluster up, the step carries out
the instruction of that word, in the state with the move taken, one clock passed and a fresh number drawn; of the instruction's next state
it then sets at most the path's mark that its instruction waits at issue, and `noted` adds what a step keeps of what it has changed: the former
translations (R188, log 9) and the bytes' former values (R219, log 18). -/
def Obligations.StepRunsDecodedInstruction : Prop :=
  ∀ (s : State) (sid k : Nat) (rest : List Move) (t : Stream) (p : Path) (op : Nat) (o : Opnds),
    s.agenda = Move.run sid k :: rest → s.stream? sid = some t → t.path? k = some p →
    let s1 : State := { s with agenda := rest, clock := s.clock + 1, fresh := s.fresh + 1, wire := [], cur := (sid, k) }
    preIssue s1 sid k t = none → clusterUp s (clusterOf sid) = true → p.entry = false → p.atEnd = false →
    Decode.coded (unitOf sid) p.rest = .ok (op, o) →
    (∀ s', exec (instrOf op o) s1 = .next s' → ∃ s2, step s = .next (noted s s2) ∧ (s2 = s' ∨ ∃ u q b, s'.stream? sid = some u ∧ u.path? k = some q ∧
      s2 = s'.setStream sid (u.setPath k (some { q with held := b })))) ∧
    (∀ f, exec (instrOf op o) s1 = .fault f → step s = .fault f) ∧ (∀ r, exec (instrOf op o) s1 = .refused r → step s = .refused r)

/-- R82, R93, R94, Table 4.11: where a path stands before words that do not decode, the step takes the trap of fetch and decode; the wrong
unit and an illegal field trap BAD_TARGET first where the word still names a target that is no header (or, for LOOP, has no LOOPF). An
unassigned opcode completes by its trap ILLEGAL_OP, with no fault address and no argument: for a path of a stream that may issue. That an instruction which its block cuts short traps BAD_BLOCK before
any target it would name is looked at is the model's reading (log 65); `noted` is as in StepRunsDecodedInstruction. -/
def Obligations.UndecodableWordTraps : Prop :=
  (∀ (s : State) (o : Opnds) (t : Stream) (p : Path), s.stream? s.cur.1 = some t → t.path? s.cur.2 = some p →
    preIssue s s.cur.1 s.cur.2 t = none → exec (.illegalOp o) s = .next (takeTrap s s.cur.1 s.cur.2 0x01 0 0)) ∧
  ∀ (s : State) (sid k : Nat) (rest : List Move) (t : Stream) (p : Path), s.agenda = Move.run sid k :: rest → s.stream? sid = some t →
    t.path? k = some p → clusterUp s (clusterOf sid) = true → p.entry = false → p.atEnd = false →
    let s1 : State := { s with agenda := rest, clock := s.clock + 1, fresh := s.fresh + 1, wire := [], cur := (sid, k) }
    preIssue s1 sid k t = none →
    (Decode.coded (unitOf sid) p.rest = .error .header → step s = .next (noted s (takeTrap s1 sid k 0x06 0 0))) ∧
    (Decode.coded (unitOf sid) p.rest = .error .truncated → step s = .next (noted s (takeTrap s1 sid k 0x06 0 0))) ∧
    (Decode.coded (unitOf sid) p.rest = .error .wrongUnit →
      step s = .next (noted s (takeTrap s1 sid k (if rawTargetsOk s1 sid t p then 0x03 else 0x05) 0 0))) ∧
    (Decode.coded (unitOf sid) p.rest = .error .illegalField →
      step s = .next (noted s (takeTrap s1 sid k (if rawTargetsOk s1 sid t p then 0x02 else 0x05) 0 0)))

/-- The path as which a record's lanes go on: at its JR, with nothing pending, and what the record owed (R104, R119). -/
def GoesOn (j : Join) (em own : Lanes) (q : Path) : Prop :=
  ∃ pc hdr blk, j.jr = some (pc, hdr, blk) ∧ q.pc = pc ∧ q.hdr = hdr ∧ q.blk = blk ∧ q.em = em ∧ q.own = own ∧ q.owe = j.jp ∧ q.pend = [] ∧
    q.check = false

/-- A path joins a stream's others: in a free slot, else on top of the pending stack (R100). -/
def Joins (t : Stream) (q : Path) (u : Stream) : Prop :=
  (t.p0 = none → u.p0 = some q ∧ u.p1 = t.p1 ∧ u.arms = t.arms) ∧
  (t.p0 ≠ none → t.p1 = none → u.p0 = t.p0 ∧ u.p1 = some q ∧ u.arms = t.arms) ∧
  (t.p0 ≠ none → t.p1 ≠ none → u.p0 = t.p0 ∧ u.p1 = t.p1 ∧ u.arms = q :: t.arms)

/-- R82, R86, R100, R104, R107, Table 4.11: entering a block. A word that is no header, a length below 3, a live mark at or above a course's
allocation, and a reserved header bit are refused with their codes in this order; a block that opens is fetched whole, and the path stands
before its first instruction with its masks and no pending write. A checked entry passes over a closed record that the path owes, stops at an
open one whose join is not below the header, and releases one that is: its parked lanes go on as a new path, LOST_RECONV counts it, and the path
owes what the record owed, which is then looked at. At a page that a PWB blocks, or behind a gated island, the path waits with its entry before it
(R202; where it waits is log 15's choice). A refused header, one that cannot be fetched too, leaves the path and its record there (log 8). -/
def Obligations.BlockEntryChecksHeaderAndMovesPath : Prop :=
  (∀ (s : State) (w : Who) (course : Bool) (alloc code : Nat) (va : Addr) (a0 a1 a2 : Nat), access s w Acc.fetch va.toNat 4 1 = .ok a0 →
    access s w Acc.fetch (va + 4).toNat 4 1 = .ok a1 → va.toNat % 4 = 0 →
    let w0 := wd (ofBytes (s.readMem a0 4))
    let w1 := wd (ofBytes (s.readMem a1 4))
    let h := hdrOf w0 w1
    (w0.extractLsb' 30 2 ≠ 3 → openBlock s w course alloc code va = .error code) ∧
    (w0.extractLsb' 30 2 = 3 → h.blen < 3 → openBlock s w course alloc code va = .error 0x06) ∧
    (w0.extractLsb' 30 2 = 3 → course = true → alloc ≤ h.livev → openBlock s w course alloc code va = .error 0x06) ∧
    (w0.extractLsb' 30 2 = 3 → 3 ≤ h.blen → (course = true → h.livev < alloc) →
      (h.resv ≠ 0 ∨ (h.rcv = false ∧ h.rcoff ≠ 0) ∨ (h.tryres = true ∧ h.tryf = false) → openBlock s w course alloc code va = .error 0x02) ∧
      (h.resv = 0 → (h.rcv = false → h.rcoff = 0) → (h.tryres = true → h.tryf = true) →
        access s w Acc.fetch va.toNat (4 * h.blen) 1 = .ok a2 →
        openBlock s w course alloc code va = .ok (wordsOf (readVa s w Acc.fetch va.toNat (4 * h.blen)))))) ∧
  (∀ (s : State) (sid k code : Nat) (check : Bool) (va : Addr) (t : Stream) (p : Path), s.stream? sid = some t → t.path? k = some p →
    (fetchBlocked s (whoOf s t sid) va = true →
      enterHeader s sid k code check va = s.setStream sid (t.setPath k (some { p with pc := va, entry := true, check := check }))) ∧
    (fetchBlocked s (whoOf s t sid) va = false → ∀ ws, openBlock s (whoOf s t sid) (!isSeq sid) t.alloc code va = .ok ws →
      let p1 := { p with pc := va + 8, hdr := va, blk := ws, pend := [], fl := p.fl.filter (fun e => e.due.isNone), entry := false, check := false }
      let enters (u : Stream) : Prop := enterHeader s sid k code check va = s.setStream sid u
      (check = false ∨ p.owe = none → enters (t.setPath k (some p1))) ∧
      (∀ n, check = true → p.owe = some n → t.inTry = false →
        let j := t.join n
        let ends (x : Option Nat) : Prop := x = none ∨ ∃ m, x = some m ∧ m ≠ n ∧ (t.join m).jv = true ∧ va.toNat ≤ (t.join m).jh.toNat
        (j.jv = true → va.toNat ≤ j.jh.toNat → enters (t.setPath k (some p1))) ∧
        (j.jv = false → ends j.jp → enters (t.setPath k (some { p1 with owe := j.jp }))) ∧
        (j.jv = true → j.jh.toNat < va.toNat → ends j.jp → j.ja ≠ 0 → j.jr ≠ none → ∃ u q, enters u ∧
          GoesOn j (j.mask &&& j.ja &&& t.live) (j.ja &&& t.live) q ∧ Joins (t.setPath k (some { p1 with owe := j.jp })) q u ∧
          u.lost = t.lost + 1 ∧ u.live = t.live ∧ u.join n = { j with jv := false, ja := 0, jr := none } ∧ ∀ m, m ≠ n → u.join m = t.join m) ∧
        (j.jv = true → j.jh.toNat < va.toNat → ends j.jp → j.ja = 0 →
          enters ({ t with lost := t.lost + 1 }.setJoin n { j with jv := false, ja := 0, jr := none }|>.setPath k (some { p1 with owe := j.jp }))) ∧
        (∀ m, j.jv = true → j.jh.toNat < va.toNat → j.ja = 0 → j.jp = some m → m ≠ n → (t.join m).jv = true → (t.join m).jh.toNat < va.toNat →
          (t.join m).ja = 0 → (t.join m).jp = none → ∃ u, enters u ∧ u.lost = t.lost + 2 ∧ u.path? k = some { p1 with owe := none } ∧
            (u.join n).jv = false ∧ (u.join m).jv = false))) ∧
    (fetchBlocked s (whoOf s t sid) va = false → ∀ e, openBlock s (whoOf s t sid) (!isSeq sid) t.alloc code va = .error e → enterHeader s sid k code check va =
      takeTrap (s.setStream sid (t.setPath k (some { p with pc := va, entry := true, check := check }))) sid k e
        (if addrCode e then va else 0) 0))

/-- R87, R88, R93, R94, R207, R273, R406, R415: an instruction of the table passes when its stream runs alone and holds no write, reply, binding,
poison or storage error, its targets are headers and its registers lie below the allocation. The checks after decoding come in their order:
BAD_TARGET, then REG_RANGE, then STALL_SHORT for a register of a pending write in checking mode, then HANDLER_OP in a handler, then POISON for
a poisoned source lane. -/
def Obligations.ChecksPassOrTrapInTheirOrder : Prop :=
  (∀ (s : State) (op : Nat) (o : Opnds) (t : Stream) (p : Path) (r : Row),
    s.stream? s.cur.1 = some t → t.path? s.cur.2 = some p → t.path? (1 - s.cur.2) = none → row (unitOf s.cur.1) op o.mod = some r →
    t.stopped = false → t.ended = false → t.hnd = none → t.hold = none → t.abort = none → t.tr = none →
    (∀ l, s.launch? t.launch = some l → l.cancelled = false) → p.pend = [] → t.q = [] → t.vp = [] → t.sp = [] → t.hwue = [] →
    (s.cluster (clusterOf s.cur.1)).tue = [] → (∀ n x, (n, some x) ∈ s.ott → x.sid ≠ s.cur.1) →
    let c : Ctx := ⟨s, s.cur.1, s.cur.2, op, o, r, t, p, fun _ => if isSeq s.cur.1 then t else t.withMask p.em⟩
    targetsOk c = true → (isSeq s.cur.1 = false → rangeOk (t.withMask p.em) op o = true) → gate op o s = .go c) ∧
  (∀ (s : State) (op : Nat) (o : Opnds) (t : Stream) (p : Path) (r : Row),
    s.stream? s.cur.1 = some t → t.path? s.cur.2 = some p → t.path? (1 - s.cur.2) = none → row (unitOf s.cur.1) op o.mod = some r →
    preIssue s s.cur.1 s.cur.2 t = none → t.q = [] → (∀ n x, (n, some x) ∈ s.ott → x.sid ≠ s.cur.1) → t.inTry = false →
    let tm := if isSeq s.cur.1 then t else t.withMask p.em
    let c : Ctx := ⟨s, s.cur.1, s.cur.2, op, o, r, t, p, fun _ => tm⟩
    let uses := readsOf (!isSeq s.cur.1) tm op r o ++ writesOf tm op r o
    let trap (code : Nat) := Gate.stay (takeTrap s s.cur.1 s.cur.2 code 0 0)
    (p.pend = [] → targetsOk c = false → gate op o s = trap 0x05) ∧
    (p.pend = [] → targetsOk c = true → isSeq s.cur.1 = false → rangeOk tm op o = false → gate op o s = trap 0x07) ∧
    (op ∉ [0x01, 0x02, 0x03, 0x04, 0x06, 0x07, 0x08, 0x0B, 0x90] → (isSeq s.cur.1 = false → rangeOk tm op o = true) →
      (t.schk = true → (∃ q ∈ p.pend, p.slot < q.due ∧ q.reg ∈ uses) → gate op o s = trap 0x04) ∧
      (p.pend = [] → t.hnd ≠ none → handlerIllegal op = true → gate op o s = trap 0x42) ∧
      (p.pend = [] → t.hnd = none → poisoned c (readsOf (!isSeq s.cur.1) tm op r o) = true → gate op o s = trap 0x1D)))

/-- R17, R82, R85, R89, R97, R98: the end of an instruction inside its block that had its registers in time. Every register write of it
stands unless it writes the register again; s0 stays 0; a write of s61 to s63 in a course stores the bits within OWN in its mask; the
path goes past the instruction's words and its stall slots; a result of latency 2 and more is pending until its slot. -/
def Obligations.RegisterWritesAndAdvance : Prop :=
  ∀ (op : Nat) (o : Opnds) (s : State) (c : Ctx) (ws : List Wr), gate op o s = .go c → c.unbound → c.inside → c.lost c.written = [] →
    (∀ r l x, Wr.v r l x ∈ ws → l < 96) → ∃ (u : Stream) (q : Path), retire c c.s ws = c.s.setStream c.sid u ∧ u.path? c.k = some q ∧
      q.pc = c.pc + BitVec.ofNat 64 (4 * o.words) ∧ q.slot = c.p.slot + 1 + o.stall ∧ q.hdr = c.p.hdr ∧ q.blk = c.p.blk ∧
      q.own = c.p.own ∧ q.owe = c.p.owe ∧ u.sAt 0 = 0 ∧
      (∀ r l x xs ys, ws = xs ++ Wr.v r l x :: ys → (∀ y, Wr.v r l y ∉ ys) → u.vAt r l = x) ∧
      (∀ n x xs ys, ws = xs ++ Wr.s n x :: ys → (∀ y, Wr.s n y ∉ ys) → n ≠ 0 → c.seq = true ∨ n < 61 → u.sAt n = x) ∧
      (∀ b x xs ys, ws = xs ++ Wr.s (61 + b) x :: ys → (∀ y, Wr.s (61 + b) y ∉ ys) → b < 3 → c.seq = false → c.t.inTry = false →
        q.em.beat b = x &&& c.p.own.beat b) ∧
      ((∀ n x, Wr.s n x ∈ ws → n < 61) → q.em = c.p.em) ∧
      (∀ r ∈ c.written, 2 ≤ c.row.lat → r ≠ .s 0 → ∃ e ∈ q.pend, e.reg = r ∧ e.due = c.p.slot + c.row.lat)

/-- R17, R82, R97: the end of an instruction that is the last of its block. It makes its writes (each register as its last write leaves it, where
its registers were free in time), changes nothing else of its stream, and the path enters the header that must follow, with BAD_BLOCK where none
does. -/
def Obligations.LastInstructionEntersNextBlock : Prop :=
  ∀ (op : Nat) (o : Opnds) (s : State) (c : Ctx) (ws : List Wr), gate op o s = .go c → c.unbound → ¬ c.inside →
    (∀ r l x, Wr.v r l x ∈ ws → l < 96) →
    ∃ u, KeepsOthers c (ws.map Wr.reg) c.t u ∧
      (c.lost c.written = [] → u.sAt 0 = 0 ∧
        (∀ r l x xs ys, ws = xs ++ Wr.v r l x :: ys → (∀ y, Wr.v r l y ∉ ys) → u.vAt r l = x) ∧
        (∀ n x xs ys, ws = xs ++ Wr.s n x :: ys → (∀ y, Wr.s n y ∉ ys) → n ≠ 0 → c.seq = true ∨ n < 61 → u.sAt n = x) ∧
        (∀ b x xs ys q, ws = xs ++ Wr.s (61 + b) x :: ys → (∀ y, Wr.s (61 + b) y ∉ ys) → b < 3 → c.seq = false → c.t.inTry = false →
          u.path? c.k = some q → q.em.beat b = x &&& c.p.own.beat b)) ∧
      retire c c.s ws = enterHeader (c.s.setStream c.sid { c.t with
      v := u.v, vp := u.vp, s := u.s, sp := u.sp, p0 := u.p0, p1 := u.p1, hwue := u.hwue }) c.sid c.k 0x06 true c.nextPc

/-- Instructions that only write registers they name, each with its opcode. -/
noncomputable def registerInstrs (o : Opnds) : List (Nat × Instr) :=
  [(0x00, .nop32 o), (0x00, .nop o), (0x0C, .yield32 o), (0x0C, .yield o), (0x0D, .mand32 o), (0x0D, .mand o), (0x0E, .mor32 o),
   (0x0E, .mor o), (0x0F, .mxor32 o), (0x0F, .mxor o), (0x10, .mnot32 o), (0x10, .mnot o), (0x11, .mandn32 o), (0x11, .mandn o),
   (0x12, .mset32 o), (0x12, .mset o), (0x13, .mffs32 o), (0x13, .mffs o), (0x14, .vote32 o), (0x14, .vote o), (0x17, .jmst32 o),
   (0x17, .jmst o)] ++
  [(0x20, .iadd32 o), (0x20, .iadd o), (0x21, .isub32 o), (0x21, .isub o), (0x22, .imul2432 o), (0x22, .imul24 o), (0x23, .imad24 o),
   (0x24, .imul3232 o), (0x24, .imul32 o), (0x25, .imulh3232 o), (0x25, .imulh32 o), (0x26, .imin32 o), (0x26, .imin o),
   (0x27, .imax32 o), (0x27, .imax o), (0x28, .icmp32 o), (0x28, .icmp o), (0x29, .and32 o), (0x29, .and o), (0x2A, .or32 o),
   (0x2A, .or o), (0x2B, .xor32 o), (0x2B, .xor o), (0x2C, .shl32 o), (0x2C, .shl o), (0x2D, .shr32 o), (0x2D, .shr o),
   (0x2E, .sar32 o), (0x2E, .sar o), (0x2F, .rot32 o), (0x2F, .rot o), (0x30, .bfx o), (0x31, .bfi o), (0x32, .popc32 o),
   (0x32, .popc o), (0x33, .clz32 o), (0x33, .clz o), (0x34, .sel o), (0x35, .mov32 o), (0x35, .mov o), (0x36, .movi o),
   (0x37, .addr o), (0x38, .cvti o), (0x39, .crc32 o), (0x39, .crc o)] ++
  [(0x47, .fclass32 o), (0x47, .fclass o), (0x48, .fsgn32 o), (0x48, .fsgn o), (0x51, .bxpack o), (0x52, .bxunpk o), (0x58, .fgetrm32 o),
   (0x58, .fgetrm o), (0x66, .compact32 o), (0x66, .compact o), (0x67, .expand32 o), (0x67, .expand o), (0x68, .matchLanes32 o),
   (0x68, .matchLanes o), (0x69, .vidx32 o), (0x69, .vidx o)]

/-- Instructions that write registers they name and may set flags. -/
noncomputable def flagInstrs (o : Opnds) : List (Nat × Instr) :=
  [(0x40, .fadd32 o), (0x40, .fadd o), (0x41, .fsub32 o), (0x41, .fsub o), (0x42, .fmul32 o), (0x42, .fmul o), (0x43, .ffma o),
   (0x44, .fmin32 o), (0x44, .fmin o), (0x45, .fmax32 o), (0x45, .fmax o), (0x46, .fcmp32 o), (0x46, .fcmp o), (0x49, .frcp32 o),
   (0x49, .frcp o), (0x4A, .frsq32 o), (0x4A, .frsq o), (0x4B, .fsqrt32 o), (0x4B, .fsqrt o), (0x4C, .fexp232 o), (0x4C, .fexp2 o),
   (0x4D, .flog232 o), (0x4D, .flog2 o), (0x4E, .fsin32 o), (0x4E, .fsin o), (0x4F, .fcos32 o), (0x4F, .fcos o), (0x50, .fcvt o),
   (0x53, .cadd32 o), (0x53, .cadd o), (0x54, .csplit32 o), (0x54, .csplit o), (0x55, .cjoin32 o), (0x55, .cjoin o), (0x64, .red32 o),
   (0x64, .red o), (0x65, .scan32 o), (0x65, .scan o)]

/-- Cross-lane instructions that write a register they name and may note a conflict. -/
noncomputable def conflictInstrs (o : Opnds) : List (Nat × Instr) :=
  [(0x60, .xget32 o), (0x60, .xget o), (0x61, .xput32 o), (0x61, .xput o), (0x62, .shfl32 o), (0x62, .shfl o), (0x63, .bcast32 o),
   (0x63, .bcast o), (0x6A, .lread32 o), (0x6A, .lread o), (0x6B, .lwrite o)]

/-- R85, R98, R122, R128, R149, R168: a control, integer, float or cross-lane instruction that only writes registers completes, and leaves
all but its own stream as it was, memory included; of its stream it leaves every register it does not name, every special register, the
other path and the control state. Float instructions and reductions may set flags and clear none; lane exchanges may write XCONF. -/
def Obligations.RegisterInstructionsCompleteAndKeepTheRest : Prop :=
  ∀ (o : Opnds) (s : State) (c : Ctx),
    (∀ e ∈ registerInstrs o, Passes e.1 o s c → c.unbound → c.inside → ∃ s', exec e.2 s = .next s' ∧ RegisterFrame c s s') ∧
    (∀ e ∈ flagInstrs o, Passes e.1 o s c → c.unbound → c.inside → ∃ s', exec e.2 s = .next s' ∧ FlagFrame c s s') ∧
    (∀ e ∈ conflictInstrs o, Passes e.1 o s c → c.unbound → c.inside → ∃ s', exec e.2 s = .next s' ∧ ConflictFrame c s s')

-- Integer instructions

/-- The value of a 24-bit source (R133). -/
def value24 (unsigned : Bool) (w : Word) : Int := if unsigned then (w.toNat % 2 ^ 24 : Nat) else (w.extractLsb' 0 24).toInt

/-- R132, R133, R134, R135: IADD and ISUB wrap, saturate signed or unsigned, or work on 64-bit pairs; an immediate B of a pair is sign-extended.
Products and minimum and maximum: modifier 1 reads the sources unsigned. -/
def Obligations.SumsProductsAndMinMax : Prop :=
  (∀ (o : Opnds) (s : State) (c : Ctx),
    (Passes 0x20 o s c → ∀ i ∈ [Instr.iadd32 o, Instr.iadd o],
      (o.mod = 0 → WritesD i s c (fun l w => w.toNat = ((c.srcA l).toNat + (c.srcB l).toNat) % 2 ^ 32)) ∧
      (o.mod = 1 → WritesD i s c (fun l w => w.toInt = min (max ((c.srcA l).toInt + (c.srcB l).toInt) (-2 ^ 31)) (2 ^ 31 - 1))) ∧
      (o.mod = 2 → WritesD i s c (fun l w => w.toNat = min ((c.srcA l).toNat + (c.srcB l).toNat) (2 ^ 32 - 1))) ∧
      (o.mod = 3 → Writes i s c (wrPair (Ctx.sn o.d) (c.wide o.a + c.wide o.b)))) ∧
    (Passes 0x21 o s c → ∀ i ∈ [Instr.isub32 o, Instr.isub o],
      (o.mod = 0 → WritesD i s c (fun l w => (w.toNat : Int) = ((c.srcA l).toNat - (c.srcB l).toNat : Int) % 2 ^ 32)) ∧
      (o.mod = 1 → WritesD i s c (fun l w => w.toInt = min (max ((c.srcA l).toInt - (c.srcB l).toInt) (-2 ^ 31)) (2 ^ 31 - 1))) ∧
      (o.mod = 2 → WritesD i s c (fun l w => (w.toNat : Int) = max ((c.srcA l).toNat - (c.srcB l).toNat : Int) 0)) ∧
      (o.mod = 3 → Writes i s c (wrPair (Ctx.sn o.d) (c.wide o.a - c.wide o.b)))) ∧
    (∀ b : BitVec 6, (c.wide (.imm b)).toInt = b.toInt) ∧ (∀ w : Word, (c.wide (.lit w)).toInt = w.toInt)) ∧
  (∀ (o : Opnds) (s : State) (c : Ctx),
    (Passes 0x22 o s c → ∀ i ∈ [Instr.imul2432 o, Instr.imul24 o], WritesD i s c (fun l w =>
      (w.toNat : Int) = value24 (o.mod = 1) (c.srcA l) * value24 (o.mod = 1) (c.srcB l) % 2 ^ 32)) ∧
    (Passes 0x23 o s c → WritesD (.imad24 o) s c (fun l w =>
      (w.toNat : Int) = (value24 (o.mod = 1) (c.srcA l) * value24 (o.mod = 1) (c.srcB l) + (c.srcC l).toNat) % 2 ^ 32)) ∧
    (Passes 0x24 o s c → ∀ i ∈ [Instr.imul3232 o, Instr.imul32 o], WritesD i s c (fun l w =>
      w.toNat = (c.srcA l).toNat * (c.srcB l).toNat % 2 ^ 32 ∧ (w.toNat : Int) = (c.srcA l).toInt * (c.srcB l).toInt % 2 ^ 32)) ∧
    (Passes 0x25 o s c → ∀ i ∈ [Instr.imulh3232 o, Instr.imulh32 o],
      (o.mod ≠ 1 → WritesD i s c (fun l w => (w.toNat : Int) = (c.srcA l).toInt * (c.srcB l).toInt / 2 ^ 32 % 2 ^ 32)) ∧
      (o.mod = 1 → WritesD i s c (fun l w => w.toNat = (c.srcA l).toNat * (c.srcB l).toNat / 2 ^ 32))) ∧
    (Passes 0x26 o s c → ∀ i ∈ [Instr.imin32 o, Instr.imin o],
      (o.mod ≠ 1 → WritesD i s c (fun l w => w.toInt = min (c.srcA l).toInt (c.srcB l).toInt)) ∧
      (o.mod = 1 → WritesD i s c (fun l w => w.toNat = min (c.srcA l).toNat (c.srcB l).toNat))) ∧
    (Passes 0x27 o s c → ∀ i ∈ [Instr.imax32 o, Instr.imax o],
      (o.mod ≠ 1 → WritesD i s c (fun l w => w.toInt = max (c.srcA l).toInt (c.srcB l).toInt)) ∧
      (o.mod = 1 → WritesD i s c (fun l w => w.toNat = max (c.srcA l).toNat (c.srcB l).toNat))))

/-- R136, Table 6.2: a comparison by condition number. -/
def conditionHolds (n : Nat) (a b : Word) : Prop :=
  (n = 0 → a.toInt < b.toInt) ∧ (n = 1 → a.toInt ≤ b.toInt) ∧ (n = 2 → b.toInt < a.toInt) ∧ (n = 3 → b.toInt ≤ a.toInt) ∧
  (n = 4 → a = b) ∧ (n = 5 → a ≠ b) ∧ (n = 6 → a.toNat < b.toNat) ∧ (n = 7 → a.toNat ≤ b.toNat) ∧ (n = 8 → b.toNat < a.toNat) ∧
  (n = 9 → b.toNat ≤ a.toNat)

/-- R136, R140: ICMP sets exactly the active lanes in which its comparison holds, or one scalar to 1 or 0; SEL chooses by the bits of a
triple, or by a scalar that is not zero. -/
def Obligations.CompareAndSelect : Prop :=
  ∀ (o : Opnds) (s : State) (c : Ctx),
    (Passes 0x28 o s c → ∀ i ∈ [Instr.icmp32 o, Instr.icmp o],
      (isVec o.a = true → ∃ m : Lanes, (∀ l < 96, m.getLsbD l = true ↔ c.act.getLsbD l = true ∧ conditionHolds o.mod (c.srcA l) (c.srcB l)) ∧
        Writes i s c (wrTriple (Ctx.sn o.d) m)) ∧
      (isVec o.a = false → ∃ w : Word, (conditionHolds o.mod (c.srcA 0) (c.srcB 0) → w = 1) ∧
        (¬ conditionHolds o.mod (c.srcA 0) (c.srcB 0) → w = 0) ∧ Writes i s c [.s (Ctx.sn o.d) w])) ∧
    (Passes 0x34 o s c →
      (isVec o.d = true → WritesD (.sel o) s c (fun l w =>
        w = if (c.triple (Ctx.sn o.a)).getLsbD l = true then c.srcB l else c.srcC l)) ∧
      (isVec o.d = false → Writes (.sel o) s c [.s (Ctx.sn o.d) (if c.srcA 0 ≠ 0 then c.srcB 0 else c.srcC 0)]))

/-- R137: logic, shifts and rotations; a count is an unsigned 32-bit value, and a small immediate -1 is the count 0xFFFF_FFFF. -/
def Obligations.LogicShiftsAndRotations : Prop :=
  ∀ (o : Opnds) (s : State) (c : Ctx),
    (Passes 0x29 o s c → ∀ i ∈ [Instr.and32 o, Instr.and o], WritesD i s c (fun l w =>
      ∀ n < 32, w.getLsbD n = ((c.srcA l).getLsbD n && (c.srcB l).getLsbD n))) ∧
    (Passes 0x2A o s c → ∀ i ∈ [Instr.or32 o, Instr.or o], WritesD i s c (fun l w =>
      ∀ n < 32, w.getLsbD n = ((c.srcA l).getLsbD n || (c.srcB l).getLsbD n))) ∧
    (Passes 0x2B o s c → ∀ i ∈ [Instr.xor32 o, Instr.xor o], WritesD i s c (fun l w =>
      ∀ n < 32, w.getLsbD n = ((c.srcA l).getLsbD n != (c.srcB l).getLsbD n))) ∧
    (Passes 0x2C o s c → ∀ i ∈ [Instr.shl32 o, Instr.shl o], WritesD i s c (fun l w => ∀ n < 32,
      w.getLsbD n = (decide ((c.srcB l).toNat ≤ n) && (c.srcA l).getLsbD (n - (c.srcB l).toNat)))) ∧
    (Passes 0x2D o s c → ∀ i ∈ [Instr.shr32 o, Instr.shr o], WritesD i s c (fun l w => ∀ n < 32,
      w.getLsbD n = (c.srcA l).getLsbD (n + (c.srcB l).toNat))) ∧
    (Passes 0x2E o s c → ∀ i ∈ [Instr.sar32 o, Instr.sar o], WritesD i s c (fun l w => ∀ n < 32,
      w.getLsbD n = (c.srcA l).getLsbD (min (n + (c.srcB l).toNat) 31))) ∧
    (Passes 0x2F o s c → ∀ i ∈ [Instr.rot32 o, Instr.rot o], WritesD i s c (fun l w => ∀ n < 32,
      (o.mod ≠ 1 → w.getLsbD ((n + (c.srcB l).toNat) % 32) = (c.srcA l).getLsbD n) ∧
      (o.mod = 1 → w.getLsbD n = (c.srcA l).getLsbD ((n + (c.srcB l).toNat) % 32)))) ∧
    (∀ l, c.src (.imm (-1)) l = 0xFFFFFFFF)

/-- R138, R139: fields, set bits and leading zeros. Position and length stop at 32; missing bits read as zeros and are dropped in BFI. -/
def Obligations.BitFieldsAndCounts : Prop :=
  ∀ (o : Opnds) (s : State) (c : Ctx),
    (Passes 0x30 o s c → WritesD (.bfx o) s c (fun l w =>
      let p := min (c.srcB l).toNat 32
      let n := min (c.srcC l).toNat 32
      (∀ j < n, w.getLsbD j = (c.srcA l).getLsbD (p + j)) ∧
      (∀ j < 32, n ≤ j → w.getLsbD j = (decide (o.mod = 1) && decide (0 < n) && (c.srcA l).getLsbD (p + (n - 1)))))) ∧
    (Passes 0x31 o s c → WritesD (.bfi o) s c (fun l w =>
      let p := min (c.srcB l).toNat 32
      let n := min (c.srcC l).toNat 32
      ∀ j < 32, w.getLsbD j = if p ≤ j ∧ j < p + n then (c.srcA l).getLsbD (j - p) else (c.src o.d l).getLsbD j)) ∧
    (Passes 0x32 o s c → ∀ i ∈ [Instr.popc32 o, Instr.popc o], WritesD i s c (fun l w =>
      w.toNat = ((List.range 32).countP (fun j => (c.srcA l).getLsbD j)))) ∧
    (Passes 0x33 o s c → ∀ i ∈ [Instr.clz32 o, Instr.clz o], WritesD i s c (fun l w =>
      w.toNat ≤ 32 ∧ (∀ j < 32, 32 - w.toNat ≤ j → (c.srcA l).getLsbD j = false) ∧
      (w.toNat < 32 → (c.srcA l).getLsbD (31 - w.toNat) = true)))

/-- The value of a word under a type code of CVTI: 0 to 2 signed, 3 to 5 unsigned, of 8, 16 or 32 bits (R143). -/
def typedValue (ty : Nat) (w : Word) : Int :=
  match ty with
  | 0 => (w.extractLsb' 0 8).toInt
  | 1 => (w.extractLsb' 0 16).toInt
  | 2 => w.toInt
  | 3 => (w.toNat % 2 ^ 8 : Nat)
  | 4 => (w.toNat % 2 ^ 16 : Nat)
  | _ => w.toNat

/-- The least and the greatest value of a type code of CVTI, and its modulus. -/
def typeBounds (ty : Nat) : Int × Int × Int :=
  match ty with
  | 0 => (-2 ^ 7, 2 ^ 7 - 1, 2 ^ 8)
  | 1 => (-2 ^ 15, 2 ^ 15 - 1, 2 ^ 16)
  | 2 => (-2 ^ 31, 2 ^ 31 - 1, 2 ^ 32)
  | 3 => (0, 2 ^ 8 - 1, 2 ^ 8)
  | 4 => (0, 2 ^ 16 - 1, 2 ^ 16)
  | _ => (0, 2 ^ 32 - 1, 2 ^ 32)

/-- The CRC register after one bit (R144). -/
def crcStep (p c : Word) : Word := if c.getLsbD 0 then (c >>> 1) ^^^ p else c >>> 1

/-- R121, R141 to R144: moves, address generation, conversion between integer widths, and CRC; NOP and YIELD change nothing but their path's
place and slot. -/
def Obligations.MovesAddressesConversionsCrcAndNop : Prop :=
  (∀ (o : Opnds) (s : State) (c : Ctx),
    (Passes 0x35 o s c → ∀ i ∈ [Instr.mov32 o, Instr.mov o], WritesD i s c (fun l w => w = c.srcA l)) ∧
    (Passes 0x36 o s c → WritesD (.movi o) s c (fun _ w =>
      (∀ b, o.a = .imm b → w.toInt = b.toInt) ∧ (∀ x, o.a = .lit x → w = x))) ∧
    (Passes 0x37 o s c →
      (isVec o.d = true → WritesD (.addr o) s c (fun l w =>
        w.toNat = ((c.srcA l).toNat * 2 ^ (o.mod % 4) + (c.srcB l).toNat + (c.srcC l).toNat) % 2 ^ 32)) ∧
      (isVec o.d = false → ∃ x : Addr, (x.toNat : Int) = ((c.wide o.a).toNat
          + (if o.mod / 4 % 2 = 1 then ((c.srcB 0).toNat : Int) else (c.srcB 0).toInt) * 2 ^ (o.mod % 4) + (c.srcC 0).toInt) % 2 ^ 64 ∧
        Writes (.addr o) s c (wrPair (Ctx.sn o.d) x))) ∧
    (Passes 0x38 o s c → WritesD (.cvti o) s c (fun l w =>
      let v := typedValue (o.mod / 8 % 8) (c.srcA l)
      let bounds := typeBounds (o.mod % 8)
      typedValue (o.mod % 8) w =
        (if o.mod / 64 % 2 = 1 then (v - bounds.1) % bounds.2.2 + bounds.1 else min (max v bounds.1) bounds.2.1) ∧
      (o.mod % 8 < 3 → w.toInt = typedValue (o.mod % 8) w) ∧ (3 ≤ o.mod % 8 → (w.toNat : Int) = typedValue (o.mod % 8) w))) ∧
    (Passes 0x39 o s c → ∀ i ∈ [Instr.crc32 o, Instr.crc o], WritesD i s c (fun l w =>
      let p : Word := if o.mod % 2 = 1 then 0xEDB88320 else 0x82F63B78
      let step (r : Word) (k : Nat) : Word := (List.range 8).foldl (fun r _ => crcStep p r) (r ^^^ wd ((c.srcB l).toNat / 2 ^ (8 * k) % 2 ^ 8))
      (o.mod / 2 = 0 → w = step (c.srcA l) 0) ∧ (o.mod / 2 = 1 → w = step (step (c.srcA l) 0) 1) ∧
      (o.mod / 2 = 2 → w = step (step (step (step (c.srcA l) 0) 1) 2) 3)))) ∧
  (∀ (o : Opnds) (s : State) (c : Ctx),
    (Passes 0x00 o s c → ∀ i ∈ [Instr.nop32 o, Instr.nop o], Writes i s c []) ∧
    (Passes 0x0C o s c → ∀ i ∈ [Instr.yield32 o, Instr.yield o], Writes i s c []) ∧
    (Passes 0x00 o s c ∨ Passes 0x0C o s c → c.unbound → c.inside → ∃ p q, c.t.path? c.k = some p ∧
      retire c c.s [] = c.s.setStream c.sid (c.t.setPath c.k (some q)) ∧ q = { p with pc := q.pc, slot := q.slot, pend := q.pend, fl := q.fl, wait := none, held := false } ∧
      q.pc = c.pc + BitVec.ofNat 64 (4 * o.words) ∧ q.slot = c.p.slot + 1 + o.stall))

-- Control instructions

/-- R122: the mask operations work on triples bit by bit with no lane mask; s0 reads as zero in a triple and takes no write; words of a
course's destination in s61 to s63 go into its mask. -/
def Obligations.MaskOperationsOnTriples : Prop :=
  ∀ (o : Opnds) (s : State) (c : Ctx),
    let A := c.triple (Ctx.sn o.a)
    let B := c.triple (Ctx.sn o.b)
    let D := Ctx.sn o.d
    let writes (i : Instr) (m : Lanes) : Prop := Writes i s c (wrTriple D m) ∧
      (c.unbound → c.inside → c.lost c.written = [] → c.t.inTry = false → ∃ u q, exec i s = .next (c.s.setStream c.sid u) ∧
        u.path? c.k = some q ∧ u.sAt 0 = 0 ∧ ∀ b < 3, (D + b ≠ 0 → c.seq = true ∨ D + b < 61 → u.sAt (D + b) = m.beat b) ∧
          (c.seq = false → 61 ≤ D + b → q.em.beat (D + b - 61) = m.beat b &&& c.p.own.beat (D + b - 61)))
    (Passes 0x0D o s c → ∀ i ∈ [Instr.mand32 o, Instr.mand o], ∃ m, (∀ l < 96, m.getLsbD l = (A.getLsbD l && B.getLsbD l)) ∧ writes i m) ∧
    (Passes 0x0E o s c → ∀ i ∈ [Instr.mor32 o, Instr.mor o], ∃ m, (∀ l < 96, m.getLsbD l = (A.getLsbD l || B.getLsbD l)) ∧ writes i m) ∧
    (Passes 0x0F o s c → ∀ i ∈ [Instr.mxor32 o, Instr.mxor o], ∃ m, (∀ l < 96, m.getLsbD l = (A.getLsbD l != B.getLsbD l)) ∧ writes i m) ∧
    (Passes 0x10 o s c → ∀ i ∈ [Instr.mnot32 o, Instr.mnot o], ∃ m, (∀ l < 96, m.getLsbD l = !A.getLsbD l) ∧ writes i m) ∧
    (Passes 0x11 o s c → ∀ i ∈ [Instr.mandn32 o, Instr.mandn o], ∃ m, (∀ l < 96, m.getLsbD l = (A.getLsbD l && !B.getLsbD l)) ∧ writes i m) ∧
    (∀ l < 32, (c.triple 0).getLsbD l = false)

/-- R123, R124, R125: MSET, MFFS, VOTE and JMST. -/
def Obligations.MaskSetFindVoteAndRead : Prop :=
  ∀ (o : Opnds) (s : State) (c : Ctx),
    let A := c.triple (Ctx.sn o.a)
    (Passes 0x12 o s c → ∀ i ∈ [Instr.mset32 o, Instr.mset o], ∃ m : Lanes,
      (∀ l < 96, m.getLsbD l = true ↔ (c.srcA l).toNat ≤ l ∧ l < (c.srcB l).toNat) ∧ Writes i s c (wrTriple (Ctx.sn o.d) m)) ∧
    (Passes 0x13 o s c → ∀ i ∈ [Instr.mffs32 o, Instr.mffs o], ∃ w : Word,
      ((∀ l < 96, A.getLsbD l = false) ∧ w = 96 ∨ A.getLsbD w.toNat = true ∧ w.toNat < 96 ∧ ∀ l < w.toNat, A.getLsbD l = false) ∧
      Writes i s c [.s (Ctx.sn o.d) w]) ∧
    (Passes 0x14 o s c → ∀ i ∈ [Instr.vote32 o, Instr.vote o], ∃ w : Word,
      (o.mod = 0 → (w = 0 ∨ w = 1) ∧ (w = 1 ↔ ∃ l < 96, A.getLsbD l = true ∧ c.act.getLsbD l = true)) ∧
      (o.mod = 1 → (w = 0 ∨ w = 1) ∧ (w = 1 ↔ ∀ l < 96, c.act.getLsbD l = true → A.getLsbD l = true)) ∧
      (o.mod = 2 → w.toNat = (List.range 96).countP (fun l => A.getLsbD l && c.act.getLsbD l)) ∧
      Writes i s c [.s (Ctx.sn o.d) w]) ∧
    (Passes 0x17 o s c → ∀ i ∈ [Instr.jmst32 o, Instr.jmst o], Writes i s c (wrTriple (Ctx.sn o.d) (c.t.join (Ctx.fn o.a)).mask))

/-- R111, R112, R114, R120, Table 5.5: BRA and BRX transfer the whole path; BRC does so when its condition holds and else goes on. LOOP counts down and
branches while the new count is not zero; its target's LOOPF is checked before, in either case; its write has latency 1, and a badly spaced
earlier one may stand in its place (R89); D = s0 is no instruction. -/
def Obligations.BranchesAndLoopsTransferWholePath : Prop :=
  (∀ (o : Opnds) (s : State) (c : Ctx) (off : BitVec 16) (n : Nat),
    (Passes 0x01 o s c → o.b = .toff off → TransfersTo (.bra o) s c c.t true (c.pc + off.signExtend 64 * 4)) ∧
    (Passes 0x02 o s c → o.b = .toff off →
      let A := c.triple (Ctx.sn o.a)
      let holds : Prop := (o.mod = 0 ∧ ∃ l < 96, A.getLsbD l = true ∧ c.act.getLsbD l = true) ∨
        (o.mod = 1 ∧ ∀ l < 96, c.act.getLsbD l = true → A.getLsbD l = true) ∨
        (o.mod = 2 ∧ ∀ l < 96, ¬ (A.getLsbD l = true ∧ c.act.getLsbD l = true)) ∨ (o.mod = 3 ∧ c.uni o.a ≠ 0) ∨ (o.mod = 4 ∧ c.uni o.a = 0)
      (holds → TransfersTo (.brc o) s c c.t true (c.pc + off.signExtend 64 * 4)) ∧ (¬ holds → Writes (.brc o) s c [])) ∧
    (Passes 0x04 o s c → o.a = .s n → ∀ i ∈ [Instr.brx32 o, Instr.brx o], TransfersTo i s c c.t true (c.pair n))) ∧
  (∀ (o : Opnds) (s : State) (c : Ctx) (off : BitVec 16) (n : Nat), o.b = .toff off → o.d = .s n →
    (Passes 0x0B o s c → ∃ w : Word, (w.toNat : Int) = ((c.sc n).toNat - 1 : Int) % 2 ^ 32 ∧ c.row.lat = 1 ∧
      (∀ x, codeWord c.s c.who (c.pc + off.signExtend 64 * 4 + 4) = some x → x.getLsbD 13 = true) ∧
      (w ≠ 0 → Reg.s n ∉ c.lost c.written →
        TransfersTo (.loop o) s c ((c.t.overtake c.k [.s n]).put c.seq c.k (.s n w)) true (c.pc + off.signExtend 64 * 4)) ∧
      (w ≠ 0 → Reg.s n ∈ c.lost c.written → TransfersTo (.loop o) s c c.t true (c.pc + off.signExtend 64 * 4)) ∧
      (w = 0 → Writes (.loop o) s c [.s n 0])) ∧
    (∀ u, n = 0 → WellFormed.opnds u 0x0B o = false))

/-- R108, R117, R118: CALL and CALLX push their lanes' common link, link them to the next word and transfer; split links and a full stack
trap, in this order, and change nothing. RET takes its lanes out of the topmost entry that holds one of them, gives them that entry's link
and transfers to their common link; with no such entry, with differing links or lanes outside the entry, and with a target that is no
header it traps, in this order. -/
def Obligations.CallsAndReturnsUseTheLinkRegister : Prop :=
  (∀ (e : Nat × Instr) (o : Opnds) (s : State) (c : Ctx) (a va : Addr), e ∈ [(0x07, Instr.call o), (0x08, .callx32 o), (0x08, .callx o)] →
    Passes e.1 o s c →
    (∃ l < 96, c.p.own.getLsbD l = true) →
    (∀ off, o.b = .toff off → e.1 = 0x07 → va = c.pc + off.signExtend 64 * 4) → (∀ n, o.a = .s n → e.1 = 0x08 → va = c.pair n) →
    ((∀ l < 96, c.p.own.getLsbD l = true → c.t.lrAt l = a) → c.t.rstk.length < 16 →
      ∃ u, TransfersTo e.2 s c u false va ∧ u = { c.t with rstk := ⟨a, c.p.own⟩ :: c.t.rstk, lr := u.lr } ∧
        ∀ l < 96, u.lrAt l = if c.p.own.getLsbD l = true then c.pc + BitVec.ofNat 64 (4 * o.words) else c.t.lrAt l) ∧
    ((∃ l < 96, ∃ l' < 96, c.p.own.getLsbD l = true ∧ c.p.own.getLsbD l' = true ∧ c.t.lrAt l ≠ c.t.lrAt l') → TrapsWith e.2 s c 0x09) ∧
    ((∀ l < 96, c.p.own.getLsbD l = true → c.t.lrAt l = a) → 16 ≤ c.t.rstk.length → TrapsWith e.2 s c 0x0A)) ∧
  (∀ (o : Opnds) (s : State) (c : Ctx) (i : Instr), i ∈ [Instr.ret32 o, .ret o] → Passes 0x09 o s c →
    ((∀ e ∈ c.t.rstk, e.lanes &&& c.p.own = 0) → TrapsWith i s c 0x08) ∧
    (∀ pre e post, c.t.rstk = pre ++ e :: post → (∀ x ∈ pre, x.lanes &&& c.p.own = 0) → e.lanes &&& c.p.own ≠ 0 →
      ((∃ l < 96, ∃ l' < 96, c.p.own.getLsbD l = true ∧ c.p.own.getLsbD l' = true ∧ c.t.lrAt l ≠ c.t.lrAt l') → TrapsWith i s c 0x09) ∧
      (c.p.own &&& ~~~e.lanes ≠ 0 → TrapsWith i s c 0x09) ∧
      (∀ a, c.p.own &&& ~~~e.lanes = 0 → (∀ l < 96, c.p.own.getLsbD l = true → c.t.lrAt l = a) →
        (targetOk c.s c.who a = false → TrapsWith i s c 0x05) ∧
        (targetOk c.s c.who a = true → ∃ u, TransfersTo i s c u false a ∧ u = { c.t with rstk := u.rstk, lr := u.lr } ∧
          u.rstk = pre ++ (if e.lanes &&& ~~~c.p.own = 0 then post else { e with lanes := e.lanes &&& ~~~c.p.own } :: post) ∧
          ∀ l < 96, u.lrAt l = if c.p.own.getLsbD l = true then e.link else c.t.lrAt l))))

/-- R100, R103, R106, R107, R116, R119, R279: EXIT takes the active lanes out of LIVE, of its path and of the other, of the pending arms, of every
record's arrivals and of the return stack; a record (here the only open one) that then holds lanes and expects no other completes: its lanes go on
as a new path, and nothing is counted as lost. A path with lanes left goes on, one without ends; so does a sequencer's stream. JOIN of a closed
record is no wait; a record whose expected lanes have all arrived or exited closes, and the path goes on with all its lanes; otherwise the path
parks its lanes in the record and ends, and where it was the course's last path and no arm is pending, the newest record with parked lanes is
released and counted in LOST_RECONV. No reply for a register of the path may be outstanding. That LOST_RECONV leaves out R119's completions follows
R107 and Table 24.6 against the words of R456 (log 68). -/
def Obligations.ExitRemovesLanesAndJoinGathersThem : Prop :=
  (∀ (o : Opnds) (s : State) (c : Ctx) (i : Instr), i ∈ [Instr.exit32 o, .exit o] → Passes 0x0A o s c →
    (c.seq = true → exec i s = .next (settle (c.s.setStream c.sid { c.t with ended := true }) c.sid)) ∧
    (∀ n, n < 8 → c.seq = false → (∀ m < 8, m ≠ n → (c.t.join m).jv = false) →
      let j := c.t.join n
      let left : Lanes := j.ja &&& ~~~c.act
      let done : Prop := j.jv = true ∧ left ≠ 0 ∧ j.mask &&& ~~~(left ||| ~~~(c.t.live &&& ~~~c.act)) = 0
      ∃ t u : Stream,
      t.live = c.t.live &&& ~~~c.act ∧ (∀ k p, c.t.path? k = some p → t.path? k = some (p.without c.act)) ∧
      (∀ k, c.t.path? k = none → t.path? k = none) ∧
      t.arms = (c.t.arms.map (fun p => p.without c.act)).filter (fun p => p.own ≠ 0) ∧ (∀ e ∈ t.rstk, e.lanes ≠ 0 ∧ e.lanes &&& c.act = 0) ∧
      (∀ n < 8, (t.join n).ja = (c.t.join n).ja &&& ~~~c.act) ∧ (∀ r l, l < 96 → t.vAt r l = c.t.vAt r l) ∧ (∀ n, t.sAt n = c.t.sAt n) ∧
      t.lost = c.t.lost ∧ (¬ done → u = t) ∧
      (done → j.jr ≠ none → c.t.inTry = false → ∃ q, GoesOn j (j.mask &&& t.live) (left &&& t.live) q ∧ Joins t q u ∧ u.live = t.live ∧ u.lost = t.lost ∧
        u.join n = { j with jv := false, ja := 0, jr := none } ∧ u.rstk = t.rstk ∧ (∀ r l, l < 96 → u.vAt r l = t.vAt r l) ∧ ∀ n, u.sAt n = t.sAt n) ∧
      (c.p.own &&& ~~~c.act ≠ 0 → CompletesWith i s c u []) ∧
      (c.p.own &&& ~~~c.act = 0 → exec i s = .next (settle (c.s.setStream c.sid (u.endPath c.k)) c.sid)))) ∧
  (∀ (o : Opnds) (s : State) (c : Ctx) (n : Nat) (i : Instr), i ∈ [Instr.join32 o, .join o] → o.a = .f n → Passes 0x05 o s c → c.t.inTry = false →
    (∀ e x, (e, some x) ∈ c.s.ott → x.sid ≠ c.sid) →
    let j := c.t.join n
    let owe := if c.t.inChain n 9 c.p.owe then j.jp else c.p.owe
    let ja := j.ja ||| c.p.own
    let arrived : Prop := j.mask &&& ~~~(ja ||| ~~~c.t.live) = 0
    (j.jv = false → CompletesWith i s c (c.t.setPath c.k (some { c.p with pend := [], fl := [], owe := owe })) []) ∧
    (j.jv = true → arrived → CompletesWith i s c
      ((c.t.setPath c.k (some { c.p with pend := [], fl := [], em := j.mask &&& c.t.live, emp := [], own := ja &&& c.t.live, owe := j.jp })).setJoin n
        { j with ja := 0, jv := false }) []) ∧
    (j.jv = true → ¬ arrived →
      let t := c.t.setJoin n { j with ja := ja, jr := some (j.jr.getD (c.nextPc, c.p.hdr, c.p.blk)) }
      exec i s = .next (c.s.setStream c.sid (t.endPath c.k)) ∧
      (∀ a rest, c.t.arms = a :: rest → t.endPath c.k = { t.setPath c.k (some { a with slot := 0, pend := [], fl := [] }) with arms := rest }) ∧
      (c.t.arms = [] → c.t.path? (1 - c.k) ≠ none → t.endPath c.k = t.setPath c.k none) ∧
      (c.t.arms = [] → c.t.path? (1 - c.k) = none → c.t.live ≠ 0 → n < 8 → c.p.own ≠ 0 → (∀ m < 8, (t.join m).ja ≠ 0 → (t.join m).jr ≠ none) →
        ∃ m q, m < 8 ∧ (t.join m).jv = true ∧ (t.join m).ja ≠ 0 ∧
          (∀ i < 8, (t.join i).jv = true → (t.join i).ja ≠ 0 → (t.join i).jseq ≤ (t.join m).jseq) ∧
          GoesOn (t.join m) ((t.join m).mask &&& (t.join m).ja &&& c.t.live) ((t.join m).ja &&& c.t.live) q ∧
          (t.endPath c.k).path? 0 = some q ∧ (t.endPath c.k).path? 1 = none ∧ (t.endPath c.k).lost = c.t.lost + 1 ∧
          (t.endPath c.k).join m = { t.join m with jv := false, ja := 0, jr := none } ∧ ∀ i, i ≠ m → (t.endPath c.k).join i = t.join i)))

/-- R100, R102, R113: BRD. It opens the record it names, unless its path owes it already; with all active lanes on one side the whole path
goes to that side's target; otherwise the lanes that fail the test form an arm of their own, in the free path slot or else on top of the pending
stack, which holds 32. Its traps change nothing. -/
def Obligations.BranchDivergesOnMask : Prop :=
  ∀ (o : Opnds) (s : State) (c : Ctx) (n : Nat) (w : Word), o.d = .f n → o.b = .lit w → Passes 0x03 o s c →
    let yes := c.act &&& c.triple (Ctx.sn o.a)
    let no := c.act &&& ~~~c.triple (Ctx.sn o.a)
    let tT := c.pc + (w.extractLsb' 0 16).signExtend 64 * 4
    let tF := c.pc + (w.extractLsb' 16 16).signExtend 64 * 4
    (c.p.owe ≠ some n → (blockHdr c.p).rcv = false → TrapsWith (.brd o) s c 0x0C) ∧
    (c.p.owe ≠ some n → (blockHdr c.p).rcv = true → (c.t.join n).jv = true → TrapsWith (.brd o) s c 0x0D) ∧
    (c.p.owe = some n → openJoin c n = .ok c.t) ∧
    (c.p.owe ≠ some n → (blockHdr c.p).rcv = true → (c.t.join n).jv = false → ∃ q, (∀ m < 8, (c.t.join m).jv = true → (c.t.join m).jseq < q) ∧
      openJoin c n = .ok (c.t.setJoin n ⟨c.act, true, 0, c.p.hdr + BitVec.ofInt 64 (4 * (blockHdr c.p).rcoff), none, c.p.owe, q⟩)) ∧
    (∀ t p, openJoin c n = .ok t → c.t.path? c.k = some p →
      (no = 0 → TransfersTo (.brd o) s c (t.setPath c.k (some { p with owe := some n })) true tT) ∧
      (no ≠ 0 → yes = 0 → TransfersTo (.brd o) s c (t.setPath c.k (some { p with owe := some n })) true tF) ∧
      (no ≠ 0 → yes ≠ 0 → c.t.path? (1 - c.k) = none → c.k < 2 → ∃ arm : Path, arm.em = no ∧ arm.own = no ∧ arm.owe = some n ∧ arm.pc = tF ∧
        TransfersTo (.brd o) s c (({ t with nid := t.nid + 1 }.setPath (1 - c.k) (some arm)).setPath c.k
          (some { p with em := yes, emp := [], own := yes ||| (c.p.own &&& ~~~c.act), owe := some n })) true tT) ∧
      (no ≠ 0 → yes ≠ 0 → c.t.path? (1 - c.k) ≠ none → c.t.arms.length < 32 → c.k < 2 → ∃ arm : Path, arm.em = no ∧ arm.own = no ∧ arm.owe = some n ∧
        arm.pc = tF ∧ TransfersTo (.brd o) s c ({ t with nid := t.nid + 1, arms := arm :: t.arms }.setPath c.k
          (some { p with em := yes, emp := [], own := yes ||| (c.p.own &&& ~~~c.act), owe := some n })) true tT) ∧
      (no ≠ 0 → yes ≠ 0 → c.t.path? (1 - c.k) ≠ none → 32 ≤ c.t.arms.length → TrapsWith (.brd o) s c 0x0B))

/-- The groups of a per-lane branch: a target and the lanes that name it, each active lane in one group, ordered by their lowest lane (R115). -/
def laneGroups (act : Lanes) (target : Nat → Addr) (gs : List (Addr × Lanes)) : Prop :=
  (∀ l < 96, act.getLsbD l = true → ∃ g ∈ gs, g.2.getLsbD l = true) ∧
  (∀ g ∈ gs, g.2 ≠ 0 ∧ ∀ l < 96, g.2.getLsbD l = true → act.getLsbD l = true ∧ target l = g.1) ∧ (gs.map (fun g => g.1)).Nodup ∧
  gs.Pairwise (fun g h => ∃ l < 96, g.2.getLsbD l = true ∧ ∀ l' < 96, h.2.getLsbD l' = true → l < l')

/-- R115, R119, R125: JARV with no active lane goes on (log 65). Otherwise the group of the lowest lane goes on in the path, with its lanes that are
carried but inactive; the next takes the free slot, if there is one, and the others go on the stack, a lower lowest lane nearer the top; with no
room for them it traps DIV_DEPTH. RJMV onto itself does nothing and onto an open record traps JM_BUSY; else paths, pending arms and records that
named the one name the other. JMLD writes a record's mask; an open one that holds lanes and then expects no other completes. -/
def Obligations.IndirectBranchAndRecordMoves : Prop :=
  ∀ (o : Opnds) (s : State) (c : Ctx) (n m : Nat),
    (Passes 0x06 o s c → o.d = .f n → ∀ i ∈ [Instr.jarv32 o, Instr.jarv o],
      (c.act = 0 → Writes i s c []) ∧
      (∀ (va : Addr) (m : Lanes) (rest : List (Addr × Lanes)) (t : Stream) (p : Path), c.t.arms.length ≤ 32 → c.k < 2 →
        laneGroups c.act (fun l => c.pc + (c.srcA l).signExtend 64 * 4) ((va, m) :: rest) → openJoin c n = .ok t → c.t.path? c.k = some p →
        let first := { p with em := m, emp := [], own := m ||| (c.p.own &&& ~~~c.act), owe := some n }
        let taken := c.t.path? (1 - c.k) ≠ none
        (rest = [] → TransfersTo i s c (t.setPath c.k (some first)) true va) ∧
        (taken → 32 < c.t.arms.length + rest.length → TrapsWith i s c 0x0B) ∧ (¬ taken → 33 < c.t.arms.length + rest.length → TrapsWith i s c 0x0B) ∧
        (c.t.arms.length + rest.length ≤ (if c.t.path? (1 - c.k) = none then 33 else 32) → ∃ (as : List Path) (nid : Nat),
          as.map (fun q => (q.pc, q.em)) = rest ∧ (∀ q ∈ as, q.own = q.em ∧ q.owe = some n ∧ q.entry = true ∧ q.check = true) ∧
          (taken → TransfersTo i s c ({ t with nid := nid, arms := as ++ t.arms }.setPath c.k (some first)) true va) ∧
          (∀ a as', ¬ taken → as = a :: as' →
            TransfersTo i s c (({ t with nid := nid, arms := as' ++ t.arms }.setPath (1 - c.k) (some a)).setPath c.k (some first)) true va)))) ∧
    (Passes 0x15 o s c → o.d = .f n → o.a = .f m → ∀ i ∈ [Instr.rjmv32 o, Instr.rjmv o],
      (m = n → Writes i s c []) ∧ (m ≠ n → (c.t.join n).jv = true → TrapsWith i s c 0x0D) ∧
      (m ≠ n → (c.t.join n).jv = false → ∃ u, CompletesWith i s c u [] ∧ (u.join m).jv = false ∧ (u.join n).mask = (c.t.join m).mask ∧
        (u.join n).jv = (c.t.join m).jv ∧ (u.join n).ja = (c.t.join m).ja ∧ (u.join n).jh = (c.t.join m).jh ∧
        (u.join n).jp = (if (c.t.join m).jp = some m then some n else (c.t.join m).jp) ∧
        (∀ i < 8, i ≠ m → i ≠ n → u.join i = { c.t.join i with jp := if (c.t.join i).jp = some m then some n else (c.t.join i).jp }) ∧
        u.arms = c.t.arms.map (fun p => { p with owe := if p.owe = some m then some n else p.owe }) ∧
        (∀ k p, c.t.path? k = some p → u.path? k = some { p with owe := if p.owe = some m then some n else p.owe }))) ∧
    (Passes 0x16 o s c → o.d = .f n →
      let j := { c.t.join n with mask := c.triple (Ctx.sn o.a) }
      let full : Prop := j.jv = true ∧ j.ja ≠ 0 ∧ j.mask &&& ~~~(j.ja ||| ~~~c.t.live) = 0
      (¬ full → CompletesWith (.jmld o) s c (c.t.setJoin n j) []) ∧
      (full → j.jr ≠ none → c.t.inTry = false → ∃ u q, CompletesWith (.jmld o) s c u [] ∧ GoesOn j (j.mask &&& c.t.live) (j.ja &&& c.t.live) q ∧
        Joins c.t q u ∧ u.lost = c.t.lost ∧ u.join n = { j with jv := false, ja := 0, jr := none } ∧ ∀ m, m ≠ n → u.join m = c.t.join m))

-- Floating-point instructions

/-- z is the exact sum of two finite values, a zero carrying the sign of R152. -/
def exactSum (rdn : Bool) (x y z : Machine.Num) : Prop :=
  z.isFin = true ∧ (∀ e, e ≤ x.ex → e ≤ y.ex → e ≤ z.ex → z.units e = x.units e + y.units e) ∧
  (z.isZero = true → (z.isNeg = true ↔ (x.isZero = true ∧ y.isZero = true ∧ x.isNeg = true ∧ y.isNeg = true) ∨
    (x.isNeg ≠ y.isNeg ∧ rdn = true)))

/-- z is the exact product of two finite values. -/
def exactProduct (x y z : Machine.Num) : Prop :=
  z.isFin = true ∧ z.isNeg = (x.isNeg != y.isNeg) ∧ ∀ e, e ≤ x.ex → ∀ e', e' ≤ y.ex → e + e' ≤ z.ex → z.units (e + e') = x.units e * y.units e'

/-- The specials of a sum (R48, R150, R152). -/
def sumSpecials (f : Fmt) (x y : Machine.Num) (w fl : Word) : Prop :=
  (x.isNan = true ∨ y.isNan = true → w = wd f.qnan ∧ fl = if x = .nan true ∨ y = .nan true then flNV else 0) ∧
  (∀ n, x = .inf n → y = .inf (!n) → w = wd f.qnan ∧ fl = flNV) ∧
  (∀ n, x = .inf n → y = .inf n ∨ y.isFin = true → w = wd (f.sign n + f.infBits) ∧ fl = 0) ∧
  (∀ n, y = .inf n → x.isFin = true → w = wd (f.sign n + f.infBits) ∧ fl = 0)

/-- p is the product of two values: exact where both are finite, and the special that IEEE 754 gives where one is not. -/
def isProduct (x y p : Machine.Num) : Prop :=
  (x.isFin = true → y.isFin = true → exactProduct x y p) ∧
  (x.isNan = true ∨ y.isNan = true → p = .nan (decide (x = .nan true ∨ y = .nan true))) ∧
  (∀ n, (x = .inf n ∧ y.isZero = true ∨ y = .inf n ∧ x.isZero = true) → p = .nan true) ∧
  (∀ n, x = .inf n → y.isNan = false → y.isZero = false → p = .inf (n != y.isNeg)) ∧
  (∀ n, y = .inf n → x.isNan = false → x.isZero = false → p = .inf (x.isNeg != n))

/-- R48, R49, R150, R152: FADD, FSUB, FMUL and FFMA compute the exact sum, difference, product and product-sum of finite sources and round it
once in the captured mode; specials as IEEE 754 has them; 0 × ∞ in FFMA is invalid whatever C is. A value that a format holds is itself
after rounding into that format, in every rounding mode, and sets no flag. -/
def Obligations.FloatArithmeticRoundsExactResultOnce : Prop :=
  (∀ (o : Opnds) (s : State) (c : Ctx),
    let f := fmtOf o.mod
    let rm := rmOf c.mode
    let X (l : Nat) : Machine.Num := c.numF f o.a l
    let Y (l : Nat) : Machine.Num := c.numF f o.b l
    let Z (l : Nat) : Machine.Num := c.numF f o.c l
    let rounded (z : Machine.Num) (w fl : Word) : Prop := w = wd (f.round rm (ftzOf c.mode) z).1 ∧ fl = (f.round rm (ftzOf c.mode) z).2
    (Passes 0x40 o s c → ∀ i ∈ [Instr.fadd32 o, Instr.fadd o], WritesF i s c (fun l w fl => sumSpecials f (X l) (Y l) w fl ∧
      ((X l).isFin = true → (Y l).isFin = true → ∃ z, exactSum (rm = 2) (X l) (Y l) z ∧ rounded z w fl))) ∧
    (Passes 0x41 o s c → ∀ i ∈ [Instr.fsub32 o, Instr.fsub o], WritesF i s c (fun l w fl => sumSpecials f (X l) (Y l).neg w fl ∧
      ((X l).isFin = true → (Y l).isFin = true → ∃ z, exactSum (rm = 2) (X l) (Y l).neg z ∧ rounded z w fl))) ∧
    (Passes 0x42 o s c → ∀ i ∈ [Instr.fmul32 o, Instr.fmul o], WritesF i s c (fun l w fl => ∃ p, isProduct (X l) (Y l) p ∧
      (p.isFin = true → rounded p w fl) ∧ (∀ b, p = .nan b → w = wd f.qnan ∧ fl = if b then flNV else 0) ∧
      (∀ n, p = .inf n → w = wd (f.sign n + f.infBits) ∧ fl = 0))) ∧
    (Passes 0x43 o s c → WritesF (.ffma o) s c (fun l w fl => (∃ p, isProduct (X l) (Y l) p ∧ sumSpecials f p (Z l) w fl ∧
        (p.isFin = true → (Z l).isFin = true → ∃ z, exactSum (rm = 2) p (Z l) z ∧ rounded z w fl)) ∧
      (∀ n, X l = .inf n ∧ (Y l).isZero = true ∨ Y l = .inf n ∧ (X l).isZero = true → w = wd f.qnan ∧ fl = flNV)))) ∧
  (∀ f ∈ [f32, f16, bf16], ∀ (rm w : Nat), w < 2 ^ (f.sb + 1) → (f.num false w).isNan = false → f.round rm false (f.num false w) = (w, 0))

/-- R146, R153 to R156: minimum and maximum, comparison, class and sign. -/
def Obligations.FloatMinMaxCompareClassAndSign : Prop :=
  ∀ (o : Opnds) (s : State) (c : Ctx),
    let f := fmtOf o.mod
    let daz := dazOf c.mode
    let A (l : Nat) : Nat := c.srcF f o.a l
    let B (l : Nat) : Nat := c.srcF f o.b l
    let choice (big : Bool) (l : Nat) (w : Word) : Prop :=
      let x := f.num daz (A l)
      let y := f.num daz (B l)
      let z := f.num daz w.toNat
      (x.isNan = true → y.isNan = true → w = wd f.qnan) ∧ (x.isNan = true → y.isNan = false → w = wd (asRead f daz (B l))) ∧
      (x.isNan = false → y.isNan = true → w = wd (asRead f daz (A l))) ∧
      (x.isNan = false → y.isNan = false → (w = wd (asRead f daz (A l)) ∨ w = wd (asRead f daz (B l))) ∧
        (if big then z.less x = false ∧ z.less y = false else x.less z = false ∧ y.less z = false) ∧
        (x.isZero = true → y.isZero = true → x.isNeg ≠ y.isNeg → z.isNeg = !big))
    (Passes 0x44 o s c → ∀ i ∈ [Instr.fmin32 o, Instr.fmin o], WritesF i s c (fun l w _ => choice false l w)) ∧
    (Passes 0x45 o s c → ∀ i ∈ [Instr.fmax32 o, Instr.fmax o], WritesF i s c (fun l w _ => choice true l w)) ∧
    (Passes 0x46 o s c → ∀ i ∈ [Instr.fcmp32 o, Instr.fcmp o],
      let g := fmtOf (o.mod / 8)
      let holds (l : Nat) : Prop :=
        let x := c.numF g o.a l
        let y := c.numF g o.b l
        let un := x.isNan = true ∨ y.isNan = true
        (o.mod % 8 = 0 ∧ ¬ un ∧ x.less y = true) ∨ (o.mod % 8 = 1 ∧ ¬ un ∧ y.less x = false) ∨ (o.mod % 8 = 2 ∧ ¬ un ∧ y.less x = true) ∨
        (o.mod % 8 = 3 ∧ ¬ un ∧ x.less y = false) ∨ (o.mod % 8 = 4 ∧ ¬ un ∧ x.less y = false ∧ y.less x = false) ∨
        (o.mod % 8 = 5 ∧ (un ∨ x.less y = true ∨ y.less x = true)) ∨ (o.mod % 8 = 6 ∧ un) ∨ (o.mod % 8 = 7 ∧ ¬ un)
      ∃ fl : Word, fl &&& ~~~flNV = 0 ∧
        (isVec o.a = true → ∃ m : Lanes, (∀ l < 96, m.getLsbD l = true ↔ c.act.getLsbD l = true ∧ holds l) ∧
          exec i s = .next (retire c (setFlags c c.s fl) (wrTriple (Ctx.sn o.d) m))) ∧
        (isVec o.a = false → ∃ w : Word, (holds 0 → w = 1) ∧ (¬ holds 0 → w = 0) ∧
          exec i s = .next (retire c (setFlags c c.s fl) [.s (Ctx.sn o.d) w]))) ∧
    (Passes 0x47 o s c → ∀ i ∈ [Instr.fclass32 o, Instr.fclass o], WritesD i s c (fun l w => ∃ n < 10, w = wd (2 ^ n) ∧
      match f.num false (A l) with
      | .inf neg => n = if neg then 0 else 7
      | .nan bad => n = if bad then 8 else 9
      | .fin neg m _ => n = if m = 0 then (if neg then 3 else 4) else if m < 2 ^ f.fb then (if neg then 2 else 5) else (if neg then 1 else 6))) ∧
    (Passes 0x48 o s c → ∀ i ∈ [Instr.fsgn32 o, Instr.fsgn o], WritesD i s c (fun l w =>
      let g := fmtOf (o.mod / 4)
      let a := BitVec.ofNat 32 (c.srcF g o.a l)
      let b := BitVec.ofNat 32 (c.srcF g o.b l)
      (∀ n < g.sb, w.getLsbD n = a.getLsbD n) ∧ (∀ n < 32, g.sb < n → w.getLsbD n = false) ∧
      w.getLsbD g.sb = (if o.mod % 4 = 0 then false else if o.mod % 4 = 1 then !a.getLsbD g.sb else if o.mod % 4 = 2 then b.getLsbD g.sb
        else a.getLsbD g.sb != b.getLsbD g.sb)))

/-- An exact positive value rounded once by RNE_FP32, given by p, which rises: it is the value at which p is v. k × 2^e is the value cut off
after at least 27 significant bits, and st says whether anything was cut off. -/
def roundsRoot (ftz neg : Bool) (p : Rat → Rat) (v : Rat) (w fl : Word) : Prop :=
  ∃ (k : Nat) (e : Int) (st : Bool), 2 ^ 26 ≤ k ∧ p (k * 2 ^ e) ≤ v ∧ v < p ((k + 1) * 2 ^ e) ∧ (st = false ↔ p (k * 2 ^ e) = v) ∧
    w = wd (f32.roundFin 0 ftz neg k e st).1 ∧ fl = (f32.roundFin 0 ftz neg k e st).2

/-- R157, R158, R160 to R162, Table 7.4: the special functions, FCVT, block floating point and compensated words. Reciprocal, square root and
reciprocal square root of a finite source round the exact value once; FEXP2 of an integer and FLOG2 of a power of two are exact. The other
finite values of FEXP2, FLOG2, FSIN and FCOS are those of the model's fixed-point series (log 12). -/
def Obligations.SpecialFunctionsConversionsAndBlocks : Prop :=
  ∀ (o : Opnds) (s : State) (c : Ctx),
    let X (l : Nat) : Machine.Num := c.numF f32 o.a l
    let nan (x : Machine.Num) (w fl : Word) : Prop := ∀ b, x = .nan b → w = wd f32.qnan ∧ fl = if b then flNV else 0
    let negative (x : Machine.Num) (w fl : Word) : Prop :=
      ((∃ m e, x = .fin true m e ∧ m ≠ 0) ∨ x = .inf true) → w = wd f32.qnan ∧ fl = flNV
    let zero (x : Machine.Num) (g : Bool → Nat × Word) (w fl : Word) : Prop := ∀ n e, x = .fin n 0 e → w = wd (g n).1 ∧ fl = (g n).2
    let inf (x : Machine.Num) (n : Bool) (g : Nat) (w fl : Word) : Prop := x = .inf n → w = wd g ∧ fl = 0
    let ftz := ftzOf c.mode
    let value (m : Nat) (e : Int) : Rat := m * 2 ^ e
    (Passes 0x49 o s c → ∀ i ∈ [Instr.frcp32 o, Instr.frcp o], WritesF i s c (fun l w fl => nan (X l) w fl ∧
      zero (X l) (fun n => (f32.sign n + f32.infBits, flDZ)) w fl ∧ (∀ n, inf (X l) n (f32.sign n) w fl) ∧
      (∀ n m e, X l = .fin n m e → m ≠ 0 → roundsRoot ftz n (fun q => q * value m e) 1 w fl))) ∧
    (Passes 0x4A o s c → ∀ i ∈ [Instr.frsq32 o, Instr.frsq o], WritesF i s c (fun l w fl => nan (X l) w fl ∧ negative (X l) w fl ∧
      zero (X l) (fun n => (f32.sign n + f32.infBits, flDZ)) w fl ∧ inf (X l) false 0 w fl ∧
      (∀ m e, X l = .fin false m e → m ≠ 0 → roundsRoot ftz false (fun q => q * q * value m e) 1 w fl))) ∧
    (Passes 0x4B o s c → ∀ i ∈ [Instr.fsqrt32 o, Instr.fsqrt o], WritesF i s c (fun l w fl => nan (X l) w fl ∧ negative (X l) w fl ∧
      zero (X l) (fun n => (f32.sign n, 0)) w fl ∧ inf (X l) false f32.infBits w fl ∧
      (∀ m e, X l = .fin false m e → m ≠ 0 → roundsRoot ftz false (fun q => q * q) (value m e) w fl))) ∧
    (Passes 0x4C o s c → ∀ i ∈ [Instr.fexp232 o, Instr.fexp2 o], WritesF i s c (fun l w fl => nan (X l) w fl ∧
      zero (X l) (fun _ => (0x3F800000, 0)) w fl ∧ inf (X l) true 0 w fl ∧ inf (X l) false f32.infBits w fl ∧
      (∀ n m e, X l = .fin n m e → w = wd (exp2Num ftz n m e).1 ∧ fl = (exp2Num ftz n m e).2) ∧
      (∀ n m e, X l = .fin n m e → ∀ k : Int, -126 ≤ k → k ≤ 127 → (if n then -value m e else value m e) = k → w = wd ((k + 127).toNat * 2 ^ 23) ∧ fl = 0))) ∧
    (Passes 0x4D o s c → ∀ i ∈ [Instr.flog232 o, Instr.flog2 o], WritesF i s c (fun l w fl => nan (X l) w fl ∧ negative (X l) w fl ∧
      zero (X l) (fun _ => (f32.sign true + f32.infBits, flDZ)) w fl ∧ inf (X l) false f32.infBits w fl ∧
      (∀ m e, X l = .fin false m e → m ≠ 0 → w = wd (log2Num ftz m e).1 ∧ fl = (log2Num ftz m e).2) ∧
      (∀ m e, X l = .fin false m e → ∀ k : Int, value m e = (2 : Rat) ^ k → fl = 0 ∧
        ∃ m' e', f32.num false w.toNat = .fin (decide (k < 0)) m' e' ∧ value m' e' = (k.natAbs : Nat)))) ∧
    (Passes 0x4E o s c → ∀ i ∈ [Instr.fsin32 o, Instr.fsin o], WritesF i s c (fun l w fl => nan (X l) w fl ∧
      zero (X l) (fun n => (f32.sign n, 0)) w fl ∧ (∀ n, X l = .inf n → w = wd f32.qnan ∧ fl = flNV) ∧
      (∀ n m e, X l = .fin n m e → w = wd (trigNum false ftz n m e).1 ∧ fl = (trigNum false ftz n m e).2))) ∧
    (Passes 0x4F o s c → ∀ i ∈ [Instr.fcos32 o, Instr.fcos o], WritesF i s c (fun l w fl => nan (X l) w fl ∧
      zero (X l) (fun _ => (0x3F800000, 0)) w fl ∧ (∀ n, X l = .inf n → w = wd f32.qnan ∧ fl = flNV) ∧
      (∀ n m e, X l = .fin n m e → w = wd (trigNum true ftz n m e).1 ∧ fl = (trigNum true ftz n m e).2))) ∧
    (Passes 0x50 o s c → WritesF (.fcvt o) s c (fun l w fl =>
      let st := o.mod % 16
      let dt := o.mod / 16
      let x := c.numF (fmtOf st) o.a l
      let into (y : Machine.Num) : Nat × Word := (fmtOf dt).round (rmOf c.mode) (ftzOf c.mode) y
      (3 ≤ st → let v := typedValue (st - 3) (c.srcA l)
        w = wd (into (.fin (decide (v < 0)) v.natAbs 0)).1 ∧ fl = (into (.fin (decide (v < 0)) v.natAbs 0)).2) ∧
      (st < 3 → dt < 3 → w = wd (into x).1 ∧ fl = (into x).2) ∧
      (st < 3 → 3 ≤ dt →
        (x.isNan = true → w = 0 ∧ fl = flNV) ∧
        (∀ n, x = .inf n → typedValue (dt - 3) w = (if n then (typeBounds (dt - 3)).1 else (typeBounds (dt - 3)).2.1) ∧ fl = flSAT) ∧
        (∀ n m e, x = .fin n m e →
          let k : Int := (quant (rmOf c.mode) n m e 0 false).1
          let v : Int := if n then -k else k
          typedValue (dt - 3) w = min (max v (typeBounds (dt - 3)).1) (typeBounds (dt - 3)).2.1 ∧
          fl = (if (quant (rmOf c.mode) n m e 0 false).2 then flNX else 0) |||
            (if v < (typeBounds (dt - 3)).1 ∨ (typeBounds (dt - 3)).2.1 < v then flSAT else 0))))) ∧
    (Passes 0x51 o s c → exec (.bxpack o) s = .next (retire c c.s
      (let block (b : Nat) := bxPack (o.mod % 2 = 1) (o.mod / 2 % 8 + 1) ((List.range 32).map (fun k =>
          if c.act.has (32 * b + k) then X (32 * b + k) else .fin false 0 0))
        let ex (b : Nat) : Word := wd ((block b).2.1 + 256 * (block b).2.2)
        c.res (fun l => wd (nth 0 (if l < 32 then (block 0).1 else if l < 64 then (block 1).1 else (block 2).1) (l % 32)))
          ++ [.s (Ctx.sn o.b) (ex 0), .s (Ctx.sn o.b + 1) (ex 1), .s (Ctx.sn o.b + 2) (ex 2)]))) ∧
    (Passes 0x52 o s c → WritesD (.bxunpk o) s c (fun l w =>
      let x := ((c.view (l / 32)).sAt (Ctx.sn o.b + l / 32)).toNat
      w = wd (f32.rne c.mode (bxNum (o.mod = 1) (c.vec o.a l).toNat (x % 2 ^ 8) (x / 2 ^ 8 % 2 ^ 8))))) ∧
    (Passes 0x53 o s c → ∀ i ∈ [Instr.cadd32 o, Instr.cadd o], WritesF i s c (fun l w fl =>
      (w, fl) = splitCb c.mode (sumNum false (cbNums (dazOf c.mode) (c.srcA l) ++ [c.numF (if o.mod = 1 then bf16 else f32) o.b l])) ∧
      fl &&& ~~~(flNV ||| flOF) = 0)) ∧
    (Passes 0x54 o s c → ∀ i ∈ [Instr.csplit32 o, Instr.csplit o], WritesF i s c (fun l w fl =>
      (w >>> 16).toNat = bf16.rne c.mode (X l) ∧ fl &&& ~~~(flNV ||| flOF) = 0 ∧
      (let v := bf16.num false (bf16.rne c.mode (X l))
       (v.isFin = false → w.toNat % 2 ^ 16 = 0) ∧
       (v.isFin = true → ∃ z, exactSum false (X l) v.neg z ∧ w.toNat % 2 ^ 16 = bf16.rne c.mode z)))) ∧
    (Passes 0x55 o s c → ∀ i ∈ [Instr.cjoin32 o, Instr.cjoin o], WritesF i s c (fun l w fl =>
      w.toNat = f32.rne c.mode (sumNum false (cbNums (dazOf c.mode) (c.srcA l))) ∧ fl &&& ~~~(flNV ||| flOF) = 0))

/-- R8, R90, R145, R149, R151, R159, R356, R409, R418, R420, R421, R422, Tables 3.2, 8.1, 18.11 and 18.12: every instruction of the mode, the flags and the
special registers completes. FSETRM sets RM, FTZ and DAZ; FGETRM reads them; FFLAG reads the flags, but for those that only instructions of the
other path not yet complete have set, which it may leave out; .CLR leaves set none but such flags, and loses none. SYSRD reads the special registers; SYSWR writes four of them, with no
effect on reserved and read-only bits, and ignores the others; STOPRD reads a staged record, EVTRD a counter, CYCLE the clocks since the
issuer's island left reset. -/
def Obligations.SpecialRegistersAreReadAndWritten : Prop :=
  ∀ (o : Opnds) (s : State) (c : Ctx),
    (Passes 0x57 o s c → ∀ i ∈ [Instr.fsetrm32 o, Instr.fsetrm o], ∃ m : Word,
      (∀ n < 32, m.getLsbD n = if n < 4 then (c.uni o.a).getLsbD n else c.t.mode.getLsbD n) ∧ CompletesWith i s c { c.t with mode := m } []) ∧
    (Passes 0x58 o s c → ∀ i ∈ [Instr.fgetrm32 o, Instr.fgetrm o], Writes i s c [.s (Ctx.sn o.d) (c.t.mode &&& 0xFF)]) ∧
    (Passes 0x59 o s c → ∀ i ∈ [Instr.fflag32 o, Instr.fflag o],
      let others (g : FlagPend → Word) (n : Nat) : Prop :=
        ∃ q, c.t.path? (1 - c.k) = some q ∧ ∃ e ∈ q.fl, (∀ d, e.due = some d → q.slot < d) ∧ (g e).getLsbD n = true
      ∃ (m : Word) (u : Stream), CompletesWith i s c u [.s (Ctx.sn o.d) (c.t.fpflags &&& ~~~m)] ∧
        (∃ f0 f1, u = { c.t with fpflags := u.fpflags, p0 := c.t.p0.map (fun p => { p with fl := f0 }), p1 := c.t.p1.map (fun p => { p with fl := f1 }) }) ∧
        (∀ n < 32, m.getLsbD n = true → others FlagPend.doubt n) ∧
        (o.mod = 0 → u.fpflags = c.t.fpflags) ∧
        (o.mod = 1 → (∀ n < 32, u.fpflags.getLsbD n = true → others FlagPend.w n) ∧
          ((∀ q, c.t.path? (1 - c.k) = some q → ∀ e ∈ q.fl, e.doubt &&& ~~~e.w = 0) →
            ∀ n < 32, c.t.fpflags.getLsbD n = true → (c.t.fpflags &&& ~~~m).getLsbD n = true ∨ u.fpflags.getLsbD n = true))) ∧
    (∀ (t : Stream) (w : Word), s.stream? c.sid = some t → ∃ f0 f1, setFlags c s w = s.setStream c.sid { t with
      fpflags := t.fpflags ||| w, p0 := t.p0.map (fun p => { p with fl := f0 }), p1 := t.p1.map (fun p => { p with fl := f1 }) }) ∧
    (let d := Ctx.sn o.d
     let x := c.part
     let v := c.uni o.a
     let one (i : Instr) (w : Word) : Prop := Writes i s c [.s d w]
     let two (w : Addr) : Prop := Writes (.sysrd o) s c (wrPair d w)
     let sys (w : Word) : Prop := one (.sysrd o) w
     let p := c.t.part
     (Passes 0xF3 o s c →
       (o.mod = 0x00 → sys c.t.mode) ∧ (o.mod = 0x01 → sys c.t.fpflags) ∧
       (c.seq = false → (o.mod = 0x02 → sys c.t.tryst) ∧ (o.mod = 0x03 → two c.t.tryaddr) ∧ (o.mod = 0x04 → Writes (.sysrd o) s c (wrTriple d c.t.abortm)) ∧
         (o.mod = 0x05 → sys c.t.xconf) ∧ (o.mod = 0x06 → sys c.t.msgst) ∧ (o.mod = 0x07 → sys c.t.step)) ∧
       (c.seq = true → (o.mod ∈ [0x02, 0x05, 0x06] → sys 0) ∧ (o.mod = 0x03 → two 0) ∧ (o.mod = 0x04 → Writes (.sysrd o) s c (wrTriple d 0)) ∧
         (o.mod = 0x07 → sys x.pstepmax)) ∧
       (o.mod = 0x20 → sys x.mto) ∧ (o.mod = 0x21 → sys x.migth) ∧ (o.mod = 0x22 → two x.domctl) ∧ (o.mod = 0x23 → two x.srbase) ∧
       (o.mod = 0x24 → two x.tvec) ∧ (o.mod = 0x25 → two (Config.ctxSize p)) ∧ (o.mod = 0x26 → two x.mboxo) ∧ (o.mod = 0x27 → two x.mboxi) ∧
       (o.mod = 0x28 → sys x.mboxst)) ∧
     (Passes 0xF4 o s c → c.unbound →
       (∃ m : Word, (∀ n < 32, m.getLsbD n = (decide (n < 4 ∨ n = 8) && v.getLsbD n)) ∧ CompletesWith (.syswrMode o) s c { c.t with mode := m } []) ∧
       (c.seq = true → Writes (.syswrXconf o) s c []) ∧
       (c.seq = false → ∃ m : Word, (∀ n < 32, m.getLsbD n = (c.t.xconf.getLsbD n && !(decide (n < 2) && v.getLsbD n))) ∧
         CompletesWith (.syswrXconf o) s c { c.t with xconf := m } []) ∧
       (c.t.hnd = none → c.t.sys = false → TrapsWith (.syswrMboxo o) s c 0x1A) ∧
       (c.t.hnd ≠ none ∨ c.t.sys = true → ∃ m : Word, (∀ n < 32, m.getLsbD n = (x.mboxst.getLsbD n || decide (n = 1))) ∧ exec (.syswrMboxo o) s =
         .next (retire c (({ s with msix := s.msix ++ [8 * p] } : State).setPart p { x with mboxo := c.pair (Ctx.sn o.a), mboxst := m }) [])) ∧
       (∃ m : Word, (∀ n < 32, m.getLsbD n = (x.mboxst.getLsbD n && !(decide (n = 0) && v.getLsbD 0))) ∧
         exec (.syswrMboxst o) s = .next (retire c (s.setPart p { x with mboxst := m }) [])) ∧
       Writes (.syswrOther o) s c []) ∧
     (Passes 0xF6 o s c → one (.stoprd o) (nth 0 (Tab.get [] x.stage (v.toNat % 16384)) ((c.uni o.b).toNat % 16))) ∧
     (Passes 0xF7 o s c → ∀ i ∈ [Instr.evtrd32 o, Instr.evtrd o],
       (v.toNat = 0 → one i (if c.seq then 0 else c.t.lost)) ∧ (v.toNat = 1 → one i x.lateReply) ∧ (v.toNat = 2 → one i x.entryRetired) ∧
       (v.toNat = 3 → one i c.clu.loss) ∧ (v.toNat = 4 → one i x.cntUnder) ∧ (v.toNat = 5 → one i x.tabUnder) ∧
       (v.toNat = 6 → one i x.ceCount) ∧ (v.toNat = 7 → one i x.halts) ∧ (v.toNat = 8 → one i s.pktDrop) ∧ (9 ≤ v.toNat → one i 0)) ∧
     (Passes 0xF8 o s c → c.sid < 12480 → ∀ i ∈ [Instr.cycle32 o, Instr.cycle o],
       Writes i s c (wrPair d (BitVec.ofNat 64 (s.clock - Tab.get 0 s.since (quadOf (clusterOf c.sid)))))))

-- Cross-lane instructions

/-- R168, R169, R172 to R174: lane exchanges read every source as it stood at issue. An index that names no usable lane gives 0, or for a
destination nothing, and sets XO; of sources that name one destination the highest wins, and the first such collision sets XC and XLANE. -/
def Obligations.LaneExchangesFollowIndices : Prop :=
  ∀ (o : Opnds) (s : State) (c : Ctx),
    let source (n : Nat) : Prop := n < 96 ∧ c.p.own.getLsbD n = true
    let dest (n : Nat) : Prop := n < 96 ∧ c.act.getLsbD n = true
    let idx (l : Nat) : Nat := (c.srcB l).toNat
    let pull (i : Instr) (bad : Prop) (R : Nat → Word → Prop) : Prop := ∃ (x : Word) (f : Nat → Word), (bad → x = c.t.xconf ||| 2) ∧
      (¬ bad → x = c.t.xconf) ∧ (∀ l < 96, R l (f l)) ∧ CompletesWith i s c { c.t with xconf := x } (c.res f)
    (Passes 0x60 o s c → ∀ i ∈ [Instr.xget32 o, Instr.xget o], pull i (∃ l, dest l ∧ ¬ source (idx l))
      (fun l w => (source (idx l) → w = c.vec o.a (idx l)) ∧ (¬ source (idx l) → w = 0))) ∧
    (Passes 0x62 o s c → ∀ i ∈ [Instr.shfl32 o, Instr.shfl o],
      let d := idx 0
      let n (l : Nat) : Int := if o.mod = 0 then (l : Int) - d else if o.mod = 1 then (l : Int) + d else (l ^^^ d : Nat)
      pull i (∃ l, dest l ∧ 0 ≤ n l ∧ n l < 96 ∧ ¬ source (n l).toNat) (fun l w =>
        (¬ (0 ≤ n l ∧ n l < 96) → w = c.vec o.a l) ∧ (0 ≤ n l → source (n l).toNat → w = c.vec o.a (n l).toNat) ∧
        (0 ≤ n l → n l < 96 → ¬ source (n l).toNat → w = 0))) ∧
    (∀ e ∈ [(0x63, Instr.bcast32 o), (0x63, Instr.bcast o), (0x6A, Instr.lread32 o), (0x6A, Instr.lread o)], Passes e.1 o s c →
      pull e.2 (¬ source (idx 0)) (fun _ w => (source (idx 0) → w = c.vec o.a (idx 0)) ∧ (¬ source (idx 0) → w = 0))) ∧
    (Passes 0x6B o s c → (dest (idx 0) → Writes (.lwrite o) s c [.v c.dReg (idx 0) (c.srcA 0)]) ∧
      (¬ dest (idx 0) → CompletesWith (.lwrite o) s c { c.t with xconf := c.t.xconf ||| 2 } [])) ∧
    (Passes 0x61 o s c → ∀ i ∈ [Instr.xput32 o, Instr.xput o], ∃ (x : Word) (ws : List Wr),
      CompletesWith i s c { c.t with xconf := x } ws ∧
      (∀ w ∈ ws, ∃ l, dest l ∧ dest (idx l) ∧ w = .v c.dReg (idx l) (c.vec o.a l)) ∧
      (∀ l, dest l → dest (idx l) → (∀ k, dest k → l < k → idx k ≠ idx l) →
        ∃ xs ys, ws = xs ++ .v c.dReg (idx l) (c.vec o.a l) :: ys ∧ ∀ y, Wr.v c.dReg (idx l) y ∉ ys) ∧
      (x.getLsbD 1 = true ↔ c.t.xconf.getLsbD 1 = true ∨ ∃ l, dest l ∧ ¬ dest (idx l)) ∧
      (x.getLsbD 0 = true ↔ c.t.xconf.getLsbD 0 = true ∨ ∃ l k, dest l ∧ dest k ∧ l ≠ k ∧ idx l = idx k ∧ dest (idx l)) ∧
      (c.t.xconf.getLsbD 0 = false → x.getLsbD 0 = true → ∃ l k, dest l ∧ dest k ∧ k < l ∧ idx l = idx k ∧
        (x.extractLsb' 8 8).toNat = idx l ∧ ∀ l' k', dest l' → dest k' → k' < l' → idx l' = idx k' → dest (idx l') → l ≤ l'))

/-- The integer operations of Table 8.3 with their identities. -/
def foldOp (n : Nat) (a b : Word) : Word :=
  match n with
  | 0 => a + b
  | 1 => if b.toInt < a.toInt then b else a
  | 2 => if a.toInt < b.toInt then b else a
  | 3 => if b.toNat < a.toNat then b else a
  | 4 => if a.toNat < b.toNat then b else a
  | 5 => a &&& b
  | 6 => a ||| b
  | _ => a ^^^ b

/-- The identity of an operation of Table 8.3. -/
def reduceId (n : Nat) : Word :=
  nth 0 [0x00000000, 0x7FFFFFFF, 0x80000000, 0xFFFFFFFF, 0x00000000, 0xFFFFFFFF, 0x00000000, 0x00000000, 0x00000000, 0x7F800000, 0xFF800000] n

/-- R175 to R178, Table 8.3: reductions and scans in lane order, compaction, expansion, matching and the lane number. The float operations
are stated for no active lane and for one; with more, `redOp` of the model folds them lane by lane. -/
def Obligations.ReductionsScansAndMatching : Prop :=
  ∀ (o : Opnds) (s : State) (c : Ctx),
    let fold (ls : List Nat) : Word := ls.foldl (fun a l => foldOp (o.mod % 16) a (c.vec o.a l)) (reduceId (o.mod % 16))
    let same (l : Nat) : List Nat := c.act.list.filter (fun m => c.vec o.a m = c.vec o.a l)
    let sel : List Nat := c.act.list.filter (fun l => (c.triple (Ctx.sn o.b)).getLsbD l)
    (Passes 0x64 o s c → ∀ i ∈ [Instr.red32 o, Instr.red o], ∃ fl w, exec i s = .next (retire c (setFlags c c.s fl) (c.res (fun _ => w))) ∧
      (o.mod % 16 < 8 → fl = 0 ∧ w = fold c.act.list) ∧ (c.act = 0 → fl = 0 ∧ w = reduceId (o.mod % 16)) ∧
      (∀ l, c.act.list = [l] → 8 ≤ o.mod % 16 → (f32.num (dazOf c.mode) (c.vec o.a l).toNat).isZero = false →
        (f32.num false (c.vec o.a l).toNat).isNan = false → fl = 0 ∧ w = c.vec o.a l)) ∧
    (Passes 0x65 o s c → ∀ i ∈ [Instr.scan32 o, Instr.scan o], ∃ fl f, exec i s = .next (retire c (setFlags c c.s fl) (c.res f)) ∧
      (o.mod % 16 < 8 → fl = 0 ∧ ∀ l ∈ c.act.list,
        f l = if o.mod < 16 then fold (c.act.list.filter (fun k => k ≤ l)) else fold (c.act.list.filter (fun k => k < l)))) ∧
    (Passes 0x66 o s c → ∀ i ∈ [Instr.compact32 o, Instr.compact o],
      Writes i s c ((c.act.list.zip sel).map (fun p => .v c.dReg p.1 (c.vec o.a p.2)))) ∧
    (Passes 0x67 o s c → ∀ i ∈ [Instr.expand32 o, Instr.expand o],
      Writes i s c ((sel.zip c.act.list).map (fun p => .v c.dReg p.1 (c.vec o.a p.2)))) ∧
    (Passes 0x68 o s c → ∀ i ∈ [Instr.matchLanes32 o, Instr.matchLanes o], ∃ f : Nat → Word, Writes i s c (c.res f) ∧ ∀ l ∈ c.act.list,
      (o.mod = 0 → (f l).toNat ∈ same l ∧ ∀ m ∈ same l, (f l).toNat ≤ m) ∧
      (o.mod = 1 → (f l).toNat = ((same l).filter (fun m => m < l)).length) ∧ (o.mod = 2 → (f l).toNat = (same l).length)) ∧
    (Passes 0x69 o s c → ∀ i ∈ [Instr.vidx32 o, Instr.vidx o], WritesD i s c (fun l w => w.toNat = l))

-- Memory access

/-- R181, R184, R187, R199: the checks of one access. An address above bit 47 faults NON_CANON; an aperture address outside the window
APER_RANGE, else it lies in the window of the issuer's team; a page without the permission PROT, with another EXT EXT_MODE, outside the
memories PA_RANGE, in SCM for a plain store SCM_WRITE; a misaligned access faults ALIGN unless a check before it fails. -/
def Obligations.AccessChecksComeInTheirOrder : Prop :=
  (∀ (s : State) (w : Who) (acc : Acc) (va : Nat) (l : Leaf),
    let fault (code : Nat) (r : Except Flt Leaf) : Prop := ∃ rank, r = .error ⟨rank, code, BitVec.ofNat 64 va⟩
    let ptePerm : Prop := (acc.rd = true → l.pte.testBit 60 = true) ∧ (acc.wr = true → l.pte.testBit 61 = true) ∧
      (acc.ex = true → l.pte.testBit 62 = true)
    (va < 2 ^ 64 → 2 ^ 48 ≤ va → fault 0x10 (probe s w acc va)) ∧
    (va / 2 ^ 32 = 0xFFFF → w.wsize * 65536 ≤ va % 2 ^ 32 → fault 0x19 (probe s w acc va)) ∧
    (va / 2 ^ 32 = 0xFFFF → va % 2 ^ 32 < w.wsize * 65536 → (acc = Acc.read ∨ acc = Acc.write ∨ acc = Acc.atomic true ∨ acc = Acc.atomic false) →
      ∃ x, probe s w acc va = .ok x ∧ x.spa = 4 * 2 ^ 40 + w.die * 2 ^ 30 + w.wbase * 65536 + va % 2 ^ 32) ∧
    (va < 2 ^ 48 → va / 2 ^ 32 ≠ 0xFFFF →
      (∀ e, lookup s w.part va = .error e → fault e (probe s w acc va)) ∧
      (lookup s w.part va = .ok l →
        (¬ ptePerm → fault 0x12 (probe s w acc va)) ∧
        (ptePerm → acc.ext = some false → l.pte.testBit 63 = true → fault 0x15 (probe s w acc va)) ∧
        (ptePerm → acc.ext = some false → l.pte.testBit 63 = false →
          (regionOf l.spa = .hole → fault 0x16 (probe s w acc va)) ∧
          (regionOf l.spa = .scm → acc = Acc.write → fault 0x17 (probe s w acc va)) ∧
          (regionOf l.spa = .hbm ∨ regionOf l.spa = .cistern → acc = Acc.read ∨ acc = Acc.write → probe s w acc va = .ok l) ∧
          (regionOf l.spa = .scm → acc = Acc.read → probe s w acc va = .ok l))))) ∧
  (∀ (s : State) (w : Who) (acc : Acc) (va n : Nat), 0 < n → va % 4096 + n ≤ 4096 →
    (∀ l, probe s w acc va = .ok l → (va % n = 0 → access s w acc va n n = .ok l.spa) ∧
      (va % n ≠ 0 → ∃ rank, access s w acc va n n = .error ⟨rank, 0x14, BitVec.ofNat 64 va⟩)) ∧
    (∀ f, probe s w acc va = .error f → f.rank < 7 ∨ va % n = 0 → access s w acc va n n = .error f)) ∧
  (∀ (s : State) (w : Who) (acc : Acc) (n al : Nat) (lanes : List (Nat × Nat)),
    (∀ as, checkLanes s w acc n al lanes = .ok as ↔ as.map (fun a => (a.1, a.2.1)) = lanes ∧ ∀ a ∈ as, access s w acc a.2.1 n al = .ok a.2.2) ∧
    (∀ f, checkLanes s w acc n al lanes = .error f ↔ ∃ pre l va post, lanes = pre ++ (l, va) :: post ∧ access s w acc va n al = .error f ∧
      ∀ x ∈ pre, ∃ a, access s w acc x.2 n al = .ok a))

/-- Nothing holds an access of the issuer back, and its granules find free entries. -/
def accessReady (c : Ctx) (kind : ReqKind) (ps : List Piece) : Prop :=
  c.unbound ∧ c.t.inTry = false ∧ c.t.acq = [] ∧ loadsOut c.s c.sid = false ∧ c.t.outst = 0 ∧ c.othersOut = false ∧ (kind = .load ∨ c.s.drains = []) ∧
  (∀ e ∈ c.s.ott, ∀ x, e.2 = some x → x.loop = none) ∧ (c.s.part c.t.part).blocks = [] ∧ freeEntries c.s (tblOf c.sid) (byGranule ps).length ≠ none

/-- The instruction completes with requests of these pieces sent, one for each granule; of the state only the requests, the packets of those
that cross to the other die, the table entries, the issuing stream's counts and marks of other courses' regions differ before its end. -/
def Sends (i : Instr) (s : State) (c : Ctx) (kind : ReqKind) (ps : List Piece) : Prop :=
  ∃ (s2 : State) (rs : List Req), exec i s = .next (retire c s2 []) ∧
    s2 = { s with reqs := s.reqs ++ rs, ott := s2.ott, streams := s2.streams, wire := s2.wire } ∧
    s2.wire = s.wire ++ rs.flatMap (fun r => if r.crosses then r.pkts else []) ∧
    (rs.flatMap (fun r => r.pieces)).Perm ps ∧ rs.length = (byGranule ps).length ∧
    (∀ r ∈ rs, r.done = false ∧ r.live = true ∧ r.part = c.t.part ∧ r.cluster = c.cl ∧ ∃ g, ∀ p ∈ r.pieces, p.spa / 256 = g) ∧
    (∀ r ∈ rs, ∃ e, Tab.get none s2.ott (entKey r.tag.tbl r.tag.ent) = some e ∧ e.sid = c.sid ∧ e.kind = kind ∧ e.pieces = r.pieces ∧ e.pc = c.pc ∧
      e.issued = s.clock ∧ e.limit = timeoutOf s c.t.part) ∧
    ∃ u, s2.stream? c.sid = some u ∧ u = { c.t with outst := u.outst, acq := u.acq } ∧
      u.outst = (if counts kind then rs.length else 0) ∧
      u.acq = if c.ordered = true ∧ kind ≠ .store then rs.map (fun r => r.tag) else []

/-- R181, R192, R193, R196 to R198, R200, R203, R204, R464: a memory instruction outside a region, whose lanes all pass the checks, completes
by sending one piece for each active lane, or one for a uniform access, gathered by granule; memory does not change before a home port
performs them. A load takes with it the bytes of its cluster's committed sectors that are in the drain stage (R246, R457). Table 9.7: a small
immediate of CADD is a number of FP32. -/
def Obligations.MemoryInstructionsSendTheirLanes : Prop :=
  ∀ (o : Opnds) (s : State) (c : Ctx) (as : List LaneAcc),
    let ty := o.mod % 16
    let send (e : Nat × Instr) (kind : ReqKind) (acc : Acc) (lanes : List (Nat × Nat)) (n : Nat) (op : Nat → MemOp) (dst : Nat → Dst) : Prop :=
      let ps : List Piece := as.map (fun a => ⟨a.1, a.2.1, a.2.2, op a.1, dst a.1, if kind = .load then committed s c.cl a.2.2 n else []⟩)
      Passes e.1 o s c → checkLanes c.s c.who acc n n lanes = .ok as → accessReady c kind ps → Sends e.2 s c kind ps
    let lanes := c.act.list.map (fun l => (l, c.va l))
    let one := [(c.uniLane, c.va 0)]
    let regs := if o.mod % 4 = 1 then 2 else 4
    let addend (l : Nat) : Word := if ty = 9 then wd (c.srcF f32 o.c l) else c.srcC l
    send (0x70, .ld o) .load Acc.read lanes (typeSize ty) (fun _ => .read (typeSize ty)) (fun l => .v c.dReg l ty) ∧
    send (0x71, .st o) .store Acc.write lanes (typeSize ty) (fun l => .write (bytesOf (c.vec o.d l).toNat (typeSize ty))) (fun _ => .none) ∧
    (∀ i ∈ [Instr.lds32 o, Instr.lds o], send (0x72, i) .load Acc.read one (typeSize ty) (fun _ => .read (typeSize ty))
      (fun _ => if ty = 9 then .sp (Ctx.sn o.d) else .s (Ctx.sn o.d) ty)) ∧
    (∀ i ∈ [Instr.sts32 o, Instr.sts o], send (0x73, i) .store Acc.write one (typeSize ty) (fun _ => .write (if ty = 9 then
      bytesOf (c.pair (Ctx.sn o.d)).toNat 8 else bytesOf (c.uni o.d).toNat (typeSize ty))) (fun _ => .none)) ∧
    send (0x74, .ldb o) .load Acc.read lanes (4 * regs) (fun _ => .read (4 * regs)) (fun l => .vs c.dReg l regs 0) ∧
    send (0x75, .stb o) .store Acc.write lanes (4 * regs) (fun l => .write ((List.range regs).flatMap (fun k =>
      bytesOf ((c.view (l / 32)).vAt (c.dReg + k) l).toNat 4))) (fun _ => .none) ∧
    send (0x77, .atom o) .atomic (Acc.atomic (ty = 0 ∨ ty = 8)) lanes 4 (fun l => .atom ty (addend l) c.mode) c.atomDst ∧
    send (0x78, .atoms o) .atomic (Acc.atomic (ty = 0 ∨ ty = 8)) one 4 (fun _ => .atom ty (addend 0) c.mode) c.atomDst ∧
    send (0x79, .cas o) .atomic (Acc.atomic true) lanes 4 (fun l => .cas (c.vec o.d l) (c.srcC l)) c.atomDst ∧
    (o.mod % 2 = 0 → send (0x7A, .cass o) .atomic (Acc.atomic true) one 4 (fun _ => .cas (c.uni o.d) (c.srcC 0)) c.atomDst) ∧
    (o.mod % 2 = 1 → send (0x7A, .cass o) .atomic (Acc.atomic true) one 8 (fun _ => .cas64 (c.pair (Ctx.sn o.d)) (c.pair (Ctx.sn o.c)))
      (fun _ => .sp (Ctx.sn o.d))) ∧
    send (0x7F, .stz o) .store Acc.write one 256 (fun _ => .write (List.replicate 256 0)) (fun _ => .none) ∧
    (∀ e ∈ [(0x70, Instr.ld o), (0x71, .st o), (0x72, .lds o), (0x73, .sts o), (0x77, .atom o), (0x79, .cas o), (0x7F, .stz o)],
      Passes e.1 o s c → c.t.acq ≠ [] → exec e.2 s = .next s) ∧
    (∀ f, Passes 0x70 o s c → c.t.acq = [] → (c.s.part c.t.part).blocks = [] → checkLanes c.s c.who Acc.read (typeSize ty) (typeSize ty) lanes = .error f →
      exec (.ld o) s = .next (takeTrap s c.sid c.k f.code f.addr 0)) ∧
    (∀ f, Passes 0x71 o s c → c.t.acq = [] → c.ordered = false → (c.s.part c.t.part).blocks = [] → checkLanes c.s c.who Acc.write (typeSize ty) (typeSize ty) lanes = .error f →
      exec (.st o) s = .next (takeTrap s c.sid c.k f.code f.addr 0))

/-- The word that an atomic stores (Table 9.7). -/
def atomResult (op : Nat) (mode old x : Word) : Word :=
  if op < 8 then foldOp op old x else if op = 8 then x
  else (splitCb mode (sumNum false (cbNums (dazOf mode) old ++ [f32.num (dazOf mode) x.toNat]))).1

/-- R3, R196, R197, R208, Table 9.7: a piece performed at its memory. A read gives the bytes and changes nothing; a write changes exactly its
bytes; an atomic gives the old value and stores its result in the same act, unless its granule holds an uncorrectable error. -/
def Obligations.PerformingAPieceTouchesItsBytesOnly : Prop :=
  ∀ (s s1 : State) (p : Piece) (d : List Byte) (u : Bool), performPiece s p = (s1, d, u) →
    s1 = { s with mem := s1.mem } ∧ (∀ a, a < p.spa ∨ p.spa + p.size ≤ a → s1.byteAt a = s.byteAt a) ∧
    (∀ n, p.op = .read n → s1 = s ∧ d = (List.range n).map (fun i => s.byteAt (p.spa + i)) ∧ u = ueAt s p.spa n) ∧
    (∀ bs, p.op = .write bs → u = false ∧ ∀ i, i < bs.length → s1.byteAt (p.spa + i) = nth 0 bs i) ∧
    (∀ op x mode, p.op = .atom op x mode → d = s.readMem p.spa 4 ∧ u = ueAt s p.spa 4 ∧ (u = true → s1 = s) ∧
      (u = false → s1.readMem p.spa 4 = bytesOf (atomResult op mode (wd (ofBytes d)) x).toNat 4)) ∧
    (∀ e x, p.op = .cas e x → d = s.readMem p.spa 4 ∧ u = ueAt s p.spa 4 ∧ (u = true → s1 = s) ∧
      (u = false → s1.readMem p.spa 4 = if wd (ofBytes d) = e then bytesOf x.toNat 4 else d)) ∧
    (∀ e x, p.op = .cas64 e x → d = s.readMem p.spa 8 ∧ u = ueAt s p.spa 8 ∧ (u = true → s1 = s) ∧
      (u = false → s1.readMem p.spa 8 = if BitVec.ofNat 64 (ofBytes d) = e then bytesOf x.toNat 8 else d))

/-- The word that a load writes from its bytes (Table 9.5). -/
def loadedWord (ty : Nat) (bs : List Byte) (w : Word) : Prop :=
  (ty ∈ [1, 2, 7] → w.toNat = leAt bs 0 2) ∧ (ty = 6 → w.toNat = leAt bs 0 1) ∧ (ty = 3 → w.toInt = (BitVec.ofNat 8 (leAt bs 0 1)).toInt) ∧
  (ty = 4 → w.toInt = (BitVec.ofNat 16 (leAt bs 0 2)).toInt) ∧ (ty ∉ [1, 2, 3, 4, 6, 7] → w = BitVec.ofNat 32 (leAt bs 0 4))

/-- R203, R206, R213, R461, R464, Table 9.5: requests of one cluster to one home port are performed in their order, but for those of one
instruction; a read of a location in no race returns what stands there (R219, log 18); a reply frees its entry and writes its register, an
acknowledgement frees its entry and is counted off; an answer of another generation is only counted; a request times out no earlier than
the timeout that held at its issue, and then its entry is freed with its generation advanced and TIMEOUT is raised. -/
def Obligations.RequestsPerformInOrderAndAreAnswered : Prop :=
  (∀ (s : State) (k j : Nat) (r x : Req), s.reqs[k]? = some r → s.reqs[j]? = some x → j < k → x.done = false → x.live = true →
    x.cluster = r.cluster → x.home = r.home → (x.ins = 0 ∨ x.ins ≠ r.ins) → performReq s k = s) ∧
  (∀ (s : State) (k n : Nat) (r : Req) (p : Piece), s.reqs[k]? = some r → r.pieces = [p] → p.op = .read n → mayPerform s.reqs k = true →
    homeUp s p.spa = true → inRace s r.know r.taint r.sid p.spa n = false →
      (performReq s k).reqs[k]? = some { r with done := true, data := [s.readMem p.spa n], ue := ueAt s p.spa n }) ∧
  (∀ (s : State) (tbl ent gen k : Nat) (e : Entry) (r : Req) (t : Stream), Tab.get none s.ott (entKey tbl ent) = some e →
    s.stream? e.sid = some t → e.gone = false → t.hnd = none →
    (reqOf s ⟨tbl, ent, gen⟩ = some k → s.reqs[k]? = some r → r.done = true → r.ue = false → (genOf s tbl ent).1 = gen →
      (∀ p bs data, e.kind = .load ∨ e.kind = .atomic → e.drop = false → e.q = [] → e.pieces = [p] → r.data = [bs] → p.fix = [] →
        ∃ s' u, exec (.replyArrival tbl ent gen data) s = .next s' ∧ s'.mem = s.mem ∧ Tab.get none s'.ott (entKey tbl ent) = none ∧
          s'.reqs = dropNth s.reqs k ∧ s'.stream? e.sid = some u ∧ u.outst = t.outst - (if e.kind = .atomic then 1 else 0) ∧
          u.acq = t.acq.filter (fun x => x ≠ ⟨tbl, ent, gen⟩) ∧
          (∀ q l ty, p.dst = .v q l ty → l < 96 → loadedWord ty bs (u.vAt q l) ∧
            ∀ q' l', l' < 96 → (q' ≠ q ∨ l' ≠ l) → u.vAt q' l' = t.vAt q' l') ∧
          (∀ n ty, p.dst = .s n ty → 0 < n → n < 61 → loadedWord ty bs (u.sAt n) ∧ ∀ n', n' ≠ n → u.sAt n' = t.sAt n') ∧
          (∀ n, p.dst = .sp n → 0 < n → n < 60 → (u.pairAt n).toNat = leAt bs 0 4 + 2 ^ 32 * leAt bs 4 4)) ∧
      (tbl < 960 → e.kind = .store → ∃ s' u, exec (.storeAck tbl ent gen) s = .next s' ∧ s'.mem = s.mem ∧ Tab.get none s'.ott (entKey tbl ent) = none ∧
        s'.reqs = dropNth s.reqs k ∧ s'.drains = s.drains.filter (fun d => d.tag ≠ some ⟨tbl, ent, gen⟩) ∧ (e.q = [] → e.pieces.all (fun p => p.dst = .none) = true → s'.stream? e.sid = some u ∧
          u = { t with outst := t.outst - 1, acq := u.acq }))) ∧
    (tbl < 960 → (genOf s tbl ent).1 ≠ gen → reqOf s ⟨tbl, ent, gen⟩ = none → s.fout = [] → ∀ data, ∃ p,
      exec (.replyArrival tbl ent gen data) s = .next (s.setPart p { s.part p with lateReply := (s.part p).lateReply + 1 }) ∧
      exec (.storeAck tbl ent gen) s = .next (s.setPart p { s.part p with lateReply := (s.part p).lateReply + 1 })) ∧
    (tbl < 960 → s.clock < e.issued + e.limit → exec (.requestTimeout tbl ent) s = .next s) ∧
    (tbl < 960 → e.issued + e.limit ≤ s.clock → t.part = e.part → e.inHnd = false → e.inTry = false → (s.part e.part).wdreset = none →
      (∀ r ∈ s.pwait, r.op.isSome = true → r.tag ≠ some ⟨tbl, ent, (genOf s tbl ent).1⟩) →
      ∃ s', exec (.requestTimeout tbl ent) s = .next s' ∧ Tab.get none s'.ott (entKey tbl ent) = none ∧
        genOf s' tbl ent = (((genOf s tbl ent).1 + 1) % 16, (genOf s tbl ent).2 + 1) ∧ (s'.part e.part).halted = true ∧
        ∃ ev ∈ (s'.part e.part).events, ev.cause = 0x1B ∧ ev.pc = e.pc))

/-- One element's step of R164 on bit patterns: the new weight and both moments. -/
def updStep (adam : Bool) (mode : Word) (r : UpdRec) (w g m v : Nat) : Nat × Nat × Nat :=
  let R (x : Machine.Num) : Nat := f32.rne mode x
  let N (x : Nat) : Machine.Num := f32.num false x
  let mul (a b : Nat) : Nat := R (mulNum (N a) (N b))
  let add (a b : Nat) : Nat := R (sumNum false [N a, N b])
  let sub (a b : Nat) : Nat := R (sumNum false [N a, (N b).neg])
  let source (x : Nat) : Nat := asRead f32 (dazOf mode) x
  let lr := source r.lr
  let b1 := source r.b1
  let b2 := source r.b2
  let k := source r.wdk
  let w := source w
  let g := source g
  if adam then
    let m := add (mul b1 (source m)) (mul (sub 0x3F800000 b1) g)
    let v := add (mul b2 (source v)) (mul (sub 0x3F800000 b2) (mul g g))
    let den := add (updSqrt mode (mul v (source r.bc2))) (source r.eps)
    (sub w (mul lr (add (updDiv mode (mul m (source r.bc1)) den) (mul k w))), m, v)
  else
    let g1 := add g (mul k w)
    let m := add (mul b1 (source m)) g1
    (sub w (mul lr (if r.mb ≠ 0 then m else g1)), m, v)

/-- R163, R165, R181, R194, R200 to R202, Table 9.8: PREF does nothing; PINV and PWB trap PRIV outside system launches and VA_RANGE at an address
above bit 47 (PRIV first: log 66), leave aperture addresses alone, and else drop the buffered translations of a page with its block, or block it; XLT writes its pair and never faults; STASH and UPDM
complete once what they read at issue, their elements' checks and their entries allow it: STASH leaves in the drain stage the sectors that
hold each element at its plain and its transposed place, UPDM sends stores of the new weight and moments of every lane's element; memory
changes at the home ports. What the model chooses: PINV.ALL lifts every block (log 74); a bad field of a STASH descriptor faults at the
descriptor's own address (log 32); XLT of an address above bit 47 shows the leaf of its low bits (log 72). -/
def Obligations.TranslationStashAndUpdateInstructions : Prop :=
  ∀ (o : Opnds) (s : State) (c : Ctx),
    let va := c.va 0
    let pt := s.part c.t.part
    (Passes 0x7B o s c → Writes (.pref o) s c []) ∧
    (Passes 0x7C o s c → (c.t.sys = false → TrapsWith (.pinv o) s c 0x1A) ∧
      (c.t.sys = true → c.unbound → o.mod = 1 →
        exec (.pinv o) s = .next (retire c (s.setPart c.t.part { pt with tlb := [], blocks := [] }) [])) ∧
      (c.t.sys = true → o.mod ≠ 1 → 2 ^ 48 ≤ va → exec (.pinv o) s = .next (takeTrap s c.sid c.k 0x10 (BitVec.ofNat 64 va) 0)) ∧
      (c.t.sys = true → o.mod ≠ 1 → va / 2 ^ 32 = 0xFFFF → Writes (.pinv o) s c []) ∧
      (c.t.sys = true → c.unbound → o.mod ≠ 1 → va < 2 ^ 48 → va / 2 ^ 32 ≠ 0xFFFF → ∃ x, exec (.pinv o) s = .next (retire c (s.setPart c.t.part x) []) ∧
        x = { pt with tlb := x.tlb, blocks := x.blocks } ∧
        (∀ e, e ∈ x.tlb ↔ e ∈ pt.tlb ∧ ∀ n < 64, e.1 ≠ tlbKey va n) ∧
        (∀ b, b ∈ x.blocks ↔ b ∈ pt.blocks ∧ ¬ (b.1 ≤ va ∧ va < b.1 + 2 ^ b.2)))) ∧
    (Passes 0x7D o s c → (c.t.sys = false → TrapsWith (.pwb o) s c 0x1A) ∧
      (c.t.sys = true → 2 ^ 48 ≤ va → exec (.pwb o) s = .next (takeTrap s c.sid c.k 0x10 (BitVec.ofNat 64 va) 0)) ∧
      (c.t.sys = true → va / 2 ^ 32 = 0xFFFF → Writes (.pwb o) s c []) ∧
      (c.t.sys = true → c.unbound → va < 2 ^ 48 → va / 2 ^ 32 ≠ 0xFFFF → c.p.wait = none →
        let b := pageOf s c.t.part va
        let s1 := s.setPart c.t.part { pt with blocks := b :: pt.blocks }
        (16 ≤ pt.blocks.length → exec (.pwb o) s = .next s) ∧
        (pt.blocks.length < 16 → pageBusy s1 c.t.part b = false → exec (.pwb o) s = .next (retire c s1 [])))) ∧
    (Passes 0x7E o s c → c.unbound → blocked s c.t.part va 1 = false → ∃ x : Addr,
      exec (.xlt o) s = .next (retire c s (wrPair (Ctx.sn o.d) x)) ∧
      let acc := if o.mod = 1 then Acc.write else Acc.read
      (∀ l, probe s c.who acc va = .ok l → x.getLsbD 0 = true ∧ x.toNat / 2 ^ 12 % 2 ^ 36 = l.spa / 2 ^ 12 % 2 ^ 36) ∧
      (∀ f, probe s c.who acc va = .error f → x.getLsbD 0 = false ∧ x.toNat / 2 % 2 ^ 7 = f.code % 2 ^ 7)) ∧
    (Passes 0x76 o s c → c.unbound → ∀ bs, readAtIssue c va 32 32 = .ok bs →
      (stashOk (stashDesc bs) = false → exec (.stash o) s = .next (takeTrap s c.sid c.k 0x14 (BitVec.ofNat 64 va) 0)) ∧
      (stashOk (stashDesc bs) = true → c.dReg + (stashDesc bs).ncol ≤ c.t.alloc → c.t.vp = [] → c.t.hwue = [] → s.ott = [] → s.ottGen = [] → s.drains = [] →
        pt.blocks = [] → s.gated = [] → pt.migring = 0 →
        let d := stashDesc bs
        let w := if d.fmt = 1 then 2 else 4
        let value (l j : Nat) : List Byte := bytesOf ((c.view (l / 32)).vAt (c.dReg + j) l).toNat w
        let plain (l j : Nat) : Nat := (d.pb + (d.row0 + l) * d.pp + j * w) % 2 ^ 64
        let turned (l j : Nat) : Nat := (d.tb + j * d.tp + (d.row0 + l) * w) % 2 ^ 64
        let els : List (Nat × List Byte) := c.act.list.flatMap (fun l => (List.range d.ncol).map (fun j => (plain l j, value l j))) ++
          c.act.list.flatMap (fun l => (List.range d.ncol).map (fun j => (turned l j, value l j)))
        (∀ e ∈ els, ∃ a, access s c.who Acc.write e.1 w 1 = .ok a) →
        ∃ s2, exec (.stash o) s = .next (retire c s2 []) ∧ s2 = { s with
            reqs := s2.reqs, ott := s2.ott, drains := s2.drains, streams := s2.streams, parts := s2.parts, acc := s2.acc, wire := s2.wire } ∧
          (∀ x ∈ s2.drains, x.sid = c.sid ∧ x.cluster = c.cl ∧ x.gone = false ∧ x.addr % 32 = 0) ∧
          (∀ a b, (∃ x ∈ s2.drains, x.addr ≤ a ∧ a < x.addr + 32 ∧ Tab.get none x.bytes (a - x.addr) = some b) ↔
            ∃ pre e post p i, els = pre ++ e :: post ∧ access s c.who Acc.write e.1 w 1 = .ok p ∧ i < w ∧ a = p + i ∧ b = nth 0 e.2 i ∧
              ∀ y ∈ post, ∀ q, access s c.who Acc.write y.1 w 1 = .ok q → ¬ (q ≤ a ∧ a < q + w)) ∧
          ∃ u, s2.stream? c.sid = some u ∧ u = { c.t with outst := c.t.outst + s2.drains.length })) ∧
    (Passes 0x56 o s c → c.unbound → ∀ bs els, let adam := decide (o.mod = 1)
      readAtIssue c (c.pair (Ctx.sn o.a)).toNat 64 64 = .ok bs → updLanes c adam (updRec bs) c.act.list = .ok els →
      pt.blocks = [] → s.gated = [] → pt.migring = 0 → s.reqs = [] → s.drains = [] → s.ue = [] → s.ott = [] → s.ottGen = [] → s.pwait = [] → s.pq = [] →
      c.act.list.length ≤ 16 → ∃ s2, exec (.updm o) s = .next (retire c s2 []) ∧ s2 = { s with
          reqs := s2.reqs, ott := s2.ott, pwait := s2.pwait, streams := s2.streams, parts := s2.parts, acc := s2.acc, wire := s2.wire } ∧
        (els.Pairwise (fun a b => meet a.spa a.n b.spa b.n = false) → (∀ e ∈ els, regionOf e.spa ≠ .scm) →
          let rec_ := updRec bs
          let old (l k : Nat) : Nat := ((els.find? (fun e => e.lane = l && e.plane = k)).map (fun e => ofBytes (s.readMem e.spa e.n))).getD 0
          let weight (l : Nat) : Nat := old l 0 * 2 ^ 16 + old l 1
          let new (e : UpdEl) : Nat :=
            let y := updStep adam c.mode rec_ (weight e.lane) (c.vec o.d e.lane).toNat (old e.lane 2) (old e.lane 3)
            if e.plane = 0 then y.1 / 2 ^ 16 else if e.plane = 1 then y.1 % 2 ^ 16 else if e.plane = 2 then y.2.1 else y.2.2
          (s2.reqs.flatMap (fun r => r.pieces)).Perm (els.map (fun e => ⟨e.lane, e.va, e.spa, .write (bytesOf (new e) e.n), .none, []⟩))))

-- Fences and barriers

/-- R223 to R225: a fence completes when no store, and no load, of its classes is outstanding, and else waits; OUTRD reads the counter. -/
def Obligations.FencesWaitForTheirClasses : Prop :=
  ∀ (o : Opnds) (s : State) (c : Ctx),
    (Passes 0x80 o s c →
      ((o.mod % 4 ≠ 1 → c.t.outst = 0) → (o.mod % 4 ≠ 2 → loadsOut c.s c.sid = false) → Writes (.fence o) s c []) ∧
      (o.mod % 4 ≠ 1 → c.t.outst ≠ 0 → exec (.fence o) s = .next s) ∧
      (o.mod % 4 ≠ 2 → loadsOut c.s c.sid = true → exec (.fence o) s = .next s)) ∧
    (Passes 0x81 o s c → ((∀ n < 6, (Ctx.fn o.d).testBit n = true → classBusy c n = false) → Writes (.fenceX o) s c []) ∧
      (∀ n < 6, (Ctx.fn o.d).testBit n = true → classBusy c n = true → exec (.fenceX o) s = .next s)) ∧
    (Passes 0x82 o s c → ∀ i ∈ [Instr.outrd32 o, Instr.outrd o], Writes i s c [.s (Ctx.sn o.d) (BitVec.ofNat 32 c.t.outst)])

/-- R226, R227: team barriers. An arrival that completes the expected count clears it and flips the phase; BAR waits for the flip in place,
BARA writes the phase before, BARW waits while the phase is still the one it names, BARI sets the count expected while no arrival stands, BARQ reads;
ids above 7 trap BAR_ID, and BAR and BARA of a divided course BAR_DIV. What an arrival comes after, a release of the barrier comes after too
(R216, log 63). -/
def Obligations.BarriersCountArrivalsAndFlipPhase : Prop :=
  ∀ (o : Opnds) (s : State) (c : Ctx) (tm : Team), c.unbound → s.team? c.t.team = some tm →
    let n := (c.uni o.a).toNat
    let b := Tab.get ⟨tm.ncourses, 0, 0, [], []⟩ tm.bars n
    let put (x : Bar) : State := s.setTeam c.t.team (some { tm with bars := Tab.set ⟨tm.ncourses, 0, 0, [], []⟩ tm.bars n x })
    let before : Tab Nat := joinClk b.arr (knowNow s c.sid c.t)
    let arrived : Bar := if b.cnt + 1 = b.exp then { b with cnt := 0, ph := b.ph + 1, arr := [], rel := joinClk b.rel before }
      else { b with cnt := b.cnt + 1, arr := before }
    let passed (x : Bar) : Stream := { c.t with know := joinClk c.t.know x.rel }
    (Passes 0x83 o s c → ∀ i ∈ [Instr.bar32 o, Instr.bar o], c.p.wait = none →
      (7 < n → TrapsWith i s c 0x1F) ∧ (n ≤ 7 → c.t.divided = true → TrapsWith i s c 0x1E) ∧
      (n ≤ 7 → c.t.divided = false → loadsOut s c.sid = false →
        (b.cnt + 1 = b.exp → exec i s = .next (retire c ((put arrived).setStream c.sid (passed arrived)) [])) ∧
        (b.cnt + 1 ≠ b.exp → exec i s = .next ((put arrived).setStream c.sid (c.t.setPath c.k (some { c.p with wait := some (.bar b.ph.toNat) })))))) ∧
    (Passes 0x83 o s c → ∀ i ∈ [Instr.bar32 o, Instr.bar o], ∀ ph, c.p.wait = some (.bar ph) →
      (b.ph.toNat = ph → exec i s = .next s) ∧ (b.ph.toNat ≠ ph → CompletesWith i s c (passed b) [])) ∧
    (Passes 0x84 o s c → ∀ i ∈ [Instr.bara32 o, Instr.bara o], (7 < n → TrapsWith i s c 0x1F) ∧ (n ≤ 7 → c.t.divided = true → TrapsWith i s c 0x1E) ∧
      (n ≤ 7 → c.t.divided = false → loadsOut s c.sid = false → exec i s = .next (retire c (put arrived) [.s (Ctx.sn o.d) b.ph]))) ∧
    (Passes 0x85 o s c → ∀ i ∈ [Instr.barw32 o, Instr.barw o], (7 < n → TrapsWith i s c 0x1F) ∧
      (n ≤ 7 → b.ph = c.uni o.b → exec i s = .next s) ∧ (n ≤ 7 → b.ph ≠ c.uni o.b → CompletesWith i s c (passed b) [])) ∧
    (Passes 0x86 o s c → let e := (c.uni o.b).toNat
      (7 < n ∨ e = 0 ∨ 255 < e → TrapsWith (.bari o) s c 0x1F) ∧ (n ≤ 7 → 0 < e → e ≤ 255 → b.cnt ≠ 0 → TrapsWith (.bari o) s c 0x20) ∧
      (n ≤ 7 → 0 < e → e ≤ 255 → b.cnt = 0 → exec (.bari o) s = .next (retire c (put { b with exp := e, cnt := 0 }) []))) ∧
    (Passes 0x87 o s c → ∀ i ∈ [Instr.barq32 o, Instr.barq o], (7 < n → TrapsWith i s c 0x1F) ∧
      (n ≤ 7 → Writes i s c [.s (Ctx.sn o.d) ((b.ph <<< 16) ||| BitVec.ofNat 32 (256 * b.exp + b.cnt))]))

-- Try regions

/-- R231, R232, R242, R245 to R249: TRY opens a region, or nests in an open one; COMMIT leaves a level, or ends the region with its written
sectors in the drain stage; ABORT asks for an abort with code 6; TRYDROP rolls lanes back; the status registers are read. Outside a region the
others trap TRY_STATE; a divided course traps TRY_DIV, a missing reservation TRY_RES. -/
def Obligations.TryRegionsOpenNestCommitAndAbort : Prop :=
  ∀ (o : Opnds) (s : State) (c : Ctx), c.unbound →
    (Passes 0x90 o s c → ∀ (off : BitVec 16) (w0 w1 : Word) (a : Nat), o.b = .toff off →
      (c.t.inTry = true → ∃ u, u = { c.t with tryst := u.tryst } ∧ u.depth = (c.t.depth + 1) % 8 ∧
        (∀ n < 32, ¬ (8 ≤ n ∧ n ≤ 10) → u.tryst.getLsbD n = c.t.tryst.getLsbD n) ∧
        exec (.tryRegion o) s = .next (enterHeader (s.setStream c.sid u) c.sid c.k 0x06 true c.nextPc)) ∧
      (c.t.inTry = false → c.t.divided = true → TrapsWith (.tryRegion o) s c 0x22) ∧
      (c.t.inTry = false → c.t.divided = false → unready s c.t.part c.nextPc.toNat 8 = false →
        access s c.who Acc.fetch c.nextPc.toNat 8 1 = .ok a → codeWord s c.who c.nextPc = some w0 →
        codeWord s c.who (c.nextPc + 4) = some w1 →
        let h := hdrOf w0 w1
        let K := if h.tryres then h.livev + 1 else min c.t.nsh c.t.rg
        let J := if h.tryres then min h.lives 60 else 60
        (targetOk s c.who c.nextPc = false ∨ h.tryf = false → TrapsWith (.tryRegion o) s c 0x23) ∧
        (targetOk s c.who c.nextPc = true → h.tryf = true → c.t.nsh = 0 ∨ c.t.nsh < K → TrapsWith (.tryRegion o) s c 0x21) ∧
        (targetOk s c.who c.nextPc = true → h.tryf = true → 0 < c.t.nsh → K ≤ c.t.nsh → K ≤ c.t.rg → writesOut s c.sid = false →
          ∃ u r, exec (.tryRegion o) s = .next (enterHeader (s.setStream c.sid u) c.sid c.k 0x06 true c.nextPc) ∧ u.tr = some r ∧
            r.emt = c.act ∧ r.own = c.p.own ∧ r.k = K ∧ r.j = J ∧ r.buf = [] ∧ r.target = c.pc + off.signExtend 64 * 4 ∧
            u.tryst = 0x180 ∧ u.abortm = 0 ∧ r.ctl.rstk = c.t.rstk ∧ r.ctl.jm = c.t.jm ∧ r.ctl.lr = c.t.lr ∧
            (∀ n, 0 < n → n ≤ J → Tab.get 0 r.scal n = c.t.sAt n) ∧
            (∀ n < K, ∀ l < 96, c.p.own.getLsbD l = true → u.vAt (c.t.rg + n) l = c.t.vAt n l) ∧ (∀ n < c.t.rg, ∀ l < 96, u.vAt n l = c.t.vAt n l)))) ∧
    (Passes 0x91 o s c → ∀ i ∈ [Instr.commit32 o, Instr.commit o], (c.t.inTry = false → TrapsWith i s c 0x23) ∧
      (∀ r, c.t.inTry = true → c.t.tr = some r →
        (2 ≤ c.t.depth → ∃ u, CompletesWith i s c u [] ∧ u = { c.t with tryst := u.tryst } ∧ u.depth = c.t.depth - 1) ∧
        (c.t.depth < 2 → c.t.divided = true → TrapsWith i s c 0x22) ∧
        (c.t.depth < 2 → c.t.divided = false → tryLoadsOut s c.sid = true → exec i s = .next s) ∧
        (c.t.depth < 2 → c.t.divided = false → tryLoadsOut s c.sid = false → ∃ s2 u, exec i s = .next (retire c s2 []) ∧ s2.mem = s.mem ∧
          s2.stream? c.sid = some u ∧ u.tr = none ∧ u.depth = 0 ∧ u.tryst.getLsbD 7 = false ∧
          u.path? c.k = some { c.p with em := r.emt &&& c.p.own } ∧
          ∃ ds, s2.drains = s.drains ++ ds ∧ u.outst = c.t.outst + ds.length ∧ ds.length = (r.buf.filter (fun b => b.writer.isSome)).length ∧
            ∀ d ∈ ds, d.sid = c.sid ∧ d.gone = false ∧ d.tag = none ∧ ∃ b ∈ r.buf, b.writer.isSome = true ∧ d.addr = b.addr ∧ d.bytes = b.bytes))) ∧
    (Passes 0x92 o s c → ∀ i ∈ [Instr.abort32 o, Instr.abort o], (c.t.inTry = false → TrapsWith i s c 0x23) ∧
      (c.t.inTry = true → ∃ s' u, exec i s = .next s' ∧ s'.mem = s.mem ∧ s'.stream? c.sid = some u ∧ u.abort = some ⟨6, 0, 0⟩ ∧
        u = { c.t with tryst := u.tryst, abort := u.abort } ∧ u.tryst.toNat / 2 ^ 24 = (c.uni o.a).toNat % 2 ^ 8 ∧
        u.tryst.toNat % 2 ^ 24 = c.t.tryst.toNat % 2 ^ 24)) ∧
    (Passes 0x93 o s c → ∀ i ∈ [Instr.tryst32 o, Instr.tryst o], (o.mod = 1 → Writes i s c (wrTriple (Ctx.sn o.d) c.t.abortm)) ∧
      (o.mod ≠ 1 → Writes i s c [.s (Ctx.sn o.d) c.t.tryst])) ∧
    (Passes 0x94 o s c → ∀ i ∈ [Instr.tryaddr32 o, Instr.tryaddr o], Writes i s c (wrPair (Ctx.sn o.d) c.t.tryaddr)) ∧
    (Passes 0x95 o s c → ∀ i ∈ [Instr.trydrop32 o, Instr.trydrop o], (c.t.inTry = false → TrapsWith i s c 0x23) ∧
      (c.t.inTry = true → ∃ s2 u, exec i s = .next (retire c s2 []) ∧ s2.mem = s.mem ∧ s2.stream? c.sid = some u ∧
        u.abortm = c.t.abortm ||| (c.triple (Ctx.sn o.a) &&& c.act)))

/-- R234, R238, R239, R246: what a region does with memory and what an abort restores. A store in a region goes to its buffer and sends
nothing; too many sectors ask for an abort with code 1; the abort gives back the shadowed vector lanes, links, scalars and control state and puts
the path at the abort target with the mask of TRY; after a commit the first sector of a stream is sent as one store, and stays in the drain
stage, where it gives the cluster's loads its bytes, the latest over the others. -/
def Obligations.RegionsBufferStoresAndAbortsRestore : Prop :=
  (∀ (o : Opnds) (s : State) (c : Ctx) (as : List LaneAcc), Passes 0x71 o s c → c.unbound → c.t.inTry = true → c.t.acq = [] → c.ordered = false →
    let n := typeSize (o.mod % 16)
    checkLanes s c.who Acc.write n n (c.act.list.map (fun l => (l, c.va l))) = .ok as → (∀ a ∈ as, regionOf a.2.2 ≠ .host) →
    let accesses := as.map (fun a => (a.1, a.2.1, a.2.2, n, some (bytesOf (c.vec o.d a.1).toNat n)))
    (∀ u, c.t.tryAccesses accesses = some u → ∃ s2, exec (.st o) s = .next (retire c s2 []) ∧ s2.mem = s.mem ∧ s2.reqs = s.reqs ∧
      s2.drains = s.drains ∧ s2.stream? c.sid = some u) ∧
    (c.t.tryAccesses accesses = none → ∃ s' u, exec (.st o) s = .next s' ∧ s'.mem = s.mem ∧ s'.stream? c.sid = some u ∧ u.abort = some ⟨1, 0, 0⟩)) ∧
  (∀ (s : State) (sid : Nat) (t : Stream) (r : Region) (a : AbortReq), t.tr = some r → t.abort = some a → a.code ≤ 6 → loadsOut s sid = false →
    r.k ≤ t.rg →
    ∃ u, finishAbort s sid t = s.setStream sid u ∧ u.tr = none ∧ u.abort = none ∧ u.abortm = r.emt ∧ u.depth = 0 ∧ u.tryst.getLsbD 7 = false ∧
      u.rstk = r.ctl.rstk ∧ u.jm = r.ctl.jm ∧ u.mode = t.mode ∧ u.fpflags = t.fpflags ∧ u.xconf = t.xconf ∧
      (a.code = 3 → u.tryaddr = a.addr) ∧ (a.code ≠ 3 → u.tryaddr = t.tryaddr) ∧
      (∀ n < r.k, ∀ l < 96, r.own.getLsbD l = true → u.vAt n l = t.vAt (t.rg + n) l) ∧ (∀ n, r.k ≤ n → ∀ l < 96, u.vAt n l = t.vAt n l) ∧
      (∀ n, 0 < n → n ≤ r.j → u.sAt n = Tab.get 0 r.scal n) ∧ (∀ n, r.j < n → u.sAt n = t.sAt n) ∧
      (∀ l < 96, u.lrAt l = if r.own.getLsbD l = true then Tab.get 0 r.ctl.lr l else t.lrAt l) ∧
      ∀ k p, (if k = 0 then r.ctl.p0 else r.ctl.p1) = some p → ∃ q, u.path? k = some q ∧ q.pc = r.target ∧ q.em = r.emt ∧ q.entry = true ∧
        q.own = p.own ∧ q.owe = p.owe ∧ q.pend = []) ∧
  (∀ (s : State) (sid : Nat), (∀ d ∈ s.drains, d.sid ≠ sid) → exec (.commitSectorSend sid) s = .next s) ∧
  (∀ (s : State) (d : Drain) (rest : List Drain) (ent : Nat), s.drains = d :: rest → d.tag = none → (∀ x ∈ rest, x.tag = none) →
    freeEntries s (tblOf d.sid) 1 = some [ent] → ∃ s' r, exec (.commitSectorSend d.sid) s = .next s' ∧ s'.mem = s.mem ∧
      s'.drains = { d with tag := some r.tag } :: rest ∧ s'.reqs = s.reqs ++ [r] ∧ r.done = false ∧ r.pieces = sectorPieces d.va d.addr d.bytes ∧
      r.tag.tbl = tblOf d.sid ∧ r.tag.ent = ent ∧ s'.streams = s.streams) ∧
  (∀ (s : State) (cl spa n i : Nat), i < n → (∀ d ∈ s.drains, Tab.wf none d.bytes = true) → Tab.get none (committed s cl spa n) i =
    (s.drains.filterMap (fun d => if d.cluster = cl ∧ d.addr ≤ spa + i then Tab.get none d.bytes (spa + i - d.addr) else none)).getLast?)

-- Shapes, engines and queues

/-- The instruction completes by enqueueing an operation on barrier cbD, whose PEND rises; it waits while its die's queue or the barrier is
full (R251). -/
def Starts (i : Instr) (s : State) (c : Ctx) (R : EngOp → Prop) : Prop :=
  let cb := Ctx.fn c.o.d
  (1024 ≤ dieOps c.s (dieOf c.cl) ∨ 255 ≤ pend (c.t.cbAt cb) → exec i s = .next s) ∧
  (dieOps c.s (dieOf c.cl) < 1024 → pend (c.t.cbAt cb) < 255 → ∃ s2 x u, exec i s = .next (retire c s2 []) ∧ R x ∧
    x.sid = some c.sid ∧ x.cb = cb ∧ x.pc = c.pc ∧ x.unit = 0 ∧ x.done = false ∧
    s2 = { c.s with eops := Tab.set none c.s.eops c.s.neop (some x), neop := c.s.neop + 1, streams := s2.streams } ∧
    s2.stream? c.sid = some u ∧ u = { c.t with cb := Tab.set 0 c.t.cb cb (c.t.cbAt cb + 1), ptag := u.ptag })

/-- A run of bytes within one page, which the asker may access, lies at physical address a. -/
def pageRun (s : State) (w : Who) (acc : Acc) (va n a : Nat) : Prop := 0 < n ∧ va % 4096 + n ≤ 4096 ∧ access s w acc va n 1 = .ok a

/-- The bytes bs stand at address a, and every other byte is as before. -/
def Stores (s s' : State) (a : Nat) (bs : List Byte) : Prop :=
  (∀ i < bs.length, s'.byteAt (a + i) = nth 0 bs i) ∧ ∀ b, b < a ∨ a + bs.length ≤ b → s'.byteAt b = s.byteAt b

/-- No page of a partition is blocked, no island is gated, it gets no migration notices, and no byte holds an uncorrectable error. -/
def quiet (s : State) (p : Nat) : Prop := (s.part p).blocks = [] ∧ s.gated = [] ∧ (s.part p).migring = 0 ∧ s.ue = []

/-- R251, R256, R260, R261, R264, R266, R269, R272, R274, R276: shape registers are loaded, stored and edited field by field; COPY, GATHER and
SCATTER check their shapes and enqueue an operation; completion barriers, queue registers and access counters are set and read. -/
def Obligations.ShapesOperationsAndQueues : Prop :=
  ∀ (o : Opnds) (s : State) (c : Ctx),
    let n := Ctx.fn o.d
    let m := Ctx.fn o.a
    let a := c.t.shAt m
    let b := c.t.shAt (Ctx.fn o.b)
    let i := c.t.shAt (Ctx.fn o.c)
    (∀ as, Passes 0x98 o s c → checkLanes c.s c.who Acc.read 64 64 [(c.uniLane, c.va 0)] = .ok as →
      let ps : List Piece := as.map (fun a => ⟨a.1, a.2.1, a.2.2, .read 64, .sh n, committed s c.cl a.2.2 64⟩)
      accessReady c .load ps → Sends (.shld o) s c .load ps) ∧
    (∀ as, Passes 0x9A o s c → checkLanes c.s c.who Acc.write 64 64 [(c.uniLane, c.va 0)] = .ok as →
      let ps : List Piece := as.map (fun a => ⟨a.1, a.2.1, a.2.2, .write (bytesOf (c.t.shAt n).toNat 64), .none, []⟩)
      accessReady c .store ps → Sends (.shst o) s c .store ps) ∧
    (Passes 0x99 o s c → ∃ w : BitVec 512, CompletesWith (.shset o) s c { c.t with sh := Tab.set 0 c.t.sh n w } [] ∧
      let k := o.mod % 16
      let lo := nth 352 [0, 64, 72, 128, 160, 192, 224, 256, 288, 320] k
      let len := nth 32 [64, 8, 8] k
      let old := bits (c.t.shAt n).toNat lo len
      (∀ j < 512, j < lo ∨ lo + len ≤ j → w.getLsbD j = (c.t.shAt n).getLsbD j) ∧
      (o.mod < 16 → bits w.toNat lo len = (if k = 0 then (c.pair (Ctx.sn o.a)).toNat else (c.uni o.a).toNat % 2 ^ len)) ∧
      (16 ≤ o.mod → (bits w.toNat lo len : Int) = ((old : Int) + (if k = 0 then (c.uni o.a).toInt else ((c.uni o.a).toNat : Int))) % 2 ^ len)) ∧
    (Passes 0x9B o s c →
      let mode := o.mod % 4
      let res := decide (o.mod / 4 % 2 = 1)
      let tile := (c.uni o.c).toNat
      let fit : Prop := shapeOk a = true ∧ shapeOk b = true ∧ (shapeOf a).count = (shapeOf b).count ∧ (shapeOf a).w = (shapeOf b).w ∧
        (mode = 2 → migOk (shapeOf a) = true ∧ migOk (shapeOf b) = true)
      (res = true → 65535 < tile → TrapsWith (.copy o) s c 0x02) ∧
      ((res = true → tile ≤ 65535) →
        (mode = 2 → c.t.sys = false → TrapsWith (.copy o) s c 0x1A) ∧
        ((mode = 2 → c.t.sys = true) → (¬ fit → TrapsWith (.copy o) s c 0x24) ∧
          (fit → Starts (.copy o) s c (fun x => x.kind = .copy mode (if res then some tile else none) ∧ x.a = shapeOf a ∧ x.b = shapeOf b ∧
            (mode ≠ 0 → c.seq = false → x.tag = some c.t.step)))))) ∧
    (∀ e ∈ [(0x9C, Instr.gather o, EngKind.gather, b, a), (0x9D, .scatter o, .scatter (decide (o.mod = 1)), a, b)], Passes e.1 o s c →
      let fit : Prop := shapeOk a = true ∧ shapeOk b = true ∧ shapeOk i = true ∧ (shapeOf i).rank = 1 ∧ ((shapeOf i).elem = 5 ∨ (shapeOf i).elem = 8) ∧
        (shapeOf e.2.2.2.1).rank = 2 ∧ (shapeOf e.2.2.2.2).count = (shapeOf i).d0 * (shapeOf e.2.2.2.1).d0 ∧ (shapeOf a).w = (shapeOf b).w ∧
        (e.1 = 0x9D → o.mod = 1 → (shapeOf a).elem = 0 ∨ (shapeOf a).elem = 5 ∨ (shapeOf a).elem = 8)
      (¬ fit → TrapsWith e.2.1 s c 0x24) ∧
      (fit → Starts e.2.1 s c (fun x => x.kind = e.2.2.1 ∧ x.a = shapeOf e.2.2.2.1 ∧ x.b = shapeOf e.2.2.2.2 ∧ x.c = shapeOf i))) ∧
    (Passes 0x9E o s c → ∀ i ∈ [Instr.cbinit32 o, Instr.cbinit o], (pend (c.t.cbAt n) ≠ 0 → TrapsWith i s c 0x28) ∧
      (pend (c.t.cbAt n) = 0 → CompletesWith i s c { c.t with cb := Tab.set 0 c.t.cb n 0 } [])) ∧
    (Passes 0x9F o s c → ∀ i ∈ [Instr.cbwait32 o, Instr.cbwait o], (pend (c.t.cbAt m) ≠ 0 → exec i s = .next s) ∧
      (pend (c.t.cbAt m) = 0 → Writes i s c [.s (Ctx.sn o.d) (c.t.cbAt m)])) ∧
    (Passes 0xA0 o s c → ∀ i ∈ [Instr.cbpoll32 o, Instr.cbpoll o], Writes i s c [.s (Ctx.sn o.d) (c.t.cbAt m)]) ∧
    (Passes 0xA1 o s c → ∀ h r, h = (c.uni o.b).toNat → vIndex (c.view 0) o.a = some r →
      (31 < h ∨ (∃ q < 16, q ≠ n ∧ ∃ x, c.t.qAt q = some x ∧ x.reg = r) → TrapsWith (.qbind o) s c 0x27) ∧
      (h ≤ 31 → (∀ q < 16, q ≠ n → ∀ x, c.t.qAt q = some x → x.reg ≠ r) →
        CompletesWith (.qbind o) s c { c.t with q := Tab.set none c.t.q n (some ⟨h, r⟩) } [])) ∧
    (Passes 0xA1 o s c → CompletesWith (.qbindFree o) s c { c.t with q := Tab.set none c.t.q n none } []) ∧
    (Passes 0xA2 o s c → ∀ i ∈ [Instr.qstat32 o, Instr.qstat o], ∃ w, Writes i s c [.s (Ctx.sn o.d) w] ∧
      (c.t.qAt m = none → w.getLsbD 31 = false) ∧
      (∀ q, c.t.qAt m = some q → q.hq < 32 → q.reg < 256 → (hqOf c.s c.cl q.hq).length < 4096 → w.getLsbD 31 = true ∧
        w.getLsbD 30 = decide (16 ≤ q.hq) ∧ bits w.toNat 25 5 = q.hq ∧ bits w.toNat 12 13 = q.reg ∧
        bits w.toNat 0 12 = (hqOf c.s c.cl q.hq).length)) ∧
    (Passes 0xA3 o s c → c.unbound →
      (c.t.sys = false → TrapsWith (.pgacc o) s c 0x1A) ∧
      (∀ l, c.t.sys = true → lookup s c.t.part (c.va 0) = .ok l → c.va 0 < 2 ^ 48 → c.va 0 / 2 ^ 32 ≠ 0xFFFF →
        (regionOf l.spa = .hbm ∨ regionOf l.spa = .scm) → blocked s c.t.part (c.va 0) 1 = false →
        exec (.pgacc o) s = .next (retire c (if o.mod = 1 then { s with acc := Tab.set 0 s.acc (l.spa / 65536) 0 } else s)
          [.s (Ctx.sn o.d) (BitVec.ofNat 32 (Tab.get 0 s.acc (l.spa / 65536)))])))

/-- R262 to R268, R270, Table 1.9: an engine moves the elements of its row up to the row's end or its next boundary, 4 KiB of destination for a
copy and 256 elements for a gather or scatter. As it begins a row, every page of the row is translated and checked and its sources are read; a
fault there ends the operation with FLT and an event that names the row and the address, and writes none of it. A copy writes the bytes of
its source, a gather those of the table row that its index names, or FILL with OOR, a scatter the bytes of its row, or with .ADD the
sums; .MIG writes a frame by its physical address, .PST hands its bytes to the persist queue; nothing else in memory changes. A COPY.RES
faults RES_DEST outside the cistern, and sets its tile's bit as it completes. A finished operation leaves its engine and its barrier's PEND
falls. What the model chooses: one move for each part of a row, and what a stop in it leaves (log 46); FILL cut to the element size (log 47);
a migration's frame outside HBM and SCM faults PA_RANGE (log 75). -/
def Obligations.EnginesMoveOneUnitAtATime : Prop :=
  ∀ (s : State) (n : Nat) (x : EngOp) (v a : Nat), s.eop? n = some x → quiet s x.part →
    let w := x.who s
    let rest := x.a.d0 - x.off
    let k := min rest (x.pitch - x.moved % x.pitch)
    let len := k * x.a.w
    let last := decide (x.a.d0 ≤ x.off + k)
    let i := if x.off = 0 then ofBytes (readVa s w Acc.read (x.c.elemAt x.unit) 4) else x.idx
    let row : Nat × Nat := ((x.a.base + i * x.a.t1 + x.off * x.a.w) % 2 ^ 64, rest * x.a.w)
    let box : List (Nat × Nat) := x.b.segs (rest + 1) (x.unit * x.a.d0 + x.off) rest
    let index : List (Nat × Nat) := if x.off = 0 then [(x.c.elemAt x.unit, 4)] else []
    let after (y : EngOp) (total idx : Nat) (places : List (Nat × Nat)) (data : List Byte) : Prop :=
      y = { x with off := if last then 0 else x.off + k, unit := if last then x.unit + 1 else x.unit, moved := x.moved + k, since := s.clock,
                   limit := timeoutOf s x.part, atUnit := !last || decide ((x.moved + k) % x.pitch = 0),
                   done := last && decide (total ≤ x.unit + 1), idx := idx, pleft := y.pleft, moving := y.moving } ∧
      (last = true → y.moving = none) ∧ (last = false → ∃ g, y.moving = some ⟨dropRuns places len, data.drop len, g⟩)
    let wrote (ev : Instr) (total : Nat) (oor : Bool) (idx : Nat) (places : List (Nat × Nat)) (data : List Byte) : Prop :=
      takeRuns places len = [(a, len)] → (data.take len).length = len → ∃ s' y, exec ev s = .next s' ∧ Stores s s' a (data.take len) ∧
        s'.eop? n = some y ∧ after y total idx places data ∧ y.pleft = x.pleft ∧
        (∀ i t, x.sid = some i → x.team = some t.team → s.stream? i = some t → s'.stream? i =
          some (if oor then { t with cb := Tab.set 0 t.cb x.cb (t.cbAt x.cb ||| 0x800) } else t))
    let handed (places : List (Nat × Nat)) (data : List Byte) : Prop :=
      takeRuns places len = [(a, len)] → (data.take len).length = len → 0 < len → ∀ i, x.sid = some i →
        freeEntries s (tblOf i) ((a + len - 1) / 256 - a / 256 + 1) ≠ none → ∃ s' y ps, exec (.copyRow n) s = .next s' ∧ s'.mem = s.mem ∧
        s'.pwait = s.pwait ++ ps ∧ ps.flatMap (fun r => r.bytes) = (data.take len).zipIdx.map (fun b => (a + b.2, b.1)) ∧
        (∀ r ∈ ps, r.op = some n ∧ r.sid = some i ∧ r.part = x.part ∧ r.epoch = x.epoch ∧ r.live = true ∧
          r.step = some (x.tag.getD (s.part x.part).pstepmax) ∧ ∀ b ∈ r.bytes, b.1 / 256 = r.spa / 256) ∧
        s'.eop? n = some y ∧ after y x.a.rows x.idx places data ∧ y.pleft = x.pleft + ps.length
    let faults (ev : Instr) (code : Nat) (addr : Addr) : Prop := x.ring = none → ∀ i t, x.sid = some i → x.team = some t.team →
      s.stream? i = some t → pend (t.cbAt x.cb) ≠ 0 → ∃ e, e.cause = code ∧ e.addr = addr ∧ e.aux = BitVec.ofNat 32 x.unit ∧ e.pc = x.pc ∧
        e.idx = eopIndex n x ∧ exec ev s = .next (arbiter (({ s with eops := Tab.set none s.eops n none }).setStream i
          { t with cb := Tab.set 0 t.cb x.cb ((t.cbAt x.cb - 1) ||| 0x100) }) x.part e)
    (∀ m r, x.kind = .copy m r → x.pitch = 4096 / x.a.w) ∧ (x.kind = .gather ∨ (∃ b, x.kind = .scatter b) → x.pitch = 256) ∧
    (∀ i t, x.done = true → x.pleft = 0 → x.ring = none → x.sid = some i → x.team = some t.team → s.stream? i = some t → t.live ≠ 0 →
      t.ended = false → pend (t.cbAt x.cb) ≠ 0 →
      let u : Stream := { t with cb := Tab.set 0 t.cb x.cb (t.cbAt x.cb - 1) }
      ((∃ m, x.kind = .copy m none) ∨ x.kind = .gather ∨ (∃ b, x.kind = .scatter b) →
        exec (.engineOpComplete n) s = .next (({ s with eops := Tab.set none s.eops n none }).setStream i u)) ∧
      (∀ m tile, x.kind = .copy m (some tile) → ∃ s', exec (.engineOpComplete n) s = .next s' ∧ s'.eop? n = none ∧ s'.stream? i = some u ∧
        s'.mem = s.mem ∧ Tab.get false (s'.part x.part).res tile = true)) ∧
    (x.stopped = false → x.done = false → x.cut = false → islandUp s (16 + x.die) = true →
    (∀ m r, x.kind = .copy m r → x.pleft = 0 →
      let dst := [(v, rest * x.a.w)]
      (x.moving = none → m = 0 → v = x.a.rowAt x.unit + x.off * x.a.w →
        (∀ f, runsFault s w Acc.write dst = some f → faults (.copyRow n) f.code f.addr) ∧
        (runsFault s w Acc.write dst = none →
          (∀ p, r ≠ none → outsideCistern s w Acc.write (v, rest * x.a.w) = some p → faults (.copyRow n) 0x45 (BitVec.ofNat 64 p)) ∧
          (r = none ∨ outsideCistern s w Acc.write (v, rest * x.a.w) = none →
            (∀ f, runsFault s w Acc.read box = some f → faults (.copyRow n) f.code f.addr) ∧
            (runsFault s w Acc.read box = none →
              wrote (.copyRow n) x.a.rows false x.idx (runs s w Acc.write v (rest * x.a.w)) (readRuns s w Acc.read box))))) ∧
      (x.moving = none → m = 1 → r = none → v = x.a.rowAt x.unit + x.off * x.a.w →
        (∀ f, runsFault s w Acc.persist dst = some f → faults (.copyRow n) f.code f.addr) ∧
        (runsFault s w Acc.persist dst = none → runsFault s w Acc.read box = none →
          handed (runs s w Acc.persist v (rest * x.a.w)) (readRuns s w Acc.read box))) ∧
      (x.moving = none → m = 2 → v = x.a.base + x.off * x.a.w →
        (∀ p, badFrame x.a.base (x.a.d0 * x.a.w) = some p → faults (.copyRow n) 0x16 (BitVec.ofNat 64 p)) ∧
        (badFrame x.a.base (x.a.d0 * x.a.w) = none → runsFault s w Acc.read box = none →
          (regionOf x.a.base ≠ .scm → wrote (.copyRow n) x.a.rows false x.idx dst (readRuns s w Acc.read box)) ∧
          (regionOf x.a.base = .scm → handed dst (readRuns s w Acc.read box)))) ∧
      (∀ y, x.moving = some y → (x.persists = false → wrote (.copyRow n) x.a.rows false x.idx y.runs y.data) ∧
        (x.persists = true → handed y.runs y.data))) ∧
    (x.kind = .gather →
      (x.moving = none → (∀ f, lowerAddr (runsFault s w Acc.read index) (runsFault s w Acc.write box) = some f → faults (.gatherRow n) f.code f.addr) ∧
        (runsFault s w Acc.read index = none → runsFault s w Acc.write box = none →
          let places := box.flatMap (fun r => runs s w Acc.write r.1 r.2)
          (i < x.a.d1 → (∀ f, runsFault s w Acc.read [row] = some f → faults (.gatherRow n) f.code f.addr) ∧
            (runsFault s w Acc.read [row] = none → wrote (.gatherRow n) x.c.d0 false i places (readRuns s w Acc.read [row]))) ∧
          (x.a.d1 ≤ i → x.a.w ∈ [1, 2, 4, 8] →
            wrote (.gatherRow n) x.c.d0 true i places ((List.range rest).flatMap (fun _ => bytesOf x.a.fill.toNat x.a.w))))) ∧
      (∀ y, x.moving = some y → wrote (.gatherRow n) x.c.d0 false x.idx y.runs y.data)) ∧
    (∀ add, x.kind = .scatter add →
      let acc := if add then Acc.atomic true else Acc.write
      let summed (places : List (Nat × Nat)) (data : List Byte) : Prop := takeRuns places len = [(a, len)] → (data.take len).length = len →
        ∃ s', exec (.scatterIndex n) s = .next s' ∧
          (∀ j < k, leAt (s'.readMem (a + 4 * j) 4) 0 4 = (leAt (s.readMem (a + 4 * j) 4) 0 4 + leAt data (4 * j) 4) % 2 ^ 32) ∧
          ∀ b, b < a ∨ a + len ≤ b → s'.byteAt b = s.byteAt b
      (x.moving = none → (∀ f, runsFault s w Acc.read (index ++ box) = some f → faults (.scatterIndex n) f.code f.addr) ∧
        (runsFault s w Acc.read (index ++ box) = none →
          (x.a.d1 ≤ i → ∃ s', exec (.scatterIndex n) s = .next s' ∧ s'.mem = s.mem ∧ s'.eop? n = some { x with
            unit := x.unit + 1, since := s.clock, limit := timeoutOf s x.part, atUnit := decide (x.moved % x.pitch = 0),
            done := decide (x.c.d0 ≤ x.unit + 1), idx := i } ∧
            ∀ i t, x.sid = some i → x.team = some t.team → s.stream? i = some t → s'.stream? i =
              some { t with cb := Tab.set 0 t.cb x.cb (t.cbAt x.cb ||| 0x800) }) ∧
          (i < x.a.d1 → (∀ f, runsFault s w acc [row] = some f → faults (.scatterIndex n) f.code f.addr) ∧
            (runsFault s w acc [row] = none →
              (add = false → wrote (.scatterIndex n) x.c.d0 false i (runs s w acc row.1 row.2) (readRuns s w Acc.read box)) ∧
              (add = true → x.a.elem = 5 ∨ x.a.elem = 8 → x.a.w = 4 → summed (runs s w acc row.1 row.2) (readRuns s w Acc.read box)))))) ∧
      (∀ y, x.moving = some y → (add = false → wrote (.scatterIndex n) x.c.d0 false x.idx y.runs y.data) ∧
        (add = true → x.a.elem = 5 ∨ x.a.elem = 8 → x.a.w = 4 → summed y.runs y.data))))

-- Tiles and the array

/-- No page of the issuer's partition is blocked, and no island is gated. -/
def Unblocked (c : Ctx) : Prop := (c.s.part c.t.part).blocks = [] ∧ c.s.gated = []

/-- The instruction completes by giving an operation to the tile port, with buffered translations noted; it waits while 16 are pending (R281). -/
def PutsTileOp (i : Instr) (s : State) (c : Ctx) (s1 : State) (op : TileOp) : Prop :=
  let x : Cluster := s1.cluster c.cl
  (16 ≤ c.clu.port.length → exec i s = .next s) ∧
  (c.clu.port.length < 16 → ∃ ps, exec i s = .next (retire c (State.setCluster { s1 with parts := ps } c.cl
    { x with port := x.port ++ [⟨x.nstamp, op, c.pc⟩], nstamp := x.nstamp + 1 }) []))

/-- The instruction completes by enqueueing an array command with the issue-side changes f; it waits while 32 are queued (R280). -/
def PutsCommand (i : Instr) (s : State) (c : Ctx) (cmd : Cmd) (f : Cluster → Cluster) : Prop :=
  (32 ≤ c.clu.cq.length → exec i s = .next s) ∧
  (c.clu.cq.length < 32 → ∃ s1 : State, s1 = { c.s with parts := s1.parts, acc := s1.acc } ∧ exec i s = .next (retire c (s1.setCluster c.cl
    (f { c.clu with cq := c.clu.cq ++ [⟨cmd, c.clu.nstamp, c.s.clock, c.pc, false, 0, [], []⟩], nstamp := c.clu.nstamp + 1 })) []))

/-- R280 to R300: tile instructions check their tile control registers and boxes at issue and go to the tile port; MMA, DRAIN, ACCZ and AMODE
check the mode, the format block and the chain and go to the command queue; MOVTC, RDTC, RQPOP and AWAIT act at once. A stream number above 63,
a disabled stream or another partition's traps SPUB_STREAM; SPUB takes the next slot, or waits while the ring is full; SSUB reads slot RI + J,
once published; SSUB.OPEN and .COPY open a subscription at WI, .CLOSE ends it, SREL moves RI, and SSTAT reads WI and the slots available. -/
def Obligations.TileArrayAndStreamInstructionsAtIssue : Prop :=
  ((∀ (w : Word) (t : Tc), tcOf w = some t ↔ t.fmt = bits w.toNat 28 4 ∧ t.rows = bits w.toNat 20 8 ∧ t.cols = bits w.toNat 0 12 ∧
    t.fmt ∈ [0, 1, 2, 3, 5, 10, 11] ∧ 1 ≤ t.rows ∧ t.rows ≤ 128 ∧ t.cols ≠ 0 ∧ bits w.toNat 12 8 = 0 ∧
    (t.fmt = 10 ∨ t.fmt = 11 → t.cols % 32 = 0 ∧ t.plane ≤ 28672) ∧ t.plane ≤ 32768) ∧
  ∀ (o : Opnds) (s : State) (c : Ctx),
    let d := Ctx.fn o.d
    let a := Ctx.fn o.a
    let b := Ctx.fn o.b
    let tc (n : Nat) : Option Tc := tcOf (c.clu.tcAt n)
    let free (ns : List Nat) : Prop := ∀ x ∈ c.clu.port, ∀ n ∈ ns, ∀ st slot, x.op ≠ .ssub n st slot
    let box (i : Instr) (acc : Acc) (base size : Nat) (op : Shape → Nat → Pages → TileOp) : Prop :=
      let w := c.t.shAt a
      let h := shapeOf w
      (shapeOk w = false ∨ h.count * h.w ≠ size → TrapsWith i s c 0x24) ∧
      (shapeOk w = true → h.count * h.w = size →
        (∀ f, (c.s.part c.t.part).blocks = [] → boxFault c.s c.who acc 1 h.box = some f → exec i s = .next (takeTrap s c.sid c.k f.code f.addr 0)) ∧
        (boxFault c.s c.who acc 1 h.box = none → Unblocked c →
          PutsTileOp i s c c.s (op h base (pagesFor c.s c.who acc h.box))))
    (Passes 0xA8 o s c → free [d] → exec (.movtc o) s = .next (retire c (c.s.setCluster c.cl { c.clu with tc := Tab.set 0 c.clu.tc d (c.uni o.a) }) [])) ∧
    (Passes 0xA9 o s c → free [a] → ∀ i ∈ [Instr.rdtc32 o, Instr.rdtc o], Writes i s c [.s (Ctx.sn o.d) (c.clu.tcAt a)]) ∧
    (Passes 0xA8 o s c → ¬ free [d] → exec (.movtc o) s = .next s) ∧
    (Passes 0xAA o s c → ∀ i ∈ [Instr.tzero32 o, Instr.tzero o], PutsTileOp i s c c.s (.zero d)) ∧
    (Passes 0xAB o s c → PutsTileOp (.tfill o) s c c.s (.fill d (c.uni o.a))) ∧
    (Passes 0xAE o s c → ∀ i ∈ [Instr.tmov32 o, Instr.tmov o], PutsTileOp i s c c.s (.mov d a)) ∧
    (Passes 0xAF o s c → free [d, a] → ∀ i ∈ [Instr.txpose32 o, Instr.txpose o],
      let fit : Prop := ∃ x y, tc a = some x ∧ tc d = some y ∧ x.fmt ≠ 10 ∧ x.fmt ≠ 11 ∧ y.fmt = x.fmt ∧ y.rows = x.cols ∧ y.cols = x.rows
      (¬ fit → TrapsWith i s c 0x2C) ∧ (fit → PutsTileOp i s c c.s (.xpose d a (c.clu.tcAt a)))) ∧
    (Passes 0xAC o s c → free [d] → ∀ i ∈ [Instr.tload32 o, Instr.tload o],
      (tc d = none → TrapsWith i s c 0x2C) ∧
      (∀ t, tc d = some t →
        let exp := o.mod % 2 = 1
        let base := if exp then 0x7000 else 0
        let size := if exp then t.rows * t.cols / 16 else t.plane
        (exp → t.fmt ≠ 10 → t.fmt ≠ 11 → TrapsWith i s c 0x2C) ∧
        ((exp → t.fmt = 10 ∨ t.fmt = 11) →
          (o.mod < 2 → box i Acc.read base size (fun h base ps => .load d h base ps)) ∧
          (2 ≤ o.mod → (15 < (c.uni o.a).toNat → TrapsWith i s c 0x26) ∧
            ((c.uni o.a).toNat ≤ 15 → PutsTileOp i s c c.s (.loadq d (c.uni o.a).toNat base size 0)))))) ∧
    (Passes 0xAD o s c → free [d] → ∀ i ∈ [Instr.tstore32 o, Instr.tstore o],
      (tc d = none → TrapsWith i s c 0x2C) ∧
      (∀ t, tc d = some t → (o.mod = 0 → box i Acc.write 0 t.plane (fun h base ps => .store d h base ps)) ∧
        (o.mod = 1 → (t.fmt = 10 ∨ t.fmt = 11 → box i Acc.write 0x7000 (t.rows * t.cols / 16) (fun h base ps => .store d h base ps)) ∧
          (t.fmt ≠ 10 → t.fmt ≠ 11 → TrapsWith i s c 0x2C)))) ∧
    (Passes 0xB0 o s c →
      (c.clu.mode = true → TrapsWith (.mma o) s c 0x2D) ∧
      (c.clu.mode = false → free [a, b] →
        (tc a = none ∨ tc b = none → TrapsWith (.mma o) s c 0x2C) ∧
        (∀ x y fb, tc a = some x → tc b = some y → readAtIssue c (c.pair (Ctx.sn o.c)).toNat 64 64 = .ok fb →
          let legal : Prop := x.fmt ∈ [1, 2, 10, 11] ∧ y.fmt = x.fmt ∧ x.cols = y.cols ∧ leAt fb 0 1 = x.fmt ∧ leAt fb 1 1 = x.fmt ∧
            leAt fb 2 1 ∈ [0, 1, 2, 3, 5] ∧ leAt fb 3 1 = (if 10 ≤ x.fmt then 32 else 0) ∧ leAt fb 4 4 = 0 ∧ leAt fb 32 32 = 0 ∧
            (o.mod = 1 → 10 ≤ x.fmt)
          let ch := c.clu.chain d
          let same : Prop := ch.opened = true → ch.key = fb.take 32 ∧ ch.m = x.rows ∧ ch.n = y.rows
          (¬ legal → TrapsWith (.mma o) s c 0x29) ∧ (legal → ¬ same → TrapsWith (.mma o) s c 0x2A) ∧
          (legal → same → (c.s.part c.t.part).migring = 0 →
            PutsCommand (.mma o) s c (.mma d a b x.rows y.rows x.cols x.fmt (decide (o.mod = 1)) (c.mode &&& 0xFF))
              (fun z => { z with chains := if ch.opened then z.chains else Tab.set Chain.zero z.chains d ⟨true, fb.take 32, x.rows, y.rows⟩ }))))) ∧
    (Passes 0xB1 o s c →
      let ch := c.clu.chain a
      let q := o.mod % 2 = 1
      let h := (c.uni o.d).toNat
      let df := leAt ch.key 2 1
      let keep := o.mod / 4 = 1
      (c.clu.mode = true → TrapsWith (.drain o) s c 0x2D) ∧
      (c.clu.mode = false → ch.opened = false → TrapsWith (.drain o) s c 0x2B) ∧
      (c.clu.mode = false → ch.opened = true →
        (¬ q → free [d] → tc d ≠ some ⟨df, ch.m, ch.n⟩ → TrapsWith (.drain o) s c 0x2C) ∧ (q → h < 16 ∨ 31 < h → TrapsWith (.drain o) s c 0x26) ∧
        ((q → 16 ≤ h ∧ h ≤ 31) → (¬ q → free [d] ∧ tc d = some ⟨df, ch.m, ch.n⟩) →
          (∀ f, (c.s.part c.t.part).blocks = [] → boxFault c.s c.who Acc.read 4 (scaleRuns ch) = some f → exec (.drain o) s = .next (takeTrap s c.sid c.k f.code f.addr 0)) ∧
          (boxFault c.s c.who Acc.read 4 (scaleRuns ch) = none → Unblocked c → PutsCommand (.drain o) s c
            (.drain a (if q then none else some d) (if q then some h else none) df (decide (o.mod / 2 % 2 = 1)) (decide keep) ch.m ch.n
              (leAt ch.key 8 8) (leAt ch.key 16 8) (leAt ch.key 24 8) (pagesFor c.s c.who Acc.read (scaleRuns ch)) (c.mode &&& 0xFF))
            (fun z => { z with chains := if keep then z.chains else Tab.set Chain.zero z.chains a Chain.zero }))))) ∧
    (Passes 0xB2 o s c → ∀ i ∈ [Instr.accz32 o, Instr.accz o], (c.clu.mode = true → TrapsWith i s c 0x2D) ∧
      (c.clu.mode = false → (o.mod = 0 → PutsCommand i s c (.accz d false) (fun z => { z with chains := Tab.set Chain.zero z.chains d Chain.zero })) ∧
        (o.mod = 1 → PutsCommand i s c (.accz 0 true) (fun z => { z with chains := [] })))) ∧
    (Passes 0xB4 o s c → ∀ i ∈ [Instr.amode32 o, Instr.amode o],
      PutsCommand i s c (.amode (decide (o.mod = 1))) (fun z => { z with mode := decide (o.mod = 1), chains := [] })) ∧
    (Passes 0xB5 o s c → ∀ i ∈ [Instr.await32 o, Instr.await o], (c.clu.cq = [] → c.clu.port = [] → pubOut c.s c.sid = false → Writes i s c []) ∧
      (c.clu.cq ≠ [] ∨ c.clu.port ≠ [] ∨ pubOut c.s c.sid = true → exec i s = .next s)) ∧
    (Passes 0xB3 o s c → ∀ i ∈ [Instr.rqpop32 o, Instr.rqpop o],
      (∀ w rest, c.clu.rq = w :: rest → exec i s = .next (retire c (c.s.setCluster c.cl { c.clu with rq := rest }) [.s (Ctx.sn o.d) w])) ∧
      (c.clu.rq = [] → c.clu.cq = [] → TrapsWith i s c 0x2E))) ∧
  (∀ (o : Opnds) (s : State) (c : Ctx) (st : Nat) (e : StrmEnt),
    let key := 64 * dieOf c.cl + st
    let d := Ctx.fn o.d
    let free (n : Nat) : Prop := ∀ x ∈ c.clu.port, ∀ st slot, x.op ≠ .ssub n st slot
    let may (w : Nat) : Prop := (∀ x ∈ e.subs, x.cluster ≠ c.cl) ∧ subsOf c.s c.cl < 4 ∧ e.subs.length < 64 ∧ 1 ≤ w ∧ w ≤ e.nslot
    let j := (c.uni o.b).toNat
    e = c.s.strmEnt key →
    let usable : Prop := st ≤ 63 ∧ e.reg.getLsbD 63 = true ∧ bits e.reg.toNat 37 3 = c.t.part
    let room : Prop := e.pending = none ∧ (∀ x ∈ e.subs, e.wi - x.ri < e.nslot) ∧ ∀ n ∈ slotsHeld c.s key, e.wi - n < e.nslot
    (Passes 0xB6 o s c → st = (c.uni o.d).toNat → ¬ usable → TrapsWith (.spub o) s c 0x2F) ∧
    (Passes 0xB6 o s c → st = (c.uni o.d).toNat → usable → c.seq = true → free (Ctx.fn o.a) →
      let tw := c.clu.tcAt (Ctx.fn o.a)
      (tcOf tw = none → TrapsWith (.spub o) s c 0x2C) ∧
      (tcOf tw ≠ none → (room → PutsTileOp (.spub o) s c (c.s.setStrm key { e with pending := some ⟨c.sid, c.t.launch, c.pc, tw, none, none⟩ }) (.spub key (Ctx.fn o.a))) ∧
        (¬ room → exec (.spub o) s = .next s))) ∧
    (Passes 0xB6 o s c → st = (c.uni o.d).toNat → usable → c.seq = false →
      let w := c.t.shAt (Ctx.fn o.a)
      let h := shapeOf w
      (shapeOk w = false ∨ 32768 < h.count * h.w → TrapsWith (.spub o) s c 0x24) ∧
      (shapeOk w = true → h.count * h.w ≤ 32768 → boxFault c.s c.who Acc.read 1 h.box = none → Unblocked c →
        (¬ room → exec (.spub o) s = .next s) ∧
        (room → ∃ ps, exec (.spub o) s = .next (retire c (State.setStrm { c.s with parts := ps } key { e with
          pending := some ⟨c.sid, c.t.launch, c.pc, c.uni o.c, some (h, pagesFor c.s c.who Acc.read h.box), none⟩ }) [])))) ∧
    (∀ x ∈ [(0xB7, Instr.ssub o), (0xB7, .ssubOpen o), (0xB7, .ssubClose o), (0xB7, .ssubCopy o), (0xB8, .srel o), (0xB9, .sstat32 o), (0xB9, .sstat o)],
      Passes x.1 o s c → st = (c.uni o.a).toNat → ¬ usable → TrapsWith x.2 s c 0x2F) ∧
    (st = (c.uni o.a).toNat → usable →
      (Passes 0xB7 o s c →
        (e.sub? c.cl = none → TrapsWith (.ssub o) s c 0x2F ∧ TrapsWith (.ssubClose o) s c 0x2F) ∧
        (∀ x, e.sub? c.cl = some x → (x.w ≤ j → TrapsWith (.ssub o) s c 0x2F) ∧ (j < x.w → e.wi ≤ x.ri + j → exec (.ssub o) s = .next s) ∧
          (j < x.w → x.ri + j < e.wi → free d → PutsTileOp (.ssub o) s c c.s (.ssub d key (x.ri + j))) ∧
          exec (.ssubClose o) s = .next (retire c (c.s.setStrm key { e with subs := e.subs.filter (fun y => y.cluster ≠ c.cl) }) [])) ∧
        (¬ may j → TrapsWith (.ssubOpen o) s c 0x2F ∧ TrapsWith (.ssubCopy o) s c 0x2F) ∧
        (may j → exec (.ssubOpen o) s = .next (retire c (c.s.setStrm key { e with subs := e.subs ++ [⟨c.cl, e.wi, j, none, none, c.t.team, c.pc⟩] }) []) ∧
          let h := shapeOf (c.t.shAt d)
          (shapeOk (c.t.shAt d) = false ∨ 32768 < h.count * h.w → TrapsWith (.ssubCopy o) s c 0x24) ∧
          (shapeOk (c.t.shAt d) = true → h.count * h.w ≤ 32768 → exec (.ssubCopy o) s = .next (retire c (c.s.setStrm key
            { e with subs := e.subs ++ [⟨c.cl, e.wi, j, some (h, 0), none, c.t.team, c.pc⟩] }) [])))) ∧
      (Passes 0xB8 o s c → (e.sub? c.cl = none ∨ j = 0 → TrapsWith (.srel o) s c 0x2F) ∧
        (∀ x, e.sub? c.cl = some x → 1 ≤ j → (e.wi - x.ri < j → TrapsWith (.srel o) s c 0x2F) ∧
          (j ≤ e.wi - x.ri → exec (.srel o) s = .next (retire c (c.s.setStrm key
            { e with subs := e.subs.map (fun y => if y.cluster = c.cl then { y with ri := y.ri + j } else y) }) [])))) ∧
      (Passes 0xB9 o s c → ∀ i ∈ [Instr.sstat32 o, Instr.sstat o], ∃ w, Writes i s c [.s (Ctx.sn o.d) w] ∧ bits w.toNat 16 16 = e.wi % 2 ^ 16 ∧
        bits w.toNat 1 7 = 0 ∧
        (∀ x, e.sub? c.cl = some x → w.getLsbD 0 = true ∧ bits w.toNat 8 8 = min (e.wi - x.ri) 255) ∧
        (e.sub? c.cl = none → bits w.toNat 0 16 = 0))))

/-- R281, R293, R297, R298: a tile-port operation, with nothing earlier that conflicts, acts on its tile and leaves the port, and a slot is
published whole with its tc word, or copied to a copy subscription's box, 4 KiB in a move (log 46). -/
def Obligations.TilePortAndStreamsMoveWholeTiles : Prop :=
  ∀ (s : State) (cl : Nat) (x : TileSt) (t : Stream) (c : Cluster) (p : Nat), c = s.cluster cl → s.stream? (seqBase + cl) = some t → t.ended = false →
    ownerOf s cl = some p → quiet s p →
    let tileAfter (d : Nat) (f : Nat → Byte) : Prop := ∃ s' c', exec (.tileOpComplete cl x.stamp) s = .next s' ∧ s'.cluster cl = c' ∧ s'.mem = s.mem ∧
      c' = { c with t := c'.t, tc := c'.tc, tue := c'.tue, hq := c'.hq, port := c.port.filter (fun y => y.stamp ≠ x.stamp) } ∧
      ∀ k, Tab.get 0 c'.t k = if k / 32768 = d then f (k % 32768) else Tab.get 0 c.t k
    let old (d k : Nat) : Byte := Tab.get 0 c.t (32768 * d + k)
    let lives (sid : Nat) : Prop := s.stream? sid = none ∨ ∃ u, s.stream? sid = some u ∧ u.ended = false ∧ u.live ≠ 0
    (∀ op, c.port.find? (fun y => y.stamp = op) = none → exec (.tileOpComplete cl op) s = .next s) ∧
    (c.port.find? (fun y => y.stamp = x.stamp) = some x → c.badTile x.op.reads = false →
      (c.clear x.stamp x.op.reads x.op.writes = false → exec (.tileOpComplete cl x.stamp) s = .next s) ∧
      (c.clear x.stamp x.op.reads x.op.writes = true →
        (∀ d, x.op = .zero d → tileAfter d (fun _ => 0)) ∧
        (∀ d w, x.op = .fill d w → tileAfter d (fun k => nth 0 (bytesOf w.toNat 4) (k % 4))) ∧
        (∀ d a, x.op = .mov d a → tileAfter d (old a)) ∧
        (∀ d a w z, x.op = .xpose d a w → tcOf w = some z → z.fmt ≠ 10 → z.fmt ≠ 11 → z.cols ≤ 128 → ∃ f, tileAfter d f ∧ ∀ s',
          exec (.tileOpComplete cl x.stamp) s = .next s' → ∀ r < z.rows, ∀ k < z.cols, (s'.cluster cl).elem d ⟨z.fmt, z.cols, z.rows⟩ k r = c.elem a z r k) ∧
        (∀ d h base ps, x.op = .load d h base ps → let as := spasIn ps h.box
          base + as.length ≤ 32768 → tileAfter d (fun k => if base ≤ k ∧ k < base + as.length then s.byteAt (nth 0 as (k - base)) else old d k)) ∧
        (∀ a h base ps, x.op = .store a h base ps → let as := spasIn ps h.box
          as.length = h.bytes → as.Nodup → ∃ s', exec (.tileOpComplete cl x.stamp) s = .next s' ∧
            (∀ i < as.length, s'.byteAt (nth 0 as i) = old a (base + i)) ∧ (∀ b, b ∉ as → s'.byteAt b = s.byteAt b) ∧
            s'.cluster cl = { c with port := c.port.filter (fun y => y.stamp ≠ x.stamp) }) ∧
        (∀ d h base len got e q, x.op = .loadq d h base len got → hqOf s cl h = e :: q → e.left = 0 → e.bad = false → got ≤ len → len ≤ got + 384 →
          e.words.length = 96 → base + len ≤ 32768 → tileAfter d (fun k => if base + got ≤ k ∧ k < base + len then
            nth 0 (bytesOfWords e.words) (k - base - got) else old d k) ∧
          ∀ s', exec (.tileOpComplete cl x.stamp) s = .next s' → hqOf s' cl h = q) ∧
        (∀ d h base len got, x.op = .loadq d h base len got → hqOf s cl h = [] → exec (.tileOpComplete cl x.stamp) s = .next s) ∧
        (∀ d key slot, x.op = .ssub d key slot → tileAfter d (fun k => s.byteAt (slotSpa key (s.strmEnt key) slot + k)) ∧
          ∀ s', exec (.tileOpComplete cl x.stamp) s = .next s' → (s'.cluster cl).tcAt d = Tab.get 0 (s.strmEnt key).tcs (slot % (s.strmEnt key).nslot)))) ∧
    (∀ key e pn bs, e = s.strmEnt key → e.pending = some pn → pn.box = none → pn.bytes = some bs → bs.length ≤ 32768 →
      (s.part (bits e.reg.toNat 37 3)).pre ≠ 2 → lives pn.sid →
      ∃ s', exec (.slotPublished key) s = .next s' ∧ Stores s s' (slotSpa key e e.wi) (bs ++ List.replicate (32768 - bs.length) 0) ∧
        s'.strmEnt key = { e with wi := e.wi + 1, pending := none, tcs := Tab.set 0 e.tcs (e.wi % e.nslot) pn.tc }) ∧
    (∀ key e pn h ps, e = s.strmEnt key → e.pending = some pn → pn.box = some (h, ps) → bits e.reg.toNat 37 3 = p → (s.part p).pre ≠ 2 →
      lives pn.sid → (spasIn ps h.box).length ≤ 32768 →
      let bs := (spasIn ps h.box).map s.byteAt
      ∃ s', exec (.slotPublished key) s = .next s' ∧ Stores s s' (slotSpa key e e.wi) (bs ++ List.replicate (32768 - bs.length) 0) ∧
        s'.strmEnt key = { e with wi := e.wi + 1, pending := none, tcs := Tab.set 0 e.tcs (e.wi % e.nslot) pn.tc }) ∧
    (∀ key e sb h0 k tm a, e = s.strmEnt key → e.sub? cl = some sb → sb.copy = some (h0, k) → sb.ri < e.wi → bits e.reg.toNat 37 3 = p →
      (s.part p).halted = false → (s.part p).pre = 0 → s.team? sb.team = some tm →
      let h := { h0 with base := (h0.base + k * h0.bytes) % 2 ^ 64 }
      let w : Who := ⟨p, dieOf cl, tm.wbase, tm.wsize⟩
      let n := 4096 / h0.w * h0.w
      let part (places : List (Nat × Nat)) (data : List Byte) : Prop := ∀ l, takeRuns places n = [(a, l)] → (data.take n).length = l →
        ∃ s', exec (.subscriptionSlotCopy key cl) s = .next s' ∧ Stores s s' a (data.take n) ∧
          ∀ y ∈ (s'.strmEnt key).subs, y.cluster = cl → ∃ z ∈ e.subs,
            (data.length ≤ n → y = { z with ri := z.ri + 1, copy := some (h0, k + 1), moving := none }) ∧
            (n < data.length → ∃ g, y = { z with moving := some ⟨dropRuns places n, data.drop n, g⟩ })
      (sb.moving = none → runsFault s w Acc.write h.box = none →
        part (h.box.flatMap (fun r => runs s w Acc.write r.1 r.2)) (s.readMem (slotSpa key e sb.ri) h.bytes)) ∧
      (∀ m, sb.moving = some m → part m.runs m.data))

/-- R280, R288 to R292: the array executes the head of its queue once 16 clocks have passed. MMA adds each element's product, or each block's, to its
cell in order, rounding each sum once; DRAIN scales and converts every cell into the tile, or pushes entries as their queue has room; ACCZ zeroes; the
mode switches. -/
def Obligations.ArrayExecutesItsQueueInOrder : Prop :=
  ∀ (s : State) (cl : Nat) (x : CmdSt) (t : Stream) (c : Cluster), s.stream? (seqBase + cl) = some t → t.ended = false → s.ue = [] → (s.cluster cl).cue = [] →
    (s.cluster cl).tue = [] →
    (∀ q, ownerOf s cl = some q → (s.part q).migring = 0) → (ownerOf s cl).isSome = true →
    (∀ h rest, (s.cluster cl).cq = h :: rest → (s.cluster cl).stopped = true ∨ s.clock < h.issued + 16 →
      ∀ i ∈ [Instr.mmaExecute cl, .drainExecute cl, .drainPushResume cl, .acczExecute cl, .amodeSwitch cl], exec i s = .next s) ∧
    (arrayHead s cl = some (x, c) →
      let pops (i : Instr) (y : Cluster) : Prop := exec i s = .next (s.setCluster cl { y with cq := c.cq.tail })
      (∀ d a b m n k fmt skip mode, x.cmd = .mma d a b m n k fmt skip mode → d < 16 → n ≤ 128 →
        ∃ cells, pops (.mmaExecute cl) { c with cells := cells } ∧
          (∀ d' i j, d' < 16 → j < 128 → (d' ≠ d ∨ m ≤ i ∨ n ≤ j) → ({ c with cells := cells } : Cluster).accAt d' i j = c.accAt d' i j) ∧
          ∀ i < m, ∀ j < n,
            let ftz := ftzOf mode
            let sum (v : Nat) (first : Bool) (p : Machine.Num) : Nat := (f32.round 0 ftz (sumNum false [f32.num (first && dazOf mode) v, p])).1
            let e (z r q : Nat) : Machine.Num := (fmtOf fmt).num (dazOf mode) (c.elem z ⟨fmt, if z = a then m else n, k⟩ r q)
            ∃ v : Nat → Nat, v 0 = c.accAt d i j ∧
              (fmt = 1 ∨ fmt = 2 → a ≠ b → (∀ q < k, v (q + 1) = sum (v q) (q == 0) (mulNum (e a i q) (e b j q))) ∧
                (0 < k → ({ c with cells := cells } : Cluster).accAt d i j = v k)) ∧
              (fmt = 10 ∨ fmt = 11 → (∀ q < k / 32, v (q + 1) = sum (v q) (q == 0)
                  (let z := bxBlock c a ⟨fmt, m, k⟩ i q
                   if skip && z.e0 = 0 && z.e1 = 0 then .fin false 0 0 else bxProduct (fmt = 11) ftz z (bxBlock c b ⟨fmt, n, k⟩ j q))) ∧
                (0 < k / 32 → ({ c with cells := cells } : Cluster).accAt d i j = v (k / 32)))) ∧
      (∀ a d df keep m n r q z ps mode, x.cmd = .drain a (some d) none df false keep m n r q z ps mode → x.begun = false → x.qpush = [] → x.rqpush = [] →
        a < 16 → n ≤ 128 → m ≤ 128 → df ∈ [0, 1, 2, 3, 5] → m * n * tileBits df / 8 ≤ 32768 →
        let scale (base i : Nat) : Machine.Num := if base = 0 then .fin false 1 0 else
          f32.num (dazOf mode) (ofBytes ((spasIn ps [((base + 4 * i) % 2 ^ 64, 4)]).map s.byteAt))
        ∃ s' c', exec (.drainExecute cl) s = .next s' ∧ s'.mem = s.mem ∧ s'.cluster cl = c' ∧
          c' = { c with t := c'.t, cells := c'.cells, cq := c.cq.tail } ∧
          (∀ i < m, ∀ j < n, c'.elem d ⟨df, m, n⟩ i j = drainTo df mode (drainOut mode (c.accAt a i j) (scale r i) (scale q j) (scale z 0))) ∧
          (∀ k, k / 32768 ≠ d → Tab.get 0 c'.t k = Tab.get 0 c.t k) ∧
          ∀ a' i j, a' < 16 → j < 128 → c'.accAt a' i j = if a' = a ∧ keep = false then 0 else c.accAt a' i j) ∧
      (∀ a tile h df rq keep m n r q z ps mode e es, x.cmd = .drain a tile (some h) df rq keep m n r q z ps mode → x.begun = true → x.qpush = e :: es →
        es ≠ [] → let hq := Tab.get [] c.hq h
        (4 ≤ hq.length → exec (.drainPushResume cl) s = .next (s.setCluster cl { c with cq := x :: c.cq.tail })) ∧
        (hq.length < 4 → exec (.drainPushResume cl) s = .next (s.setCluster cl
          { c with cq := { x with qpush := es } :: c.cq.tail, nqe := c.nqe + 1, hq := Tab.set [] c.hq h (hq ++ [⟨c.nqe, 0, e, false⟩]) }))) ∧
      (∀ a all, x.cmd = .accz a all → ∃ cells, pops (.acczExecute cl) { c with cells := cells } ∧ ∀ a' i j, a' < 16 → j < 128 →
        ({ c with cells := cells } : Cluster).accAt a' i j = if all = true ∨ a' = a then 0 else c.accAt a' i j) ∧
      (∀ spl, x.cmd = .amode spl → pops (.amodeSwitch cl) { c with amode := spl }))

-- Spline instructions

/-- R304, R307, R313 to R319: KSET and KSET.MAP write a knot register and the row map, KGET reads one; the others trap ARRAY_MODE outside spline
mode, check tiles, shapes, knots and boxes in that order, and enqueue their command; SREFINE gives its register the finer grid at issue. KSET
stores x0 as it is given, whatever DAZ is (log 79). -/
def Obligations.SplineInstructionsAtIssue : Prop :=
  ∀ (o : Opnds) (s : State) (c : Ctx),
    let d := Ctx.fn o.d
    let a := Ctx.fn o.a
    let b := Ctx.fn o.b
    let x0 := c.srcF f32 o.a 0
    let h := c.srcF f32 o.b 0
    let ctl := c.uni o.c
    let fld (lo n : Nat) : Nat := bits ctl.toNat lo n
    let fit : Prop := (f32.num false x0).isFin = true ∧ 2 ^ 23 ≤ h ∧ h < 0x7F800000 ∧ 1 ≤ fld 0 5 ∧ fld 0 5 ≤ 29 ∧ fld 5 3 = 0 ∧ fld 8 2 ≠ 3 ∧
      fld 10 2 ≠ 3 ∧ fld 12 20 = 0 ∧ fld 0 5 + (if fld 8 2 = 0 then 3 else fld 8 2) ≤ 32
    let free (ns : List Nat) : Prop := ∀ x ∈ c.clu.port, ∀ n ∈ ns, ∀ st slot, x.op ≠ .ssub n st slot
    let float (n : Nat) (t : Tc) : Prop := tcOf (c.clu.tcAt n) = some t ∧ (t.fmt = 0 ∨ t.fmt = 2)
    let knots (n : Nat) : RowKnots := (List.range n).map (fun r => c.clu.knot (Tab.get 0 c.clu.rmap r))
    let valid (n : Nat) : Prop := ∀ k ∈ knots n, k.g ≠ 0
    let boxed (i : Instr) (acc : Acc) (al : Nat) (rs : List (Nat × Nat)) (cmd : Pages → Cmd) : Prop :=
      (∀ f, (c.s.part c.t.part).blocks = [] → boxFault c.s c.who acc al rs = some f → exec i s = .next (takeTrap s c.sid c.k f.code f.addr 0)) ∧
      (boxFault c.s c.who acc al rs = none → Unblocked c → PutsCommand i s c (cmd (pagesFor c.s c.who acc rs)) id)
    (Passes 0xC0 o s c → (¬ fit → TrapsWith (.kset o) s c 0x30) ∧ (fit → exec (.kset o) s = .next (retire c (c.s.setCluster c.cl { c.clu with
      k := Tab.set Knot.zero c.clu.k d ⟨wd x0, wd h, invOf c.mode (wd h), ctl⟩ }) []))) ∧
    (Passes 0xC0 o s c → let r := (c.uni o.a).toNat
      let n := (c.uni o.b).toNat
      (n = 0 ∨ 128 < r + n → TrapsWith (.ksetMap o) s c 0x30) ∧
      (1 ≤ n → r + n ≤ 128 → ∃ m, exec (.ksetMap o) s = .next (retire c (c.s.setCluster c.cl { c.clu with rmap := m }) []) ∧
        ∀ q, Tab.get 0 m q = if r ≤ q ∧ q < r + n then d else Tab.get 0 c.clu.rmap q)) ∧
    (Passes 0xC1 o s c → ∀ i ∈ [Instr.kget32 o, Instr.kget o], ∃ w, Writes i s c [.s (Ctx.sn o.d) w] ∧ let k := c.clu.knot a
      (o.mod = 0 → w = k.x0) ∧ (o.mod = 1 → w = k.h) ∧ (o.mod = 2 → w = k.ih) ∧ (o.mod = 3 → w = k.ctl)) ∧
    (∀ e ∈ [(0xC2, Instr.sload32 o), (0xC2, .sload o), (0xC3, .sstore32 o), (0xC3, .sstore o), (0xC4, .szero32 o), (0xC4, .szero o), (0xC5, .seval32 o),
      (0xC5, .seval o), (0xC6, .sder32 o), (0xC6, .sder o), (0xC7, .sgrad32 o), (0xC7, .sgrad o), (0xC8, .srefine32 o), (0xC8, .srefine o)],
      Passes e.1 o s c → c.clu.mode = false → TrapsWith e.2 s c 0x2D) ∧
    (c.clu.mode = true →
      (let w := c.t.shAt a
       let q := shapeOf w
       let box : Prop := shapeOk w = true ∧ q.rank = 3 ∧ q.elem = 2 ∧ q.d0 = 32 ∧ q.d1 ≤ 128 ∧ q.d2 ≤ 128
       (∀ e ∈ [(0xC2, Instr.sload32 o), (0xC2, .sload o), (0xC3, .sstore32 o), (0xC3, .sstore o)], Passes e.1 o s c → ¬ box → TrapsWith e.2 s c 0x24) ∧
       (∀ i ∈ [Instr.sload32 o, .sload o], Passes 0xC2 o s c → box → boxed i Acc.read 1 (coefRuns q) (.sload q)) ∧
       (∀ i ∈ [Instr.sstore32 o, .sstore o], Passes 0xC3 o s c → box → boxed i Acc.write 1 (coefRuns q) (.sstore q))) ∧
      (Passes 0xC4 o s c → ∀ i ∈ [Instr.szero32 o, Instr.szero o], PutsCommand i s c .szero id) ∧
      (Passes 0xC5 o s c → free [d, a] → ∀ i ∈ [Instr.seval32 o, Instr.seval o],
        let tiles (x y : Tc) : Prop := float a x ∧ float d y ∧ x.cols ≤ 128 ∧ y.cols ≤ 128 ∧ y.rows = x.rows ∧ (o.mod = 1 → y.fmt = 0)
        ((∀ x y, ¬ tiles x y) → TrapsWith i s c 0x2C) ∧
        (∀ x y, tiles x y → (¬ valid x.cols → TrapsWith i s c 0x30) ∧ (valid x.cols →
          PutsCommand i s c (.seval d a (c.clu.tcAt d) (c.clu.tcAt a) (decide (o.mod = 1)) (knots x.cols) (c.mode &&& 0xFF)) id))) ∧
      (Passes 0xC6 o s c → free [d, a, b] → ∀ i ∈ [Instr.sder32 o, Instr.sder o],
        let tiles (x g y : Tc) : Prop := float a x ∧ float b g ∧ float d y ∧ x.cols ≤ 128 ∧ g.cols ≤ 128 ∧ g.rows = x.rows ∧ y.rows = x.rows ∧
          y.cols = x.cols ∧ (o.mod = 1 → y.fmt = 0)
        ((∀ x g y, ¬ tiles x g y) → TrapsWith i s c 0x2C) ∧
        (∀ x g y, tiles x g y → (¬ valid x.cols → TrapsWith i s c 0x30) ∧ (valid x.cols → PutsCommand i s c
          (.sder d a b (c.clu.tcAt d) (c.clu.tcAt a) (c.clu.tcAt b) (decide (o.mod = 1)) (knots x.cols) (c.mode &&& 0xFF)) id))) ∧
      (Passes 0xC7 o s c → free [a, b] → ∀ i ∈ [Instr.sgrad32 o, Instr.sgrad o],
        let tiles (x g : Tc) : Prop := float a x ∧ float b g ∧ x.cols ≤ 128 ∧ g.cols ≤ 128 ∧ g.rows = x.rows
        let w := c.t.shAt d
        let q := shapeOf w
        ((∀ x g, ¬ tiles x g) → TrapsWith i s c 0x2C) ∧
        (∀ x g, tiles x g →
          let box : Prop := shapeOk w = true ∧ q.rank = 3 ∧ (q.elem = 5 ∨ q.elem = 8) ∧ q.d0 = 32 ∧ x.cols ≤ q.d1 ∧ g.cols ≤ q.d2
          (¬ box → TrapsWith i s c 0x24) ∧ (box → ¬ valid x.cols → TrapsWith i s c 0x30) ∧
          (box → valid x.cols → boxed i (Acc.atomic false) 4 (gradRuns q x.cols g.cols)
            (fun ps => .sgrad q a b (c.clu.tcAt a) (c.clu.tcAt b) (knots x.cols) ps (c.mode &&& 0xFF))))) ∧
      (Passes 0xC8 o s c → ∀ i ∈ [Instr.srefine32 o, Instr.srefine o],
        let k := c.clu.knot d
        let fit : Prop := k.g ≠ 0 ∧ k.deg = 3 ∧ k.g ≤ 14 ∧ 2 ≤ bits k.h.toNat 23 8
        (¬ fit → TrapsWith i s c 0x30) ∧
        (fit → PutsCommand i s c (.srefine d k.g c.clu.rmap (c.mode &&& 0xFF)) (fun z => { z with
          k := Tab.set Knot.zero z.k d ⟨k.x0, k.h - 0x00800000, invOf c.mode (k.h - 0x00800000), k.ctl + wd k.g⟩ }))))

/-- R308: the basis values and their derivatives at a fraction of an interval, each step rounded. -/
def basisRule : Prop :=
  ∀ (ftz : Bool) (w : Machine.Num),
    let R (x : Machine.Num) : Machine.Num := f32.num false (f32.round 0 ftz x).1
    let mul (x y : Machine.Num) : Machine.Num := R (mulNum x y)
    let add (x y : Machine.Num) : Machine.Num := R (sumNum false [x, y])
    let sub (x y : Machine.Num) : Machine.Num := R (sumNum false [x, y.neg])
    let const (x : Nat) : Machine.Num := f32.num false x
    let one := const 0x3F800000
    let u := sub one w
    let w2 := mul w w
    let w3 := mul w2 w
    let u2 := mul u u
    let u3 := mul u2 u
    basis32 ftz 1 w = ([u, w], [const 0xBF800000, one]) ∧
    (let b0 := mul u2 (const 0x3F000000)
     let b2 := mul w2 (const 0x3F000000)
     let e0 := sub (const 0) u
     basis32 ftz 2 w = ([b0, sub (sub one b0) b2, b2], [e0, sub (sub (const 0) e0) w, w])) ∧
    (let b0 := mul u3 (const 0x3E2AAAAB)
     let b3 := mul w3 (const 0x3E2AAAAB)
     let b1 := add (sub (mul w3 (const 0x3F000000)) w2) (const 0x3F2AAAAB)
     let e0 := sub (const 0) (mul u2 (const 0x3F000000))
     let e3 := mul w2 (const 0x3F000000)
     let e1 := sub (mul w2 (const 0x3FC00000)) (mul w (const 0x40000000))
     basis32 ftz 3 w = ([b0, b1, sub (sub (sub one b0) b1) b3, b3], [e0, e1, sub (sub (sub (const 0) e0) e1) e3, e3]))

/-- R305, R309, R310, Table 14.2: where an input lies on its grid, and the quantities of a cell there. -/
def cellRule : Prop :=
  ∀ (mode : Word) (k : Knot) (x : Machine.Num) (c : Cluster) (i o : Nat),
    let ftz := ftzOf mode
    let R (x : Machine.Num) : Machine.Num := f32.num false (f32.round 0 ftz x).1
    let B (x : Machine.Num) : Machine.Num := bf16.num false (bf16.round 0 ftz x).1
    let n := k.deg
    let whole (m : Nat) : Machine.Num := Machine.Num.ofInt m
    let zero : Machine.Num := .fin false 0 0
    let ih := f32.num false k.ih.toNat
    let t := R (mulNum (sumNum false [x, (f32.num false k.x0.toNat).neg]) ih)
    let l := locate ftz k x
    let at_ (w : Machine.Num) : Prop := l.beta = (basis32 ftz n w).1.map B ∧ l.delta = (basis32 ftz n w).2.map B
    (l.ih = ih ∧ l.clamp = k.clamp ∧
      (t.isNan = true → l.side = .nan ∧ l.m = 0) ∧
      (t.isNan = false → t.less zero = false → t.less (whole k.g) = true → l.side = .inside ∧ t.less (whole l.m) = false ∧
        t.less (whole (l.m + 1)) = true ∧ l.d = zero ∧ at_ (R (sumNum false [t, (whole l.m).neg]))) ∧
      (t.isNan = false → t.less zero = true → l.side = .left ∧ l.m = 0 ∧ l.d = t ∧ at_ zero) ∧
      (t.isNan = false → t.less zero = false → t.less (whole k.g) = false → l.side = .right ∧ l.m = k.g - 1 ∧
        l.d = R (sumNum false [t, (whole k.g).neg]) ∧ at_ (f32.num false 0x3F800000))) ∧
    (let coef (q : Nat) : Machine.Num := bf16.num (dazOf mode) (ofBytes (Tab.getList 0 c.cells (64 * (128 * i + o) + 2 * q) 2))
     let sum (vs : List Machine.Num) : Machine.Num := R (sumNum false ((List.range (n + 1)).map (fun j => mulNum (coef (l.m + j)) (nth zero vs j))))
     let p := sum l.beta
     let slope := R (mulNum (sum l.delta) ih)
     let out : Prop := l.side = .left ∨ l.side = .right
     (l.side = .nan → splineTerm c mode i o l = .nan false ∧ splineSlope c mode i o l = .nan false ∧ ∀ j ≤ n, splineGamma mode l j = some (.nan false)) ∧
     (l.side = .inside → splineTerm c mode i o l = p ∧ splineSlope c mode i o l = slope ∧ ∀ j ≤ n, splineGamma mode l j = some (nth zero l.beta j)) ∧
     (out → k.clamp = 0 → splineTerm c mode i o l = p ∧ splineSlope c mode i o l = zero ∧ ∀ j ≤ n, splineGamma mode l j = some (nth zero l.beta j)) ∧
     (out → k.clamp = 1 → splineTerm c mode i o l = zero ∧ splineSlope c mode i o l = zero ∧ ∀ j, splineGamma mode l j = none) ∧
     (out → k.clamp = 2 → splineTerm c mode i o l = R (sumNum false [p, mulNum l.d (sum l.delta)]) ∧ splineSlope c mode i o l = slope ∧
       ∀ j ≤ n, splineGamma mode l j = some (R (sumNum false [nth zero l.beta j, mulNum l.d (nth zero l.delta j)]))) ∧
     ∀ j, n < j → splineGamma mode l j = none)

/-- R305, R308 to R310, R315 to R319, Table 14.2: the array in spline mode. SLOAD and SSTORE move every cell's coefficients, SZERO clears the cells,
SEVAL and SDER write the sums of their terms in order, SGRAD makes one add at a time, SREFINE doubles the grid of the rows mapped to its
register; the terms come from the basis values at the place where an input lies on its grid. A command reads all its sources before it
writes its tile, also where that is one of them (the model's choice, log 53). -/
def Obligations.SplineArrayExecutes : Prop :=
  basisRule ∧ cellRule ∧ ∀ (s : State) (cl : Nat) (x : CmdSt) (t : Stream) (c : Cluster), s.stream? (seqBase + cl) = some t → t.ended = false → s.ue = [] → (s.cluster cl).cue = [] →
    (s.cluster cl).tue = [] →
    (∀ q, ownerOf s cl = some q → (s.part q).migring = 0) → (ownerOf s cl).isSome = true → arrayHead s cl = some (x, c) →
    let cellsAfter (i : Instr) (f : Nat → Byte) : Prop := ∃ s' c', exec i s = .next s' ∧ s'.mem = s.mem ∧ s'.cluster cl = c' ∧
      c' = { c with cells := c'.cells, cq := c.cq.tail } ∧ ∀ k, Tab.get 0 c'.cells k = f k
    let tileAfter (i : Instr) (d : Nat) (t : Tc) (f : Nat → Nat → Nat) : Prop := ∃ tb, exec i s = .next (s.setCluster cl { c with t := tb, cq := c.cq.tail }) ∧
      (∀ k, k / 32768 ≠ d → Tab.get 0 tb k = Tab.get 0 c.t k) ∧ ∀ r < t.rows, ∀ q < t.cols, ({ c with t := tb } : Cluster).elem d t r q = f r q
    let box (h : Shape) : Prop := 1 ≤ h.d1 ∧ h.d1 ≤ 128 ∧ 1 ≤ h.d2 ∧ h.d2 ≤ 128 ∧ h.d3 ≤ 1
    (∀ h ps, x.cmd = .sload h ps → box h → cellsAfter (.sloadExecute cl) (fun k =>
      let i := k / 8192
      let o := k / 64 % 128
      if i < h.d1 ∧ o < h.d2 then s.byteAt (spaIn ps ((h.rowAt (i + o * h.d1) + k % 64) % 2 ^ 64)) else Tab.get 0 c.cells k)) ∧
    (∀ h ps, x.cmd = .sstore h ps → box h → let as := spasIn ps (coefRuns h)
      as.Nodup → ∃ s', exec (.sstoreExecute cl) s = .next s' ∧ s'.cluster cl = { c with cq := c.cq.tail } ∧ (∀ b, b ∉ as → s'.byteAt b = s.byteAt b) ∧
        ∀ i < h.d1, ∀ o < h.d2, ∀ b < 64,
          s'.byteAt (spaIn ps ((h.rowAt (i + o * h.d1) + b) % 2 ^ 64)) = Tab.get 0 c.cells (64 * (128 * i + o) + b)) ∧
    (x.cmd = .szero → cellsAfter (.szeroExecute cl) (fun _ => 0)) ∧
    (∀ d a tcd tca acc ks mode td ta, x.cmd = .seval d a tcd tca acc ks mode → tcOf tcd = some td → tcOf tca = some ta → td.rows = ta.rows →
      td.fmt = 0 ∨ td.fmt = 2 → tileAfter (.sevalExecute cl) d td (fun b o => outBits td (ftzOf mode) (runningSum (ftzOf mode)
        (if acc then c.tileNum mode d td b o else .fin false 0 0)
        (ks.zipIdx.map (fun k => splineTerm c mode k.2 o (locate (ftzOf mode) k.1 (c.tileNum mode a ta b k.2))))))) ∧
    (∀ d a g tcd tca tcg acc ks mode td ta tg, x.cmd = .sder d a g tcd tca tcg acc ks mode → tcOf tcd = some td → tcOf tca = some ta → tcOf tcg = some tg →
      td.rows = ta.rows → td.cols = ks.length → td.fmt = 0 ∨ td.fmt = 2 → tileAfter (.sderExecute cl) d td (fun b i =>
        outBits td (ftzOf mode) (runningSum (ftzOf mode) (if acc then c.tileNum mode d td b i else .fin false 0 0)
          ((List.range tg.cols).map (fun o => mulNum (c.tileNum mode g tg b o)
            (splineSlope c mode i o (locate (ftzOf mode) (nth Knot.zero ks i) (c.tileNum mode a ta b i)))))))) ∧
    (∀ h a g tca tcg ks ps mode ta tg, x.cmd = .sgrad h a g tca tcg ks ps mode → tcOf tca = some ta → tcOf tcg = some tg → c = s.cluster cl →
      let k := x.unit % 4
      let o := x.unit / 4 % tg.cols
      let i := x.unit / 4 / tg.cols % ta.cols
      let b := x.unit / 4 / tg.cols / ta.cols
      let l := locate (ftzOf mode) (nth Knot.zero ks i) (c.tileNum mode a ta b i)
      let spa := spaIn ps ((h.rowAt (i + o * h.d1) + 4 * (l.m + k)) % 2 ^ 64)
      let after (s' : State) : Prop := s'.cluster cl = if 4 * tg.cols * ta.cols * ta.rows ≤ x.unit + 1 then { c with cq := c.cq.tail }
        else { c with cq := { x with begun := true, unit := x.unit + 1 } :: c.cq.tail }
      (splineGamma mode l k = none → ∃ s', exec (.sgradExecute cl) s = .next s' ∧ after s' ∧ s'.mem = s.mem) ∧
      (∀ v, splineGamma mode l k = some v → ∃ s', exec (.sgradExecute cl) s = .next s' ∧ after s' ∧
        (∀ q, q < spa ∨ spa + 4 ≤ q → s'.byteAt q = s.byteAt q) ∧
        wd (ofBytes (s'.readMem spa 4)) = (caddWord mode (wd (ofBytes (s.readMem spa 4)))
          (f32.num false (f32.round 0 false (rmul (ftzOf mode) (c.tileNum mode g tg b o) v)).1)).1)) ∧
    (∀ k g rmap mode, x.cmd = .srefine k g rmap mode → cellsAfter (.srefineExecute cl) (fun q =>
      let i := q / 8192
      let o := q / 64 % 128
      let m := q % 64 / 2
      let v := c.coef mode i o
      if i < 128 ∧ Tab.get 0 rmap i = k then
        nth 0 (bytesOf (if 2 * g + 2 < m then 0 else if m % 2 = 0 then halved mode 1 [v (m / 2), v (m / 2 + 1)]
          else halved mode 3 [v (m / 2), mulNum (Machine.Num.ofInt 6) (v (m / 2 + 1)), v (m / 2 + 2)]) 2) (q % 2)
      else Tab.get 0 c.cells q))

-- The fabric

/-- Nothing holds a remote access to a package back, and n entries are free; a request to SELF meets no access of this package. -/
def remoteReady (c : Ctx) (pkg n : Nat) : Prop :=
  c.unbound ∧ c.t.inTry = false ∧ c.t.acq = [] ∧ loadsOut c.s c.sid = false ∧ c.t.outst = 0 ∧ c.othersOut = false ∧
  freeEntries c.s (tblOf c.sid) n ≠ none ∧
  (pkg = c.part.self_ → c.s.drains = [] ∧ ∀ e ∈ c.s.ott, ∀ x, e.2 = some x → remoteKind x.kind = true ∨ x.kind = .persist)

/-- The instruction completes by sending packets of a type to a package, each under an entry of its own, that together carry the pieces ps. -/
def SendsPackets (i : Instr) (s : State) (c : Ctx) (kind : ReqKind) (acq : Bool) (ps : List Piece) (ty pkg : Nat)
    (R : List Piece → Packet → Prop) : Prop :=
  ∃ (s2 : State) (gs : List (Tag × List Piece × Packet)) (u : Stream), exec i s = .next (retire c s2 []) ∧
    s2 = { c.s with
      ott := s2.ott, fout := c.s.fout ++ gs.map (fun g => g.2.2), streams := s2.streams, wire := c.s.wire ++ gs.map (fun g => packetDie g.2.2) } ∧
    (gs.flatMap (fun g => g.2.1)).Perm ps ∧
    (∀ g ∈ gs, g.2.2.ty = ty ∧ g.2.2.dpkg % 512 = pkg ∧ g.2.2.spkg = c.part.self_ ∧ g.2.2.djob = c.part.djob ∧ g.2.2.tag = tagOf g.1 ∧
      R g.2.1 g.2.2 ∧ ∃ e, Tab.get none s2.ott (entKey g.1.tbl g.1.ent) = some e ∧ e.sid = c.sid ∧ e.kind = kind ∧ e.pieces = g.2.1 ∧ e.pc = c.pc ∧
        e.issued = c.s.clock ∧ e.limit = timeoutOf c.s c.t.part) ∧
    s2.stream? c.sid = some u ∧ u = { c.t with outst := u.outst, acq := u.acq } ∧ u.outst = (if counts kind then gs.length else 0) ∧
    u.acq = if acq then gs.map (fun g => g.1) else []

/-- R324, R331 to R334, R336 to R339, Table 15.8: remote instructions check the base, the package and the alignment, and send their lanes in packets of
one granule each, of at most 96 lanes, 64 of ATOMR, 40 of CASR (the payloads are log 20's); FLAGW and MSG send one; MCST and MCRED check their descriptor, the membership and the boxes and enqueue a collective; MSGQ and GRPQ read. -/
def Obligations.FabricInstructionsSendPackets : Prop :=
  ∀ (o : Opnds) (s : State) (c : Ctx),
    let base := (c.pair (Ctx.sn o.a)).toNat
    let pkg := bits base 48 9
    let n := typeSize c.ty
    let va (ta : Nat) : Addr := BitVec.ofNat 64 (bits base 48 16 * 2 ^ 48 + ta)
    let reach : Prop := bits base 57 7 = 0 ∧ c.part.den = true ∧ pkg ≤ c.part.dlast
    let disp := dispOf o.c
    let pieces (disp : Addr) (op : Nat → MemOp) (dst : Nat → Dst) : List Piece :=
      c.act.list.map (fun l => ⟨l, c.ta disp l, c.ta disp l, op l, dst l, []⟩)
    let granule (ty : Nat) (g : List Piece) (q : Packet) : Prop := q.ta % 256 = 0 ∧ g ≠ [] ∧ g.length ≤ packetLanes ty ∧ ∀ p ∈ g, p.va / 256 * 256 = q.ta
    let flag := bits (c.pair (Ctx.sn o.c)).toNat 0 48
    let remote (i : Instr) (disp : Addr) (al : Nat) (kind : ReqKind) (acq : Bool) (ty : Nat) (op : Nat → MemOp) (dst : Nat → Dst)
        (R : List Piece → Packet → Prop) : Prop :=
      let ps := pieces disp op dst
      remoteReady c pkg (lanesBy (packetLanes ty) (byGranule ps)).length →
        (reach → (∀ l ∈ c.act.list, c.ta disp l % al = 0) → SendsPackets i s c kind acq ps ty pkg (fun g q => granule ty g q ∧ R g q)) ∧
        (∀ l rest, c.act.list = l :: rest →
          (bits base 57 7 ≠ 0 → exec i s = .next (takeTrap s c.sid c.k 0x10 (va (c.ta disp l)) 0)) ∧
          (bits base 57 7 = 0 → ¬ reach → exec i s = .next (takeTrap s c.sid c.k 0x31 (va (c.ta disp l)) 0)) ∧
          (∀ k, c.act.list.find? (fun l => c.ta disp l % al ≠ 0) = some k → reach → exec i s = .next (takeTrap s c.sid c.k 0x14 (va (c.ta disp k)) 0)))
    let addend (l : Nat) : Word := if c.ty = 9 then wd (c.srcF f32 o.c l) else c.srcC l
    (Passes 0xCC o s c → remote (.ldr o) disp n .remoteLoad c.ordered 1 (fun _ => .read n) (fun l => .v c.dReg l c.ty)
      (fun g q => q.payload = fillUnits (items g))) ∧
    (Passes 0xCD o s c → (flag % 8 = 0 → remote (.stf o) 0 n .remoteStore false 3 (fun l => .write (bytesOf (c.vec o.d l).toNat n)) (fun _ => .none)
      (fun g q => q.cnt = g.length ∧ q.aux = flag ∧ q.payload = fillUnits (storeItemsOf g))) ∧
      (flag % 8 ≠ 0 → remoteReady c pkg 0 → reach → (∀ l ∈ c.act.list, c.ta 0 l % n = 0) →
        exec (.stf o) s = .next (takeTrap s c.sid c.k 0x14 (BitVec.ofNat 64 flag) 0))) ∧
    (Passes 0xCE o s c → remote (.atomr o) 0 4 .remoteAtomic c.ordered 4 (fun l => .atom c.ty (addend l) c.mode) c.atomDst
      (fun g q => q.opc = c.ty ∧ q.payload = fillUnits (atomItems c.mode g))) ∧
    (Passes 0xCF o s c → remote (.casr o) 0 4 .remoteAtomic c.ordered 5 (fun l => .cas (c.vec o.d l) (c.srcC l)) c.atomDst
      (fun g q => q.payload = fillUnits (atomItems c.mode g))) ∧
    (Passes 0xD0 o s c → remoteReady c pkg 1 → let ta := bits base 0 48
      (reach → ta % 8 = 0 → SendsPackets (.flagw o) s c .remoteStore false [⟨0, ta, ta, .write [], .none, []⟩] 6 pkg
        (fun _ q => q.ta = ta ∧ q.payload = bytesOf (c.uni o.b).toNat 8 ++ List.replicate 8 0)) ∧
      (bits base 57 7 ≠ 0 → exec (.flagw o) s = .next (takeTrap s c.sid c.k 0x10 (va ta) 0)) ∧
      (bits base 57 7 = 0 → ¬ reach → exec (.flagw o) s = .next (takeTrap s c.sid c.k 0x31 (va ta) 0)) ∧
      (reach → ta % 8 ≠ 0 → exec (.flagw o) s = .next (takeTrap s c.sid c.k 0x14 (va ta) 0))) ∧
    (∀ e ∈ [(0xD0, Instr.flagw o), (0xD1, .msg o)], Passes e.1 o s c → c.t.outst ≠ 0 → exec e.2 s = .next s) ∧
    (Passes 0xD1 o s c → let p := (c.uni o.a).toNat
     remoteReady c p 1 →
      (p < 512 → c.part.den = true → p ≤ c.part.dlast → SendsPackets (.msg o) s c .message false [] 7 p (fun _ q => q.aux = (c.uni o.b).toNat % 2 ^ 16 ∧
        q.payload = (List.range 96).flatMap (fun l => bytesOf (if c.act.getLsbD l then c.vec o.d l else 0).toNat 4))) ∧
      (512 ≤ p ∨ c.part.den = false ∨ c.part.dlast < p → TrapsWith (.msg o) s c 0x31)) ∧
    (Passes 0xD2 o s c → ∀ i ∈ [Instr.msgq32 o, Instr.msgq o], (o.mod = 0 → Writes i s c [.s (Ctx.sn o.d) c.t.msgst]) ∧
      (o.mod = 1 → CompletesWith i s c { c.t with msgst := 0 } [.s (Ctx.sn o.d) c.t.msgst])) ∧
    (Passes 0xD5 o s c → ∀ i ∈ [Instr.grpq32 o, Instr.grpq o], ∃ w, Writes i s c [.s (Ctx.sn o.d) w] ∧
      (memberOf c.s c.part (c.uni o.a).toNat = none → w = 0) ∧
      (∀ e m, memberOf c.s c.part (c.uni o.a).toNat = some (e, m) → m < 512 → e.members.length ≤ 512 →
        w.getLsbD 31 = true ∧ bits w.toNat 20 11 = m ∧ bits w.toNat 10 10 = e.members.length ∧ bits w.toNat 0 10 = 0)) ∧
    (∀ e ∈ [(0xD3, Instr.mcst o, false), (0xD4, .mcred o, true)], Passes e.1 o s c → ∀ bs,
      readAtIssue c (c.pair (Ctx.sn o.a) + disp).toNat 64 64 = .ok bs →
      let d := collOf bs
      let legal : Prop := leAt bs 5 3 = 0 ∧ leAt bs 12 4 = 0 ∧ leAt bs 48 16 = 0 ∧ d.res % 16 = 0 ∧ d.group ≤ 4095 ∧
        (e.2.2 = true → d.rop ≤ 2 ∧ d.sfmt ∈ [0, 2] ∧ d.dfmt ∈ [0, 2] ∧ 1 ≤ d.count ∧ d.count ≤ 16384 ∧ d.flag = 0) ∧
        (e.2.2 = false → d.rop = 0 ∧ d.sfmt = 0 ∧ d.dfmt = 0 ∧ d.count % 4 = 0 ∧ 4 ≤ d.count ∧ d.count ≤ 65536 ∧ d.flag % 8 = 0)
      let rd := (collRuns e.2.2 d).1
      let wr := (collRuns e.2.2 d).2
      (¬ legal → TrapsWith e.2.1 s c 0x35) ∧ (legal → memberOf c.s c.part d.group = none → TrapsWith e.2.1 s c 0x36) ∧
      (legal → memberOf c.s c.part d.group ≠ none →
        let faults (f : Flt) : Prop := exec e.2.1 s = .next (takeTrap s c.sid c.k f.code f.addr 0)
        (∀ f, Unblocked c → boxFault c.s c.who Acc.read 1 rd = some f → boxFault c.s c.who Acc.write 1 wr = none → faults f) ∧
        (∀ f, Unblocked c → boxFault c.s c.who Acc.read 1 rd = none → boxFault c.s c.who Acc.write 1 wr = some f → faults f) ∧
        (∀ f g, Unblocked c → boxFault c.s c.who Acc.read 1 rd = some f → boxFault c.s c.who Acc.write 1 wr = some g →
          faults (if g.rank < f.rank ∨ (g.rank = f.rank ∧ g.addr.toNat < f.addr.toNat) then g else f)) ∧
        (boxFault c.s c.who Acc.read 1 rd = none → boxFault c.s c.who Acc.write 1 wr = none → Unblocked c →
          (c.s.part c.t.part).migring = 0 → let w := c.t.cbAt (Ctx.fn o.d)
          (64 ≤ collOps c.s (dieOf c.cl) ∨ 255 ≤ pend w → exec e.2.1 s = .next s) ∧
          (collOps c.s (dieOf c.cl) < 64 → pend w < 255 → ∃ s2 x, exec e.2.1 s = .next (retire c s2 []) ∧
            x.kind = (if e.2.2 then .mcred else .mcst) ∧ x.coll = d ∧ x.cb = Ctx.fn o.d ∧ x.started = false ∧ x.sid = some c.sid ∧
            s2 = { c.s with eops := Tab.set none c.s.eops c.s.neop (some x), neop := c.s.neop + 1, streams := s2.streams, parts := s2.parts, acc := s2.acc } ∧
            s2.stream? c.sid = some { c.t with cb := Tab.set 0 c.t.cb (Ctx.fn o.d) (w + 1) }))))

/-- R325, R327 to R329, R331 to R335, Tables 15.2 and 15.3: the headers' fields stand at their places, a packet's bytes hold it, and a write of part of
a sector carries its mask. A package serves a request that comes from outside once no earlier one of its source and lane waits: no admitting partition
answers NACK 0, a failed check, the flag's among them, NACK with its code, and nothing is done; else bytes are read, stored, stored before the flag
rises, or changed by an atomic, and the answer goes back to the sender under the request's tag. How the payloads of RD, WR, WRF, AT, CS and FLG lay
their items out is the model's choice (log 20). -/
def Obligations.FabricRequestsAreServed : Prop :=
  (∀ h : DieHeader, h.ty < 2 ^ 8 → h.len < 2 ^ 8 → h.src < 2 ^ 16 → h.tag < 2 ^ 13 → h.ord < 2 ^ 8 → h.opc < 2 ^ 8 → h.addr < 2 ^ 64 →
    let f (i n : Nat) : Nat := leAt h.bytes i n
    h.bytes.length = 16 ∧ f 0 1 = h.ty ∧ f 1 1 = h.len ∧ f 2 2 = h.src ∧ f 4 2 = h.tag ∧ f 6 1 = h.ord ∧ f 7 1 = h.opc ∧ f 8 8 = h.addr ∧
      dieHeaderOf h.bytes = h) ∧
  (∀ (t : Sender) (ord n : Nat) (bs : List (Nat × Byte)), (∀ b ∈ bs, b.1 / 32 = n) → (bs.map (fun b => b.1)).Nodup →
    let q := diePut t ord n bs
    let there (i : Nat) : Prop := 32 * n + i ∈ bs.map (fun b => b.1)
    q.hdr.ty = 2 ∧ q.hdr.addr = 32 * n ∧ 16 * q.hdr.len = q.payload.length ∧
      ((∀ i < 32, there i) → q.payload.length = 32 ∧ ∀ b ∈ bs, nth 0 q.payload (b.1 % 32) = b.2) ∧
      ((∃ i < 32, ¬ there i) → q.payload.length = 48 ∧ (∀ i < 32, (leAt q.payload 0 4).testBit i = true ↔ there i) ∧ leAt q.payload 4 12 = 0 ∧
        ∀ b ∈ bs, nth 0 q.payload (16 + b.1 % 32) = b.2)) ∧
  (∀ p : Packet, p.ty < 2 ^ 8 → p.dpkg < 2 ^ 16 → p.spkg < 2 ^ 16 → p.djob < 2 ^ 16 → p.tag < 2 ^ 32 → p.opc < 2 ^ 8 → p.ord < 2 ^ 8 → p.cnt < 2 ^ 16 →
    p.ta < 2 ^ 64 → p.aux < 2 ^ 64 → p.payload.length % 16 = 0 → p.payload.length ≤ 400 →
    let f (i n : Nat) : Nat := leAt (packetBytes p) i n
    (packetBytes p).length = 32 + p.payload.length ∧ f 0 1 = p.ty ∧ f 1 1 = p.payload.length / 16 ∧ f 2 2 = p.dpkg ∧ f 4 2 = p.spkg ∧ f 6 2 = p.djob ∧
      f 8 4 = p.tag ∧ f 12 1 = p.opc ∧ f 13 1 = p.ord ∧ f 14 2 = p.cnt ∧ f 16 8 = p.ta ∧ f 24 8 = p.aux ∧ packetOf (packetBytes p) = p) ∧
  ∀ (s : State) (p : Packet) (t spa : Nat), loopReady s p = false →
    let reply (s' : State) (ty opc : Nat) (data : List Byte) : Prop := s'.fin = s.fin.erase p ∧ ∃ q, s'.fout = s.fout ++ [q] ∧ q.ty = ty ∧ q.opc = opc ∧
      q.payload = fillUnits data ∧ q.tag = p.tag ∧ q.dpkg % 512 = p.spkg % 512 ∧ q.spkg = p.dpkg % 512 ∧ q.djob = p.djob
    let kinds : List (Nat × Instr) := [(1, .rdPacket p), (2, .wrPacket p), (3, .wrfPacket p), (4, .atPacket p), (5, .csPacket p), (6, .flgPacket p)]
    let need (ty : Nat) : Acc := if ty = 1 then Acc.read else if ty = 2 ∨ ty = 3 then Acc.write else Acc.atomic false
    let len (ty : Nat) : Nat := if ty = 6 then 8 else 256
    let serves (e : Nat × Instr) (code : Nat) (Q : State → List Byte → Prop) : Prop :=
      p.ty = e.1 → remoteAccess s t (need e.1) p.ta (len e.1) = .ok spa → ∃ s' data, exec e.2 s = .next s' ∧ reply s' code 0 data ∧ Q s' data
    let byteOf (n : Nat) : Byte := BitVec.ofNat 8 n
    let mode (m : Nat) : List Byte := bytesOf m 4 ++ [1]
    (∀ e ∈ kinds, p.ty ≠ e.1 → exec e.2 s = .next s) ∧
    (∀ e ∈ kinds, p.ty = e.1 → mustWait s p = true → ∃ s', exec e.2 s = .next s' ∧ s' = { s with fin := s'.fin } ∧ p ∈ s'.fin) ∧
    (∀ e ∈ kinds, p.ty = e.1 → mustWait s p = false → targetPart s p.djob = none → ∃ s', exec e.2 s = .next s' ∧ s'.mem = s.mem ∧ reply s' 0x12 0 []) ∧
    (mustWait s p = false → targetPart s p.djob = some t → quiet s t →
      (∀ e ∈ kinds, p.ty = e.1 → ∀ code, remoteAccess s t (need e.1) p.ta (len e.1) = .error code →
        ∃ s', exec e.2 s = .next s' ∧ s'.mem = s.mem ∧ reply s' 0x12 code []) ∧
      (∀ off n, p.payload = fillUnits [byteOf off, byteOf n] → off + n ≤ 256 → n < 256 → off < 256 → serves (1, .rdPacket p) 0x10 (fun s' data =>
        s'.mem = s.mem ∧ data = (List.range n).map (fun i => s.byteAt (spa + off + i)))) ∧
      (∀ off bs, p.payload = fillUnits (byteOf off :: byteOf bs.length :: bs) → off + bs.length ≤ 256 → bs.length < 256 → off < 256 →
        serves (2, .wrPacket p) 0x11 (fun s' data => data = [] ∧ Stores s s' (spa + off) bs) ∧
        (∀ f, remoteAccess s t (Acc.atomic false) p.aux 8 = .ok f → serves (3, .wrfPacket p) 0x11 (fun s' data => data = [] ∧
          ∃ s1 : State, Stores s s1 (spa + off) bs ∧ leAt (s'.readMem f 8) 0 8 = (leAt (s1.readMem f 8) 0 8 + p.cnt) % 2 ^ 64 ∧
            ∀ a, a < f ∨ f + 8 ≤ a → s'.byteAt a = s1.byteAt a))) ∧
      (∀ code, p.ty = 3 → remoteAccess s t Acc.write p.ta 256 = .ok spa → remoteAccess s t (Acc.atomic false) p.aux 8 = .error code →
        ∃ s', exec (.wrfPacket p) s = .next s' ∧ s'.mem = s.mem ∧ reply s' 0x12 code []) ∧
      (∀ m off x, p.payload = fillUnits (mode m ++ byteOf off :: bytesOf x 4) → m < 2 ^ 32 → off < 256 → x < 2 ^ 32 → serves (4, .atPacket p) 0x11 (fun s' data =>
        data = s.readMem (spa + off) 4 ∧
        s'.readMem (spa + off) 4 = bytesOf (atomResult p.opc (BitVec.ofNat 32 m) (wd (ofBytes data)) (BitVec.ofNat 32 x)).toNat 4 ∧
        ∀ a, a < spa + off ∨ spa + off + 4 ≤ a → s'.byteAt a = s.byteAt a)) ∧
      (∀ m off e x, p.payload = fillUnits (mode m ++ byteOf off :: (bytesOf e 4 ++ bytesOf x 4)) → off < 256 → e < 2 ^ 32 → x < 2 ^ 32 →
        serves (5, .csPacket p) 0x11 (fun s' data =>
          data = s.readMem (spa + off) 4 ∧ s'.readMem (spa + off) 4 = (if leAt data 0 4 = e then bytesOf x 4 else data) ∧
          ∀ a, a < spa + off ∨ spa + off + 4 ≤ a → s'.byteAt a = s.byteAt a)) ∧
      (∀ n, p.payload = fillUnits (bytesOf n 8) → n < 2 ^ 64 → serves (6, .flgPacket p) 0x11 (fun s' data => data = [] ∧
        leAt (s'.readMem spa 8) 0 8 = (leAt (s.readMem spa 8) 0 8 + n) % 2 ^ 64 ∧
        ∀ a, a < spa ∨ spa + 8 ≤ a → s'.byteAt a = s.byteAt a)))

/-- R326, R328, R331, R337, R338 to R343: multicasts and reductions. Data longer than a packet goes in a train (log 20). A multicast leaves for every
member that can be reached; a member writes it whole, raises the flag and answers, and the issuer keeps each member's first answer. A contribution takes
the next number of its group's sequence and is kept at the root, or finds its sequence closed; the last one closes the sequence and sends every member its
elements in member order; an expired window sends the status of the lowest member missing. A result is written, and its record, and ends its operation;
a NACK of a message is counted; a link that goes down takes the requests it held; another packet leaves in the order of its queue. A NACK without a code
kept as 0x33, table 960 for a member's acknowledgement, and the trains are log 20's choices; that a start is one move, that a member translates every
byte before it writes one, and that the first answer stands are log 55's. -/
def Obligations.CollectivesGatherAndAnswer : Prop :=
  (∀ (p : Packet) (head bs : List Byte), head.length = 12 → bs.length < 2 ^ 32 → let ps := train p head bs
    (ps.flatMap (fun q => q.payload.drop 16)).take bs.length = bs ∧
    (∀ q ∈ ps, q.payload.length ≤ 400 ∧ q.payload.take 12 = head ∧ { q with payload := p.payload } = p) ∧
    ∀ k q, ps[k]? = some q → (lastOf q bs.length = true ↔ k + 1 = ps.length)) ∧
  (∀ (s : State) (p : Packet) (n : Nat) (x : EngOp) (e : Group), findStart s .mcst (fun n x => mcstOf s n x = p) = some (n, x) → s.eop? n = some x →
    quiet s x.part → rootDown s x.coll.group = false → Tab.get none s.gcopy x.coll.group = some e →
    let own := (s.part x.part).self_
    ∃ s', exec (.mcstPacket p) s = .next s' ∧ s'.eop? n = some { x with started := true, since := s.clock } ∧ s'.mem = s.mem ∧
      s'.fin = s.fin ++ mcstTrain s n x own ∧ s'.fout = s.fout ++ (e.members.filter (fun m => m ≠ own ∧ m ∉ s.absent)).flatMap (mcstTrain s n x)) ∧
  (∀ (s : State) (p : Packet) (t : Nat) (f : Nat → Nat), p.ty = 8 → p ∉ s.fout → mustWait s p = false →
    findStart s .mcst (fun n x => mcstOf s n x = p) = none →
    p.dpkg % 512 ≠ p.spkg → targetPart s p.djob = some t → quiet s t →
    let total := leAt p.payload 0 4
    let flag := leAt p.payload 4 8
    let bs := trainData s p total
    (lastOf p total = false → ∃ s', exec (.mcstPacket p) s = .next s' ∧ s' = { s with fin := s.fin.erase p, rx := s.rx ++ [p] }) ∧
    (lastOf p total = true → bs ≠ [] → (∀ i < bs.length, remoteAccess s t Acc.write (p.ta + i) 1 = .ok (f i)) →
      (∀ i < bs.length, ∀ j < bs.length, f i = f j → i = j) →
      let done (g : Option Nat) : Prop := ∃ s' q, exec (.mcstPacket p) s = .next s' ∧ (∀ i < bs.length, s'.byteAt (f i) = nth 0 bs i) ∧
        (∀ a, (∀ i < bs.length, f i ≠ a) → (∀ b, g = some b → a < b ∨ b + 8 ≤ a) → s'.byteAt a = s.byteAt a) ∧
        (∀ b, g = some b → leAt (s'.readMem b 8) 0 8 = (leAt (s.readMem b 8) 0 8 + 1) % 2 ^ 64) ∧
        s'.fout = s.fout ++ [q] ∧ q.ty = 0x11 ∧ q.tag = p.tag
      (flag = 0 → done none) ∧
      (∀ b, flag ≠ 0 → remoteAccess s t (Acc.atomic false) flag 8 = .ok b → (∀ i < bs.length, f i < b ∨ b + 8 ≤ f i) → done (some b))) ∧
    (∀ i code, lastOf p total = true → i < bs.length → let page (j : Nat) : Prop := j = 0 ∨ (p.ta + j) % 65536 = 0
      page i → (∀ j < i, page j → ∃ a, remoteAccess s t Acc.write (p.ta + j) 1 = .ok a) → remoteAccess s t Acc.write (p.ta + i) 1 = .error code →
      ∃ s' q, exec (.mcstPacket p) s = .next s' ∧ s'.mem = s.mem ∧ s'.fout = s.fout ++ [q] ∧ q.ty = 0x12 ∧ q.opc = code ∧ q.tag = p.tag)) ∧
  (∀ (s : State) (p : Packet) (n m : Nat) (x : EngOp) (e : Group), p.ty = 8 → p ∉ s.fout → mustWait s p = false →
    findStart s .mcst (fun n x => mcstOf s n x = p) = none → lastOf p (leAt p.payload 0 4) = true → targetPart s p.djob = none →
    ownPkg s p.djob p.spkg = true → p.dpkg % 512 = p.spkg → collOfTag s p.tag = some (n, x) → s.eop? n = some x →
    Tab.get none s.gcopy x.coll.group = some e → p.spkg = nth 0 e.members m → m < e.members.length → e.members.Nodup → (∀ a ∈ x.ans, a.1 ≠ m) →
    ∃ s', exec (.mcstPacket p) s = .next s' ∧ s'.mem = s.mem ∧ s'.eop? n = some { x with ans := x.ans ++ [(m, 0x33)] }) ∧
  (∀ (s : State) (k : Nat) (p : Packet) (rest : List Move), s.agenda = .depart k :: rest → s.fout[k]? = some p → islandUp s 21 = true →
    s.fout.find? (sameLane p) = some p → (p.dpkg % 512 ≠ p.spkg ∨ p.ty = 0x13) →
    ∃ s', step s = .next s' ∧ s'.fout = s.fout.eraseIdx k ∧ s'.gone = s.gone ++ [p] ∧ s'.mem = s.mem) ∧
  (∀ (s : State) (n member gen : Nat) (x : EngOp) (p : Packet) (e : Group), s.eop? n = some x → x.kind = .mcst → x.started = true → gen = member →
    (∀ a ∈ x.ans, a.1 ≠ member) →
    let kept (s' : State) (code : Nat) : Prop := s'.eop? n = some { x with ans := x.ans ++ [(member, code)] }
    (∃ s', exec (.storeAck 960 n gen) s = .next s' ∧ kept s' 0) ∧
    (entryOf p.tag = none → collOfTag s p.tag = some (n, x) → Tab.get none s.gcopy x.coll.group = some e → p.spkg = nth 0 e.members member →
      member < e.members.length → e.members.Nodup → ∃ s', exec (.nackPacket p) s = .next s' ∧ kept s' (if p.opc = 0 then 0x33 else p.opc))) ∧
  (∀ (s : State) (p : Packet) (n i : Nat) (x : EngOp) (e : Group), findStart s .mcred (fun n x => mcredOf s n x = p) = some (n, x) → s.eop? n = some x →
    quiet s x.part → rootDown s x.coll.group = false →
    let g := x.coll.group
    let seq := Tab.get 0 s.gseq g
    let c := contribOf s x
    Tab.get none s.groups g = some e → e.djob = c.djob → e.members.findIdx? (fun m => m = c.pkg) = some i → 2 ≤ e.members.length → c.pkg ∉ s.absent →
    (∀ q ∈ s.sw, ¬ (q.group = g ∧ q.seq = seq)) → (∀ y ∈ s.swClosed, ¬ (y.1 = g ∧ y.2.1 = seq)) →
    ∃ s', exec (.mcrdPacket p) s = .next s' ∧ s'.eop? n = some { x with started := true, seq := seq, since := s.clock } ∧
      Tab.get 0 s'.gseq g = (seq + 1) % 2 ^ 48 ∧ s'.sw = s.sw ++ [⟨g, seq, s.clock, [(i, c)]⟩] ∧ s'.mem = s.mem) ∧
  (∀ (s : State) (p : Packet) (i : Nat) (e : Group), findStart s .mcred (fun n x => mcredOf s n x = p) = none → p.ty = 9 → ownPkg s p.djob p.spkg = false →
    let g := p.aux % 65536
    let seq := p.aux / 65536
    let f (i n : Nat) : Nat := leAt p.payload i n
    let total := f 4 4 * collW (f 1 1)
    let c : Contrib := ⟨p.spkg, p.djob, f 0 1, f 1 1, f 2 1, f 4 4, trainData s p total⟩
    (lastOf p total = false → exec (.mcrdPacket p) s = .next { s with rx := s.rx ++ [p] }) ∧
    (lastOf p total = true → Tab.get none s.groups g = some e → e.djob = p.djob → e.members.findIdx? (fun m => m = p.spkg) = some i → p.spkg ∉ s.absent →
      (∀ q, s.sw.find? (fun x => x.group = g && x.seq = seq) = some q → (∀ y ∈ s.swClosed, ¬ (y.1 = g ∧ y.2.1 = seq)) → q.late e s.clock = false →
        (∀ y ∈ q.contribs, y.1 ≠ i) → q.contribs.length + 1 < e.members.length →
        ∃ s', exec (.mcrdPacket p) s = .next s' ∧ { q with contribs := q.contribs ++ [(i, c)] } ∈ s'.sw) ∧
      (∀ m, s.sw.find? (fun x => x.group = g && x.seq = seq) = none → s.swClosed.find? (fun y => y.1 = g && y.2.1 = seq) = some (g, seq, m) →
        ∃ s', exec (.mcrdPacket p) s = .next s' ∧ s'.swLate = s.swLate + 1 ∧
          ∀ r ∈ resultTo g seq c.pkg c.djob (1 + 256 + 65536 * m) c.dfmt (List.replicate c.count (nanOf c.dfmt)), r ∈ s'.fin ∨ r ∈ s'.fout))) ∧
  (∀ (s : State) (q : SwSeq) (e : Group), s.sw.find? (fun x => x.group = q.group && x.seq = q.seq) = some q → Tab.get none s.groups q.group = some e →
    let sent (s' : State) (c : Contrib) (status : Nat) (els : List Nat) : Prop :=
      ∀ r ∈ resultTo q.group q.seq c.pkg c.djob status c.dfmt els, r ∈ s'.fin ∨ r ∈ s'.fout
    let of (i : Nat) : Option Contrib := (q.contribs.find? (fun c => c.1 = i)).map (fun c => c.2)
    let alike : Prop := ∀ i < e.members.length, ∀ j < e.members.length, ∀ a b, of i = some a → of j = some b →
      a.sfmt = b.sfmt ∧ a.dfmt = b.dfmt ∧ a.rop = b.rop ∧ a.count = b.count
    (s.clock < q.first + 800 * e.ato → (∃ i < e.members.length, (∀ c ∈ q.contribs, c.1 ≠ i) ∧ nth 0 e.members i ∉ s.absent) →
      exec (.absenceWindowExpiry q.group q.seq) s = .next s) ∧
    (q.first + 800 * e.ato ≤ s.clock → ∃ s', exec (.absenceWindowExpiry q.group q.seq) s = .next s' ∧ s'.mem = s.mem ∧
      (∃ m, (q.group, q.seq, m) ∈ s'.swClosed) ∧ (∀ x ∈ s'.sw, ¬ (x.group = q.group ∧ x.seq = q.seq)) ∧
      (∀ i c, i < e.members.length → of i = some c → ¬ alike → sent s' c (2 + 256) (List.replicate c.count (nanOf c.dfmt))) ∧
      (∀ i c m, i < e.members.length → of i = some c → alike → m < e.members.length → of m = none → (∀ k < m, of k ≠ none) →
        sent s' c (1 + 256 + 65536 * m) (List.replicate c.count (nanOf c.dfmt))) ∧
      (∀ i c, i < e.members.length → of i = some c → alike → (∀ k < e.members.length, of k ≠ none) →
        let els := (List.range c.count).map (fun k => reduceElem c.rop c.dfmt
          ((List.range e.members.length).filterMap (fun m => (of m).map (fun p => contribAt p k))))
        sent s' c (if els.any (fun x => x.2) then 256 else 0) (els.map (fun x => x.1))))) ∧
  (∀ (s : State) (p : Packet) (n : Nat) (x : EngOp), p.ty = 0x13 → p ∉ s.fout → mustWait s p = false → quiet s x.part → s.eop? n = some x →
    mcredOfResult s p = some (n, x) →
    let total := leAt p.payload 4 4 * collW (leAt p.payload 8 1)
    let data := trainData s p total
    let as := spasIn x.pages [(x.coll.dst, x.coll.count * collW x.coll.dfmt)]
    let rs := if x.coll.res = 0 then [] else spasIn x.pages [(x.coll.res, 16)]
    lastOf p total = true → as.length = data.length → (as ++ rs).Nodup → ∃ s', exec (.mcrrPacket p) s = .next s' ∧
      s'.eop? n = some { x with done := true } ∧ s'.fin = s.fin.erase p ∧ (∀ i < as.length, s'.byteAt (nth 0 as i) = nth 0 data i) ∧
      (∀ i < rs.length, s'.byteAt (nth 0 rs i) = nth 0 (bytesOf (leAt p.payload 0 4) 4 ++ bytesOf 0 4 ++ bytesOf x.seq 8) i) ∧
      ∀ a, a ∉ as → a ∉ rs → s'.byteAt a = s.byteAt a) ∧
  (∀ (s : State) (p : Packet) (t : Tag) (e : Entry) (x : Stream), p.dpkg % 512 ≠ p.spkg → entryOf p.tag = some t →
    Tab.get none s.ott (entKey t.tbl t.ent) = some e →
    ((genOf s t.tbl t.ent).1 ≠ t.gen → ∃ q w, exec (.nackPacket p) s =
      .next (State.setPart { s with fin := s.fin.erase p, wire := w } q { s.part q with lateReply := (s.part q).lateReply + 1 })) ∧
    ((genOf s t.tbl t.ent).1 = t.gen → e.kind = .message → e.gone = false → s.stream? e.sid = some x → ∃ s' u, exec (.nackPacket p) s = .next s' ∧
      Tab.get none s'.ott (entKey t.tbl t.ent) = none ∧ s'.stream? e.sid = some u ∧ u = { x with msgst := u.msgst, outst := u.outst, acq := u.acq } ∧
      bits u.msgst.toNat 0 16 = (bits x.msgst.toNat 0 16 + 1) % 2 ^ 16 ∧ bits u.msgst.toNat 16 16 = bits x.msgst.toNat 16 16)) ∧
  (∀ (s : State) (p : Packet), (knownType p.ty = false → exec (.packetDropped p) s = .next { s with pktDrop := s.pktDrop + 1 }) ∧
    (knownType p.ty = true → exec (.packetDropped p) s = .next s)) ∧
  (∀ (s : State) (port : Nat), exec (.flitReplay port) s = .next s) ∧
  (∀ (s : State) (port : Nat) (ps : List Nat), ∃ l a f, exec (.linkDown port ps) s = .next { s with links := l, absent := a, fout := f } ∧
    (∀ x, x ∈ l ↔ x ∈ s.links ∨ x = port) ∧ (∀ x, x ∈ a ↔ x ∈ s.absent ∨ x ∈ ps) ∧
    f = s.fout.filter (fun p => p.dpkg % 512 = p.spkg ∨ p.dpkg % 512 ∉ ps))

-- Persistence and snapshots

/-- The Windlass has enqueued untagged bytes for a partition, and its snapshot state may have changed. -/
def HubSends (s s' : State) (p : Nat) (bs : List (Nat × Byte)) : Prop :=
  ∃ rs : List PReq, s' = { s with pwait := s.pwait ++ rs, parts := s'.parts } ∧ rs.flatMap (fun r => r.bytes) = bs ∧
    ∀ r ∈ rs, r.part = p ∧ r.live = true ∧ r.step = none ∧ r.sid = none

/-- R351 to R356, R363, R369, R370, R452: PST sends its lanes to the persist queue under the course's step and epoch; PBAR.PKG raises the epoch, its
waits hold the course until acceptance, or until the stripe record; PFLUSH waits for what was accepted before it; the step only rises; the SNAP
instructions need system mode but for TAKE, which arms a snapshot, and leave their snapshot state as their rule says. That SNAP.DELTA with no current snapshot
writes nothing is the model's choice (log 50), that another member's frozen state, by which SNAP.REBUILD traps SNAP_BAD, is free is log 51's, that nine members'
news makes a snapshot stripe-committed is log 49's, and a RESTORE whose image meets a media error log 70's. -/
def Obligations.PersistInstructions : Prop :=
  ∀ (o : Opnds) (s : State) (c : Ctx), c.unbound →
    let pt := s.part c.t.part
    let n := pt.snap
    let v := c.uni o.a
    let step := (c.uni o.b).toNat
    let held (w : Option Waiting) : State := s.setStream c.sid { c.t.setPath c.k (some { c.p with wait := w }) with hold := some c.k }
    let striped (m : Nat) : Prop := (∃ k < 2, Tab.get none n.str k = some m) ∧ 9 ≤ ((List.range 10).filter (fun q => (q, m) ∈ n.peers)).length
    let released (i : Instr) (f : Stream → Stream) : Prop := CompletesWith i s c (f { c.t with hold := none }) []
    let withSnap (f : Snap → Snap) : State := s.setPart c.t.part { pt with snap := f n }
    (Passes 0xD8 o s c → ∀ as, let lanes := if isVec o.d then c.act.list.map (fun l => (l, c.va l)) else [(c.uniLane, c.va 0)]
      let size := typeSize c.ty
      let data (l : Nat) : List Byte := if isVec o.d then bytesOf (c.vec o.d l).toNat size else if c.ty = 9 then bytesOf (c.pair (Ctx.sn o.d)).toNat 8
        else bytesOf (c.uni o.d).toNat size
      let ps : List Piece := as.map (fun a => ⟨a.1, a.2.1, a.2.2, .write (data a.1), .none, []⟩)
      checkLanes c.s c.who Acc.persist size size lanes = .ok as → accessReady c .persist ps →
      ∃ s2 rs u, exec (.pst o) s = .next (retire c s2 []) ∧
        s2 = { s with ott := s2.ott, pwait := s.pwait ++ rs, streams := s2.streams, parts := s2.parts } ∧ rs.length = (byGranule ps).length ∧
        (rs.flatMap (fun r => r.bytes)).Perm (as.flatMap (fun a => (data a.1).zipIdx.map (fun x => (a.2.2 + x.2, x.1)))) ∧
        (∀ r ∈ rs, r.sid = some c.sid ∧ r.part = c.t.part ∧ r.step = some c.t.step ∧ r.epoch = c.t.pepoch ∧ r.live = true ∧
          ∃ g e, r.tag = some g ∧ Tab.get none s2.ott (entKey g.tbl g.ent) = some e ∧ e.kind = .persist ∧ e.sid = c.sid) ∧
        s2.stream? c.sid = some u ∧ u = { c.t with outst := rs.length, ptag := u.ptag } ∧
        (rs ≠ [] → ∃ g, u.ptag = some g ∧ g.toNat = max ((c.t.ptag.map BitVec.toNat).getD 0) c.t.step.toNat)) ∧
    (Passes 0xD9 o s c → ∀ i ∈ [Instr.pbar32 o, Instr.pbar o], CompletesWith i s c { c.t with pepoch := c.t.pepoch + 1 } []) ∧
    (Passes 0xD9 o s c → (persistOut s c.sid = false → copyOut s c.sid = false → released (.pbarWaitPkg o) id) ∧
      (persistOut s c.sid = true ∨ copyOut s c.sid = true → exec (.pbarWaitPkg o) s = .next (held none))) ∧
    (Passes 0xD9 o s c → (c.t.ptag = none → released (.pbarWaitStripe o) id) ∧
      (∀ g, c.t.ptag = some g → (c.t.step.toNat ≤ g.toNat → TrapsWith (.pbarWaitStripe o) s c 0x37) ∧
        (g.toNat < c.t.step.toNat → ((∃ m, g.toNat ≤ m ∧ striped m) → released (.pbarWaitStripe o) (fun t => { t with ptag := none })) ∧
          ((∀ m, striped m → m < g.toNat) → exec (.pbarWaitStripe o) s = .next (held none))))) ∧
    (Passes 0xDA o s c → ∀ i ∈ [Instr.pflush32 o, Instr.pflush o], let upTo := match c.p.wait with
        | some (.flush m) => m
        | _ => s.pseq
      ((∀ e ∈ s.pq, e.part = c.t.part → upTo < e.seq) → Writes i s c []) ∧
      ((∃ e ∈ s.pq, e.part = c.t.part ∧ e.seq ≤ upTo) →
        exec i s = .next (s.setStream c.sid (c.t.setPath c.k (some { c.p with wait := some (.flush upTo) }))))) ∧
    (Passes 0xDB o s c → s.pq.length < 2 ^ 31 → ∀ i ∈ [Instr.pqst32 o, Instr.pqst o], ∃ w, Writes i s c [.s (Ctx.sn o.d) w] ∧
      w.getLsbD 31 = s.huok ∧ w.toNat % 2 ^ 31 = s.pq.length) ∧
    (Passes 0xDC o s c → ∀ i ∈ [Instr.stepset32 o, Instr.stepset o], (v.toNat < c.t.step.toNat → TrapsWith i s c 0x37) ∧
      (c.t.step.toNat ≤ v.toNat → ∃ m : Word, m.toNat = max pt.pstepmax.toNat v.toNat ∧
        exec i s = .next (retire c ((s.setStream c.sid { c.t with step := v }).setPart c.t.part { pt with pstepmax := m }) []))) ∧
    (Passes 0xDD o s c → ∀ i ∈ [Instr.steprd32 o, Instr.steprd o], Writes i s c [.s (Ctx.sn o.d) c.t.step]) ∧
    (Passes 0xDE o s c →
      (∀ d, readSnapDesc c = .ok d →
        let late : Prop := (∃ y, n.cur = some y ∧ step ≤ y.1) ∨ step < pt.pstepmax.toNat
        (late → TrapsWith (.snapTake o) s c 0x37) ∧
        (¬ late → n.st = 1 ∨ n.st = 2 → TrapsWith (.snapTake o) s c 0x39) ∧
        let alone := !pt.domctl.getLsbD 9
        let slot := match n.cur with
          | some (_, k) => 1 - k
          | none => 0
        let free : Prop := (alone = true ∨ ∀ y, n.cur = some y → striped y.1) ∧ (n.frz = true → n.fslot ≠ slot)
        (¬ late → ¬ free → TrapsWith (.snapTake o) s c 0x39) ∧
        (¬ late → n.st ≠ 1 → n.st ≠ 2 → free → pt.migring = 0 → d.img % 256 = 0 → d.z % 256 = 0 →
          ∃ s2 u, exec (.snapTake o) s = .next (retire c s2 []) ∧ s2 = { s with pwait := s2.pwait, parts := s2.parts, acc := s2.acc } ∧
            s2.part c.t.part = { pt with tlb := u, snap := { n with
              st := 1, err := 0, step := step, slot := slot, desc := some d, left := allUnits d, old := [], alone := alone, contrib := [], sent := [],
              acked := [], recorded := false } } ∧
            ∃ rs, s2.pwait = s.pwait ++ rs ∧ rs.filterMap (fun r => r.mark) = [⟨0, 0, step, slot⟩, ⟨1, 0, step, slot⟩])) ∧
      (∀ i ∈ [Instr.snapRestore o, .snapFreeze o, .snapThaw o, .snapRebuild o, .snapDelta o], c.t.sys = false → TrapsWith i s c 0x1A) ∧
      (c.t.sys = true →
        (n.slotOf step = none → TrapsWith (.snapFreeze o) s c 0x38) ∧
        (∀ k, n.slotOf step = some k → exec (.snapFreeze o) s = .next (retire c (withSnap (fun n => { n with frz := true, fslot := k })) [])) ∧
        exec (.snapThaw o) s = .next (retire c (withSnap (fun n => { n with frz := false })) []) ∧
        (c.p.wait = some .hub → hubOut s c.t.part = true →
          exec (.snapRestore o) s = .next (held (some .hub)) ∧ exec (.snapRebuild o) s = .next (held (some .hub))) ∧
        (c.p.wait = some .hub → hubOut s c.t.part = false → released (.snapRebuild o) id ∧ exec (.snapRestore o) s = .next (retire c
          ((s.setStream c.sid { c.t with hold := none, step := c.uni o.b }).setPart c.t.part { pt with pstepmax := c.uni o.b }) [])) ∧
        (∀ d, c.p.wait ≠ some .hub → readSnapDesc c = .ok d → pt.migring = 0 →
          let sends (i : Instr) (Q : List PReq → Prop) : Prop := ∃ s2 rs, exec i s = .next s2 ∧ Q rs ∧
            s2 = { held (some .hub) with pwait := s.pwait ++ rs, parts := s2.parts, acc := s2.acc }
          let lost := (List.range 10).filter (fun q => q = d.pos ∨ nth 0 d.memb q ∈ s.absent)
          let frozen : Prop := ∀ q < 10, q ∉ lost → memberFrozen ⟨s, d, pt.djob, step⟩ q = true
          (otherCourses c = true → TrapsWith (.snapRestore o) s c 0x39) ∧
          (otherCourses c = false → n.slotOf step = none → TrapsWith (.snapRestore o) s c 0x38) ∧
          (∀ k r, otherCourses c = false → n.slotOf step = some k → recordAt s d.img d.z 0 k = some (step, (crc32c d.raw).toNat) →
            d.regs = [r] → r.kind = 0 → slotBad s (d.img + k * d.z + 65536) r.len = false → sends (.snapRestore o) (fun rs => (∀ q ∈ rs, q.step = some (c.uni o.b) ∧ q.part = c.t.part) ∧ rs.flatMap (fun q => q.bytes) =
                (scmNow s (scmSpa (d.img + k * d.z + 65536)) r.len).zipIdx.map (fun b => (scmSpa (r.base + b.2), b.1)))) ∧
          (∀ k r, otherCourses c = false → n.slotOf step = some k → recordAt s d.img d.z 0 k = some (step, (crc32c d.raw).toNat) →
            d.regs = [r] → r.kind = 0 → slotBad s (d.img + k * d.z + 65536) r.len = true → ∃ s2 u, exec (.snapRestore o) s = .next s2 ∧
              s2.pwait = s.pwait ∧ s2.mem = s.mem ∧ s2.part c.t.part = { pt with tlb := u, snap := { n with st := 3, err := 3 } }) ∧
          (2 < lost.length → TrapsWith (.snapRebuild o) s c 0x38) ∧
          (lost.length ≤ 2 → (¬ frozen → TrapsWith (.snapRebuild o) s c 0x38) ∧
            (frozen → sends (.snapRebuild o) (fun rs => ∀ q ∈ rs, q.step = none ∧ q.part = c.t.part)))) ∧
        (let va := (c.pair (Ctx.sn o.a) + dispOf o.c).toNat
         let bs := deltaBytes s c.t.part
         (bs = [] → Writes (.snapDelta o) s c []) ∧
         (∀ a, Unblocked c → pageRun s c.who Acc.write va bs.length a → ∃ s2, exec (.snapDelta o) s = .next (retire c s2 []) ∧ Stores s s2 a bs ∧
           s2 = { s with mem := s2.mem })))) ∧
    (Passes 0xDF o s c → ∀ i ∈ [Instr.snapst32 o, Instr.snapst o], ∃ w, Writes i s c [.s (Ctx.sn o.d) w] ∧
      (o.mod = 0 → n.st < 4 → n.fslot < 2 → n.err < 256 → bits w.toNat 30 2 = n.st ∧ w.getLsbD 29 = n.frz ∧ bits w.toNat 28 1 = n.fslot ∧
        bits w.toNat 16 8 = n.err ∧ bits w.toNat 0 16 = min n.left.length 0xFFFF) ∧
      (o.mod = 1 → n.st ≠ 0 → w.toNat = n.step % 2 ^ 32) ∧
      (o.mod = 2 → (∀ y, n.cur = some y → w.toNat = y.1 % 2 ^ 32) ∧ (n.cur = none → w = 0)) ∧
      (o.mod = 3 → (∀ y, n.newest = some y → w.toNat = y % 2 ^ 32) ∧ (n.newest = none → w = 0)))

/-- R347 to R349, R353, R364 to R367, R440, R466: the persist queue accepts what its order allows and drains its oldest entry; the armed step's bytes
stand while later ones drain over them; the Windlass captures pages, records the local commit, gathers parity and records the stripe; power failure keeps
the drained SCM alone; the hold-up store's signals. The form of the members' messages, and that an absent member fails the stage at STRIPE_COMMIT, are the
model's choices (log 49), and so is that bytes outside SCM read 0 after a power failure (logs 2 and 5). -/
def Obligations.PersistQueueAndWindlass : Prop :=
  ∀ (s : State),
    (∀ k r, s.pwait[k]? = some r →
      (islandUp s 22 = false ∨ s.huok = false ∨ pqSize ≤ s.pq.length → exec (.pAccept k) s = .next s) ∧
      (∀ i m y, r.sid = some i → (m, some y) ∈ s.eops → y.sid = some i → y.epoch < r.epoch → y.handing = true → exec (.pAccept k) s = .next s) ∧
      (∀ j x, s.pwait[j]? = some x → j < k → x.live = true → x.cluster = r.cluster → homeOf x.spa = homeOf r.spa → exec (.pAccept k) s = .next s) ∧
      (∀ x ∈ s.pwait, x.live = true → x.sid = r.sid → x.sid ≠ none → x.epoch < r.epoch → exec (.pAccept k) s = .next s) ∧
      (∀ g e t, mayAccept s k = true → r.mark = none → r.op = none → r.tag = some g → r.live = true → Tab.get none s.ott (entKey g.tbl g.ent) = some e →
        (genOf s g.tbl g.ent).1 = g.gen → e.gone = false → e.kind = .persist → s.stream? e.sid = some t →
        ∃ u w, exec (.pAccept k) s = .next (State.setStream { s with
            pwait := dropNth s.pwait k, pseq := s.pseq + 1, pq := s.pq ++ [⟨s.pseq + 1, r.part, r.sid, r.step, r.spa, r.bytes, r.launch⟩],
            ott := Tab.set none s.ott (entKey g.tbl g.ent) none, drains := s.drains.filter (fun d => d.tag ≠ some g), wire := s.wire ++ w } e.sid u) ∧
          (let ps : List Piece := r.bytes.map (fun b => ⟨0, 0, b.1, .write [b.2], .none, []⟩)
           (∀ b ∈ r.bytes, g.sender.crosses b.1 = true) →
             w = diePackets g.sender 0 ps ++ dieAnswers g.sender ps (ps.map (fun _ => [])) false) ∧
          u = { t with outst := t.outst - 1, acq := u.acq })) ∧
    (s.pq = [] ∨ islandUp s 22 = false → exec .persistDrain s = .next s) ∧
    (∀ e rest, s.pq = e :: rest → islandUp s 22 = true → (e.bytes.map (fun b => b.1)).Nodup →
      ∃ s', exec .persistDrain s = .next s' ∧ s'.pq = rest ∧ (∀ b ∈ e.bytes, s'.byteAt b.1 = b.2) ∧
        (∀ a, (∀ b ∈ e.bytes, b.1 ≠ a) → s'.byteAt a = s.byteAt a) ∧
        (∀ d g, (s.part e.part).snap.st = 1 → (s.part e.part).snap.desc = some d → e.step = some g → (s.part e.part).snap.step < g.toNat →
          ∀ a, (unitAt d (scmOff a)).isSome = true → stepByte s' (s'.part e.part).snap a = stepByte s (s.part e.part).snap a)) ∧
    (∀ p pg u d r, let n := (s.part p).snap
      n.left[pg]? = some u → n.st = 1 → (s.part p).halted = false → (s.part p).pre = 0 → n.desc = some d → d.regs[u.1]? = some r → s.ue = [] →
      ∃ s' bs, exec (.windlassSweep p pg) s = .next s' ∧ HubSends s s' p bs ∧
        s'.part p = { s.part p with snap := { n with left := n.left.filter (fun y => y ≠ u) } } ∧
        (r.kind = 0 → bs = (List.range 65536).map (fun i =>
          (scmSpa (d.img + n.slot * d.z + imageOff d.regs u.1 + (65536 * u.2 + i)), stepByte s n (scmSpa (r.base + 65536 * u.2 + i)))))) ∧
    (∀ p pg u d r, let n := (s.part p).snap
      n.left[pg]? = some u → n.st = 1 → (s.part p).halted = false → (s.part p).pre = 0 → n.desc = some d → d.regs[u.1]? = some r → r.kind = 0 →
      ueAt s (scmSpa (r.base + 65536 * u.2)) 65536 = true → ∃ s', exec (.windlassSweep p pg) s = .next s' ∧ s'.pwait = s.pwait ∧ s'.mem = s.mem ∧
        (s'.part p).snap = { n with left := n.left.filter (fun y => y ≠ u), st := 3, err := 3 }) ∧
    (∀ p, let n := (s.part p).snap
      (n.st ≠ 1 ∨ n.left ≠ [] ∨ n.recorded = true ∨ (s.part p).pstepmax.toNat ≤ n.step ∨ (∃ t ∈ coursesOf s p, t.step.toNat ≤ n.step) →
        exec (.localCommit p) s = .next s) ∧
      (∀ d, mayCommit s p = true → n.desc = some d → ∃ s', exec (.localCommit p) s = .next s' ∧
        HubSends s s' p ((recordBytes d 1 n.step n.slot).zipIdx.map (fun b => (scmSpa (d.img + 2 * d.z + 64 * n.slot + b.2), b.1))) ∧
        s'.part p = { s.part p with snap := { n with recorded := true } })) ∧
    (∀ djob stripe idx step unit, targetPart s djob = none → exec (.stripeContribution djob stripe idx step unit) s = .next s) ∧
    (∀ p djob stripe idx step unit d w, let n := (s.part p).snap
      targetPart s djob = some p → n.desc = some d → parityOf stripe d.pos = some w → n.st = 1 ∨ n.st = 2 → n.alone = false → stripe < stripes d → idx < 8 → unit.length = 65536 →
      (step.toNat ≠ n.step → exec (.stripeContribution djob stripe idx step unit) s =
        .next (s.setPart p { s.part p with snap := { n with st := 3, err := 2 } })) ∧
      let from_ := nth 0 ((List.range 10).filter (fun q => parityOf stripe q = none)) idx
      let acked : State := { s with wout := s.wout ++ [.ack (d.member from_) djob stripe w n.step] }
      let add := if w = 0 then unit else unit.map (fun b => gfScale b idx)
      let took (is : List Nat) (acc : List Byte) (x : Part) : Prop := x = { s.part p with snap := { n with
        contrib := (stripe, idx :: is, xorUnits acc add) :: n.contrib.filter (fun c => c.1 ≠ stripe) } }
      (step.toNat = n.step → (∀ c ∈ n.contrib, c.1 ≠ stripe) → ∃ x, took [] (List.replicate 65536 0) x ∧
        exec (.stripeContribution djob stripe idx step unit) s = .next (acked.setPart p x)) ∧
      (∀ is acc, step.toNat = n.step → n.contrib.find? (fun c => c.1 = stripe) = some (stripe, is, acc) → idx ∉ is → acc.length = 65536 →
        (is.length + 1 ≠ 8 → ∃ x, took is acc x ∧ exec (.stripeContribution djob stripe idx step unit) s = .next (acked.setPart p x)) ∧
        (is.length + 1 = 8 → ∃ s', exec (.stripeContribution djob stripe idx step unit) s = .next s' ∧ took is acc (s'.part p) ∧
          HubSends acked s' p ((xorUnits acc add).zipIdx.map (fun b => (scmSpa (d.par + n.slot * d.pz + 65536 * parityUnit stripe d.pos + b.2), b.1)))))) ∧
    (∀ p u d rest, let n := (s.part p).snap
      s.agenda = .unit p :: rest → n.st = 2 → n.desc = some d → (owedUnits d).find? (fun u => !n.sent.contains u) = some u →
      let bad : Prop := dataUnit u.1 d.pos < d.z / 65536 ∧ slotBad s (d.img + n.slot * d.z + 65536 * dataUnit u.1 d.pos) 65536 = true
      (bad → ∃ s', step s = .next s' ∧ s'.mem = s.mem ∧ s'.wout = s.wout ∧ (s'.part p).snap = { n with st := 3, err := 3 }) ∧
      (¬ bad → ∃ s', step s = .next s' ∧ s'.mem = s.mem ∧ (s'.part p).snap = { n with sent := u :: n.sent } ∧
        s'.wout = s.wout ++ [.unit (d.member ((u.1 + u.2) % 10)) (s.part p).djob u.1 u.2 (dataIndex u.1 d.pos) n.step (ownUnit s d n.slot u.1)])) ∧
    (∀ djob pkg st unit par rest, targetPart s djob = none → s.agenda = .peer djob (.read pkg st unit par) :: rest →
      ∃ s', step s = .next s' ∧ s'.mem = s.mem ∧ s'.wout = s.wout ++ [.answer pkg none]) ∧
    (∀ p djob rest, let n := (s.part p).snap
      targetPart s djob = some p →
      (∀ stripe w, s.agenda = .peer djob (.ack stripe w n.step) :: rest → n.st = 2 → (stripe, w) ∈ n.sent →
        ∃ s', step s = .next s' ∧ (s'.part p).snap = { n with acked := (stripe, w) :: n.acked }) ∧
      (∀ pos st, s.agenda = .peer djob (.record pos st) :: rest → ∃ s', step s = .next s' ∧ (s'.part p).snap = { n with peers := (pos, st) :: n.peers }) ∧
      (∀ pos, s.agenda = .peer djob (.noJob pos) :: rest → ∃ s', step s = .next s' ∧
        (s'.part p).snap = if n.st = 2 then { n with st := 3, err := 1 } else n) ∧
      (∀ pkg st unit par, s.agenda = .peer djob (.read pkg st unit par) :: rest →
        ∃ s', step s = .next s' ∧ s'.mem = s.mem ∧ s'.wout = s.wout ++ [.answer pkg (frozenUnit s p st unit par)] ∧
          (s'.part p).snap = if (frozenAt s p st unit par).any (fun a => slotBad s a 65536) then { n with st := 3, err := 3 } else n)) ∧
    (∀ p d, let n := (s.part p).snap
      n.desc = some d → n.st = 2 →
      ((∃ m ∈ d.memb, m ∈ s.absent) → exec (.stripeCommit p) s = .next (s.setPart p { s.part p with snap := { n with st := 3, err := 1 } })) ∧
      ((∀ m ∈ d.memb, m ∉ s.absent) → (∃ u ∈ owedUnits d, u ∉ n.acked) ∨ parityDone n < stripes d / 5 → exec (.stripeCommit p) s = .next s) ∧
      ((∀ m ∈ d.memb, m ∉ s.absent) → (∀ u ∈ owedUnits d, u ∈ n.acked) → stripes d / 5 ≤ parityDone n → hubOut s p = false → ∃ s', exec (.stripeCommit p) s = .next s' ∧
        HubSends s s' p ((recordBytes d 2 n.step n.slot).zipIdx.map (fun b => (scmSpa (d.img + 2 * d.z + 128 + 64 * n.slot + b.2), b.1))))) ∧
    (s.power = false → exec .powerFail s = .next s) ∧
    (s.power = true → ∃ s', exec .powerFail s = .next s' ∧ s'.power = false ∧ s'.streams = [] ∧ s'.pq = [] ∧ s'.pwait = [] ∧ s'.ext = s.ext ∧
      ∀ a, s'.byteAt a = if inScm a then nth 0 (scmNow s a 1) 0 else 0) ∧
    exec .holdupCharged s = .next { s with huok := s.power } ∧ exec .holdupLow s = .next { s with huok := false, lowClk := if s.huok then s.clock else s.lowClk } ∧
    (s.huok = true ∨ s.power = false ∨ s.clock < s.lowClk + 60 * 800000000 → exec .holdupLowTimeout s = .next s) ∧
    (s.huok = false → s.power = true → s.lowClk + 60 * 800000000 ≤ s.clock → ∃ s', exec .holdupLowTimeout s = .next s' ∧ s'.repl = s.repl ||| 9 ∧ s'.msix = s.msix ++ [65] ∧
      s' = { s with repl := s'.repl, msix := s'.msix, fru := s'.fru })

-- Scheduling

/-- Counter c has been decremented, failed or not (R376), and it is the top of its chain. -/
def Decremented (s s' : State) (c : Nat) (failed : Bool) : Prop :=
  let x := s.cnt c
  let v := (x.value + 2 ^ 32 - 1) % 2 ^ 32
  s'.cnt c = { x with value := v, fail := if failed then min (x.fail + 1) 2047 else x.fail, done := decide (v = 0) }

/-- A counter that can be decremented and has no parent. -/
def openCnt (s : State) (c : Nat) : Prop := (s.cnt c).done = false ∧ (s.cnt c).pv = false

/-- R375, R376, R385, R391 to R398: LAUNCH enters a valid descriptor in its device queue; CANCEL marks its counter and the launches in it, and stops their
teams, or leaves them where the partition is halted; that it does so too where it is pre-empted, and stops them at once otherwise, is the model's choice
(log 64); CNTRD, TABST read; TABNEW and TABDEC write a record's JOIN and STATUS, TABDEC trapping a fault of its record (log 35); ARM and DISARM change the
arm table. Bad operands trap and leave nothing. -/
def Obligations.SchedulingInstructions : Prop :=
  ∀ (o : Opnds) (s : State) (c : Ctx), c.unbound → c.part.migring = 0 →
    let p := c.t.part
    let ready : Prop := c.t.acq = [] ∧ loadsOut s c.sid = false ∧ c.t.outst = 0 ∧ c.othersOut = false
    let va := (c.pair (Ctx.sn o.a) + dispOf o.c).toNat
    let n := (c.uni o.a).toNat
    (∀ bs, Passes 0xE4 o s c → readAtIssue c va 64 64 = .ok bs →
      let d := descOf bs
      let alloc := (d.regs + d.tryres + 7) / 8 * 8
      let teams := d.gx * d.gy * d.gz
      let legal : Prop := 1 ≤ teams ∧ teams < 2 ^ 32 ∧ 1 ≤ d.courses ∧ d.courses ≤ 16 ∧ (alloc ≠ 0 → d.courses ≤ 4 * min 16 (49152 / (12 * alloc))) ∧
        1 ≤ d.regs ∧ d.regs ≤ 1024 ∧ alloc ≤ 1024 ∧ d.win ≤ 6272 ∧ d.prog ≤ 2 ∧ leAt bs 30 1 < 16 ∧ leAt bs 31 1 = 0 ∧ leAt bs 42 22 = 0 ∧
        d.cnt < 4096 ∧ (s.cnt d.cnt).v = true ∧ (s.cnt d.cnt).part = p
      (¬ legal → TrapsWith (.launch o) s c 0x3A) ∧ (legal → d.sys = true → c.t.sys = false → TrapsWith (.launch o) s c 0x1A) ∧
      (legal → (d.sys = true → c.t.sys = true) →
        (256 ≤ deviceHeld s p d.pri ∨ ¬ ready → exec (.launch o) s = .next s) ∧
        (deviceHeld s p d.pri < 256 → ready → ∃ s2, exec (.launch o) s = .next (retire c s2 []) ∧
          s2 = { s with launches := Tab.set none s.launches (s.nlaunch + 1) (some ⟨d, p, .device d.pri, 0, 0, [], false, false⟩), nlaunch := s.nlaunch + 1, parts := s2.parts, acc := s2.acc }))) ∧
    (Passes 0xE5 o s c → ∀ i ∈ [Instr.cancel32 o, Instr.cancel o],
      (¬ (n < 4096 ∧ (s.cnt n).v = true ∧ (s.cnt n).part = p) → TrapsWith i s c 0x3B) ∧
      (n < 4096 → (s.cnt n).v = true → (s.cnt n).part = p →
        ((s.cnt n).done = true → Writes i s c []) ∧
        ((s.cnt n).done = false → s.eops = [] → c.part.owner = [] → admits s p = false → ∃ s2, exec i s = .next (retire c s2 []) ∧
          s2 = { s with ctr := Tab.set 0 s.ctr n (s.counter n ||| 0x2000000000000000), launches := s2.launches } ∧
          ∀ k l, s.launch? k = some l → inCounter s n l.desc.cnt = true → s2.launch? k = some { l with cancelled := true }) ∧
        ((s.cnt n).done = false → s.eops = [] → c.part.owner = [] → admits s p = true → ∃ s2, exec i s = .next (retire c s2 []) ∧ ((∀ q, (s.part q).handler = none) → s2.mem = s.mem) ∧
          s2.ctr = Tab.set 0 s.ctr n (s.counter n ||| 0x2000000000000000) ∧
          (∀ k l u, s.launch? k = some l → inCounter s n l.desc.cnt = true → s2.launch? k = some u → u.cancelled = true ∧ u.desc = l.desc) ∧
          ∀ k l m t, s.launch? k = some l → inCounter s n l.desc.cnt = true → s.team? m = some t → t.launch = k →
            (∀ sid ∈ t.sids, s2.stream? sid = none) ∧ ∀ u, s2.team? m = some u → u.courses = [] ∧ u.seq = false ∧ u.killed = true ∧ u.cancelled = true))) ∧
    (Passes 0xE6 o s c → ∀ i ∈ [Instr.cntrd32 o, Instr.cntrd o],
      (n < 4096 → (s.cnt n).v = true → (s.cnt n).part = p → Writes i s c (wrPair (Ctx.sn o.d) (s.counter n))) ∧
      (¬ (n < 4096 ∧ (s.cnt n).v = true ∧ (s.cnt n).part = p) → TrapsWith i s c 0x3B)) ∧
    (∀ bs, Passes 0xE7 o s c → readAtIssue c va 32 32 = .ok bs →
      let base := c.part.tabbase.toNat
      let i := (va - base) / 32
      let inside : Prop := base ≤ va ∧ (va - base) % 32 = 0 ∧ i < c.part.tabn
      let legal : Prop := tabNin bs ≤ 4 ∧ (∀ q, tabParent bs = some q → q < c.part.tabn) ∧ tabState bs ∈ [0, 4, 5] ∧ bits c.part.tabcfg.toNat 0 8 ≠ 0
      (¬ (inside ∧ legal) → TrapsWith (.tabnew o) s c 0x3C) ∧
      (inside → legal → ¬ ready → exec (.tabnew o) s = .next s) ∧
      (∀ a, inside → legal → ready → o.mod < 4 → pageRun s (ringWho p) tabAcc (tabAddr s p i + 24) 4 a → ∃ s2, exec (.tabnew o) s =
          .next (retire c s2 [.s (Ctx.sn o.d) (BitVec.ofNat 32 i)]) ∧
        Stores s s2 a (bytesOf (leAt bs 24 2) 2 ++ bytesOf ((if leAt bs 24 2 = 0 then 2 else 1) * 8192 + o.mod * 1024) 2) ∧
        Tab.get 0 (s2.part p).owner i = c.owner + 1 ∧ (s2.cnt c.owner).value = ((s.cnt c.owner).value + 1) % 2 ^ 32 ∧
        ∀ k, Tab.get [] (s2.part p).ready k = Tab.get [] c.part.ready k ++ (if leAt bs 24 2 = 0 ∧ k = o.mod then [i] else []))) ∧
    (Passes 0xE8 o s c → let m := (c.uni o.b).toNat
      let bs := tabBytes s p n
      (c.part.tabn ≤ n → TrapsWith (.tabdec o) s c 0x3C) ∧
      (n < c.part.tabn → (m = 0 ∨ tabFault s p n = none → ¬ ready → exec (.tabdec o) s = .next s) ∧ (ready → m = 0 → Writes (.tabdec o) s c []) ∧
        (∀ f, m ≠ 0 → tabFault s p n = some f → exec (.tabdec o) s = .next (takeTrap s c.sid c.k f.code f.addr 0)) ∧
        (ready → m ≠ 0 → tabFault s p n = none → tabState bs ≠ 1 ∨ tabJoin bs < m → exec (.tabdec o) s =
          .next (retire c (s.setPart p { c.part with tabUnder := c.part.tabUnder + 1 }) [])) ∧
        (∀ a, ready → m ≠ 0 → tabFault s p n = none → tabState bs = 1 → m ≤ tabJoin bs → pageRun s (ringWho p) tabAcc (tabAddr s p n + 24) 4 a →
          ∃ s2, exec (.tabdec o) s = .next (retire c s2 []) ∧ s2 = { s with mem := s2.mem, parts := s2.parts } ∧
            (∀ b, b < a ∨ a + 4 ≤ b → s2.byteAt b = s.byteAt b) ∧ leAt (s2.readMem a 2) 0 2 = tabJoin bs - m ∧
            bits (leAt (s2.readMem (a + 2) 2) 0 2) 13 3 = (if tabJoin bs = m then 2 else 1) ∧
            bits (leAt (s2.readMem (a + 2) 2) 0 2) 12 1 = bits (leAt bs 26 2) 12 1 ∧ bits (leAt (s2.readMem (a + 2) 2) 0 2) 10 2 = tabPri bs ∧
            (∀ k, Tab.get [] (s2.part p).ready k = Tab.get [] c.part.ready k ++ (if tabJoin bs = m ∧ k = tabPri bs then [n] else [])) ∧
            (o.mod = 0 → bits (leAt (s2.readMem (a + 2) 2) 0 2) 0 10 = bits (leAt bs 26 2) 0 10) ∧
            (o.mod = 1 → bits (leAt (s2.readMem (a + 2) 2) 0 2) 0 10 = min 1023 (bits (leAt bs 26 2) 0 10 + m))))) ∧
    (Passes 0xE9 o s c → ∀ i ∈ [Instr.tabst32 o, Instr.tabst o],
      (∀ k, c.t.tab = some k → Writes i s c [.s (Ctx.sn o.d) (BitVec.ofNat 32 k), .s (Ctx.sn o.d + 1) c.t.tabw]) ∧
      (c.t.tab = none → Writes i s c [.s (Ctx.sn o.d) 0xFFFFFFFF, .s (Ctx.sn o.d + 1) 0])) ∧
    (∀ bs, Passes 0xEA o s c → readAtIssue c va 64 64 = .ok bs →
      let a := armOf bs
      let legal : Prop := leAt bs 2 1 % 4 ≤ 1 ∧ leAt bs 2 1 < 16 ∧ 1 ≤ a.nb ∧ a.nb ≤ 64 ∧ a.abuf.toNat % 128 = 0 ∧ a.abuf.toNat + 384 * a.nb ≤ 2 ^ 32 ∧
        leAt bs 4 4 = 0 ∧ leAt bs 24 40 = 0 ∧ inCistern s p a.abuf.toNat (384 * a.nb) = true ∧ armWith s p a.tag = none ∧
        (c.part.arms.filter (fun e => e.2.isSome)).length < 256
      (¬ legal → TrapsWith (.arm o) s c 0x3D) ∧ (legal → ¬ ready → exec (.arm o) s = .next s) ∧
      (legal → ready → ∃ s2, exec (.arm o) s = .next (retire c s2 []) ∧ s2 = { s with parts := s2.parts, acc := s2.acc } ∧
        (s2.part p).arms = Tab.set none c.part.arms s.fresh (some a))) ∧
    (Passes 0xEB o s c → ∀ i ∈ [Instr.disarm32 o, Instr.disarm o],
      (armWith s p (n % 65536) = none → Writes i s c []) ∧
      (∀ e a, armWith s p (n % 65536) = some (e, a) → exec i s = .next (retire c
        (s.setPart p { c.part with arms := Tab.set none c.part.arms e none }) [])))

/-- R378 to R384, R394, Table 17.3: a queue that runs reads its next packet once it is published and its lane's turn in its core's parse step has come
(by type, then by lane; which other lanes have parsed theirs by then is free, log 34), advances RDIDX and does what the packet says; an unknown
or ill-formed packet, a foreign counter or a bad descriptor puts the queue in error and raises its interrupt, RDIDX as it was. -/
def Obligations.HostPacketsRunInOrder : Prop :=
  ∀ (s : State) (q k : Nat) (b : List Byte) (a : Nat) (i : Instr), let h := s.queue q
    let p := h.part
    let c := packetCnt b
    let kinds : List Instr := [.nopPacket q, .launchPacket q, .copyPacket q, .signalSet q, .signalDec q, .signalDecFailed q, .waitPacket q, .cancelPacket q,
      .armPacket q, .disarmPacket q]
    let inError (s' : State) (err : Nat) : Prop := { s' with psteps := s.psteps } = State.raiseMsix (s.setQueue q { h with st := 3, err := err }) (8 * p + 5)
    let known (x : Nat) : Prop := (laneKind s x).isSome = true
    let waits := (Tab.get [] s.psteps (q / 32)).filter (fun x => (laneKind s x).isSome)
    (waits ≠ [] → stepOf s q = waits) ∧
    (waits = [] → (known q → q ∈ stepOf s q) ∧ (∀ x ∈ stepOf s q, known x ∧ x / 32 = q / 32) ∧
      (stepOf s q).Pairwise (fun x y => ∀ m n, laneKind s x = some m → laneKind s y = some n → typeRank m < typeRank n ∨ typeRank m = typeRank n ∧ x < y)) ∧
    (kinds[k]? = some i → h.en = true → h.st = 1 → q < 128 → islandUp s 20 = true → (s.part p).wdreset = none → quiet s p → ringGet s p h.slot 64 1 = .ok b →
    (leAt b 0 4 ≠ (h.head + 1) % 2 ^ 32 → exec i s = .next s) ∧
    (leAt b 0 4 = (h.head + 1) % 2 ^ 32 →
      (packetKind b = none → ∃ s', exec i s = .next s' ∧ inError s' 1) ∧
      (∀ k', packetKind b = some k' → k' ≠ k → exec i s = .next s) ∧
      (packetKind b = some k →
        (∀ e, packetError s p k b = e → e ≠ 0 → ∃ s', exec i s = .next s' ∧ inError s' e) ∧
        (packetError s p k b = 0 → (stepOf s q).head? ≠ some q → ∃ l, exec i s = .next { s with psteps := l }) ∧
        (packetError s p k b = 0 → (stepOf s q).head? = some q → pageRun s (ringWho p) Acc.write (h.ctl 8) 8 a →
          let done (R : State → Prop) : Prop := ∃ s', exec i s = .next s' ∧ Stores s s' a (bytesOf (h.head + 1) 8) ∧ (s'.queue q).head = h.head + 1 ∧ R s'
          (k = 0 → done (fun s' => s'.launches = s.launches ∧ s'.ctr = s.ctr ∧ s'.parts = s.parts)) ∧
          (k = 1 → ∀ bs, ringGet s p (leAt b 8 8) 64 64 = .ok bs →
            (descOk s p bs = false → ∃ s', exec i s = .next s' ∧ inError s' 2) ∧
            (descOk s p bs = true → done (fun s' => s'.nlaunch = s.nlaunch + 1 ∧
              s'.launches = Tab.set none s.launches (s.nlaunch + 1) (some ⟨descOf bs, p, .host q, 0, 0, [], false, false⟩)))) ∧
          (k = 2 → ∀ dst src, ringGet s p (leAt b 8 8) 64 1 = .ok dst → ringGet s p (leAt b 16 8) 64 1 = .ok src →
            let x := BitVec.ofNat 512 (ofBytes dst)
            let y := BitVec.ofNat 512 (ofBytes src)
            shapeOk x = true → shapeOk y = true → (shapeOf x).count = (shapeOf y).count → (shapeOf x).w = (shapeOf y).w → dieOps s (lowestDie (s.part p)) < 1024 →
            done (fun s' => s'.neop = s.neop + 1 ∧ ∃ z, s'.eop? s.neop = some z ∧ z.kind = .copy 0 none ∧ z.ring = some (q, c) ∧ z.a = shapeOf x ∧ z.b = shapeOf y ∧
              z.part = p ∧ z.sid = none)) ∧
          (k = 3 → leAt b 12 4 ≠ 0 → done (fun s' => ∃ par, s'.cnt c = ⟨(s.cnt c).v, false, false, (s.cnt c).part, leAt b 18 1, decide (32768 ≤ leAt b 16 2), par, 0, leAt b 12 4⟩ ∧
            (32768 ≤ leAt b 16 2 → par = leAt b 16 2 % 4096))) ∧
          (k = 4 → openCnt s c → done (fun s' => Decremented s s' c false)) ∧
          (k = 5 → openCnt s c → done (fun s' => Decremented s s' c true)) ∧
          (k = 6 → ((s.cnt c).done = true → done (fun s' => (s'.queue q).st = 1)) ∧
            ((s.cnt c).done = false → done (fun s' => (s'.queue q).st = 2 ∧ (s'.queue q).waiting = some c))) ∧
          (k = 7 → ((s.cnt c).done = true → done (fun s' => s'.ctr = s.ctr)) ∧
            ((s.cnt c).done = false → s.eops = [] → (s.part p).owner = [] → s.launches = [] →
              done (fun s' => s'.ctr = Tab.set 0 s.ctr c (s.counter c ||| 0x2000000000000000)))) ∧
          (k = 8 → ∀ bs, ringGet s p (leAt b 8 8) 64 64 = .ok bs →
            (armTakes s p bs = false → ∃ s', exec i s = .next s' ∧ inError s' 5) ∧
            (armTakes s p bs = true → done (fun s' => (s'.part p).arms = Tab.set none (s.part p).arms s.fresh (some (armOf bs))))) ∧
          (k = 9 → done (fun s' => (armWith s p (leAt b 18 2) = none → (s'.part p).arms = (s.part p).arms) ∧
            ∀ e x, armWith s p (leAt b 18 2) = some (e, x) → (s'.part p).arms = Tab.set none (s.part p).arms e none))))))

/-- R26, R336, R386 to R390, R393, R395, R396, Table 17.7: the dispatcher starts teams of the queue whose turn it is, with the registers of Table 17.7, raises
a queue that has waited, gates a tab whose inputs are not resident and starts one whose are; weakly parallel teams move out and back; a launch that is over
decrements its counter; a message fires its arm. -/
def Obligations.DispatcherStartsAndEndsLaunches : Prop :=
  ∀ (s : State),
    (∀ id l spot core, s.launch? id = some l → admits s l.part = true → isHead s id l = true →
      (mayServe s l.queue = false → chainCan s l.desc.cnt = false → (placeAll (freeAll (clustersOf s l.part)) l).isSome = true →
        exec (.concurrentAdmit id) s = .next s ∧ ∀ die, exec (.batchHandoff id die) s = .next s) ∧
      (mayServe s l.queue = true → chainCan s l.desc.cnt = false → l.desc.courses = 1 → l.desc.seqk = 0 → l.desc.win = 0 → l.tab? = none → l.left = 1 → l.redo = [] →
        spot = ⟨spot.cl, [core], spot.win⟩ → core < 4 → (∃ n < 16, s.stream? (16 * (4 * spot.cl + core) + n) = none ∧ slotHeld s (16 * (4 * spot.cl + core) + n) = false) →
        let started (i : Instr) : Prop := ∃ s' sid t, exec i s = .next s' ∧ s'.mem = s.mem ∧ s'.nteam = s.nteam + 1 ∧
          s'.launch? id = some { l with running := l.running + 1, next := l.next + 1 } ∧
          s'.team? (s.nteam + 1) = some
            ⟨l.part, id, l.next, spot.cl, [sid], [(sid, roundAlloc l.desc.regs l.desc.tryres)], 1, false, spot.win, 0, [], 0, false, false, none⟩ ∧
          sid / 16 = 4 * spot.cl + core ∧ s.stream? sid = none ∧ s'.stream? sid = some t ∧ t.team = s.nteam + 1 ∧ t.live = Lanes.all ∧
          (∃ x, t.p0 = some x ∧ x.pc = l.desc.code ∧ x.em = Lanes.all ∧ x.own = Lanes.all ∧ x.entry = true) ∧ t.p1 = none ∧ t.sys = l.desc.sys ∧
          t.alloc = roundAlloc l.desc.regs l.desc.tryres ∧ t.mode = 0 ∧ t.step = (s.part l.part).pstepmax ∧
          t.sAt 1 = l.s1 ∧ t.pairAt 2 = l.desc.args ∧ (t.sAt 4).toNat = l.next % l.desc.gx % 2 ^ 32 ∧ (t.sAt 5).toNat = l.next / l.desc.gx % l.desc.gy % 2 ^ 32 ∧
          (t.sAt 6).toNat = l.next / (l.desc.gx * l.desc.gy) % 2 ^ 32 ∧ t.sAt 7 = 0 ∧ t.sAt 8 = 0xFFFFFFFF ∧ (∀ n, 9 ≤ n → t.sAt n = 0) ∧ t.v = []
        (l.desc.prog = 0 → l.fresh = true → placeAll (freeNow s (clustersOf s l.part)) l = some [spot] →
          (placeAll (freeAll (clustersOf s l.part)) l).isSome = true → started (.concurrentAdmit id)) ∧
        (∀ die, l.desc.prog ≠ 0 → batchOn s l die = [spot] → started (.batchHandoff id die)))) ∧
    (∀ w, (agingDue s w = true → exec (.priorityAging w) s =
        .next { s with raised := Tab.set 0 s.raised w (Tab.get 0 s.raised w + 1), aging := Tab.set 0 s.aging w 0 }) ∧
      (Tab.get 0 s.aging w < 4096 → exec (.priorityAging w) s = .next s)) ∧
    (∀ p cl, (admits s p = false → exec (.tabStart p cl) s = .next s) ∧
      (∀ i, admits s p = true → frontTab s p 0 = some i → tabResident s p i = false → exec (.tabStart p cl) s = .next (s.setPart p { s.part p with
        ready := Tab.set [] (s.part p).ready 0 (Tab.get [] (s.part p).ready 0).tail, gate := (s.part p).gate ++ [i] })) ∧
      (∀ i sp, admits s p = true → frontTab s p 0 = some i → tabResident s p i = true → (∀ k, 1 ≤ k → k < 4 → frontTab s p k = none) →
        chainCan s (tabOwner s p i) = false → mayServe s (160 + 4 * p) = true → tabSpot s p i cl = some sp → p < 8 →
        ∃ s', exec (.tabStart p cl) s = .next s' ∧ s'.nlaunch = s.nlaunch + 1 ∧ s'.nteam = s.nteam + 1 ∧
          frontTab s' p 0 = (Tab.get [] (s.part p).ready 0).tail.head? ∧
          (∃ l, s'.launch? (s.nlaunch + 1) = some l ∧ l.part = p ∧ l.road = .tab i ∧ l.desc = tabDesc s p i ∧ l.running = 1) ∧
          ∃ t, s'.team? (s.nteam + 1) = some t ∧ t.launch = s.nlaunch + 1 ∧ t.cluster = sp.cl ∧ ∀ a, s.ue = [] → pageRun s (ringWho p) tabAcc (tabAddr s p i) 32 a →
            (∀ mem, (∀ b, b < a + 24 ∨ a + 28 ≤ b → State.byteAt { s with mem := mem } b = s.byteAt b) →
              access { s with mem := mem } (ringWho p) tabAcc (tabAddr s p i) 32 1 = .ok a) →
            ∀ sid ∈ t.courses, ∃ u, s'.stream? sid = some u ∧ u.tab = some i ∧ bits u.tabw.toNat 29 3 = 3 ∧ bits u.tabw.toNat 0 16 = tabJoin (tabBytes s p i))) ∧
    (∀ tm t l, s.team? tm = some t → s.launch? t.launch = some l → l.desc.prog ≠ 2 ∨ t.displaced ≠ none ∨ l.cancelled = true →
      exec (.teamDisplace tm) s = .next s) ∧
    (∀ tm t l x, s.team? tm = some t → s.launch? t.launch = some l → l.desc.prog = 2 → l.cancelled = false → l.tab? = none → t.displaced = none → t.seq = false →
      (∃ sid, t.courses = [sid] ∧ s.stream? sid = some x) → (∃ m y, m ≠ tm ∧ s.team? m = some y ∧ y.launch = t.launch ∧ y.displaced = none ∧ y.courses ≠ []) →
      admits s t.part = true → movable s tm t.courses = true → ∃ s', exec (.teamDisplace tm) s = .next s' ∧ s'.mem = s.mem ∧ (∀ sid ∈ t.courses, s'.stream? sid = none) ∧
        s'.team? tm = some { t with displaced := some ⟨[x], none, windowBytes s t⟩, courses := [], slots := [] }) ∧
    (∀ tm t d x sp f core, s.team? tm = some t → t.displaced = some d → d.courses = [x] → d.seq = none → t.wsize = 0 → admits s t.part = true →
      placeOne (freeNow s ((clustersOf s t.part).filter (fun c => dieOf c = dieOf t.cluster))) ⟨1, x.alloc, false, 0⟩ = some (sp, f) → sp.cores = [core] →
      ∃ s' sid, exec (.displacedTeamRestore tm) s = .next s' ∧ s'.mem = s.mem ∧ s'.stream? sid = some x ∧ sid / 16 = 4 * sp.cl + core ∧
        s'.team? tm = some { t with cluster := sp.cl, courses := [sid], slots := [(sid, x.alloc)], seq := false, wbase := sp.win, displaced := none }) ∧
    (∀ id l, s.launch? id = some l →
      (l.left ≠ 0 ∨ l.running ≠ 0 ∨ l.cancelled = true → exec (.launchComplete id) s = .next s) ∧ (l.cancelled = false → exec (.cancelComplete id) s = .next s) ∧
      (l.running = 0 → launchQuiet s id l.part = true → (∃ q, l.road = .host q) → openCnt s l.desc.cnt →
        (l.cancelled = false → l.left = 0 → ∃ s', exec (.launchComplete id) s = .next s' ∧ s'.launch? id = none ∧ Decremented s s' l.desc.cnt l.failed) ∧
        (l.cancelled = true → ∃ s', exec (.cancelComplete id) s = .next s' ∧ s'.launch? id = none ∧ Decremented s s' l.desc.cnt true))) ∧
    (∀ m p, m.ty = 7 → loopReady s m = false → mustWait s m = false →
      let answered (s' : State) (ty opc : Nat) : Prop := ∃ q, s'.fout = s.fout ++ [q] ∧ q.ty = ty ∧ q.opc = opc ∧ q.tag = m.tag
      (targetPart s m.djob = none → ∃ s', exec (.msgPacket m) s = .next s' ∧ answered s' 0x12 0) ∧
      (targetPart s m.djob = some p → quiet s p →
        (armWith s p (m.aux % 65536) = none → ∃ s', exec (.msgPacket m) s = .next s' ∧ answered s' 0x12 1 ∧ s'.mem = s.mem) ∧
        (∀ e a r bs, armWith s p (m.aux % 65536) = some (e, a) → a.standing = false → a.busy = [] → 1 ≤ a.nb → m.payload.length = 384 →
          pageRun s (ringWho p) Acc.write a.abuf.toNat 384 r →
          (∀ mem arms, let s1 := State.setPart { s with mem := mem, fin := s.fin.erase m } p { s.part p with arms := arms }
            Stores s s1 r m.payload → (∃ x, access s1 (ringWho p) Acc.read a.desc.toNat 64 64 = .ok x) ∧ readVa s1 (ringWho p) Acc.read a.desc.toNat 64 = bs) →
          descOk s p bs = true →
          ∃ s', exec (.msgPacket m) s = .next s' ∧ answered s' 0x11 0 ∧ Stores s s' r m.payload ∧ s'.nlaunch = s.nlaunch + 1 ∧
            (s'.part p).arms = Tab.set none (s.part p).arms e none ∧
            ∃ l, s'.launch? (s.nlaunch + 1) = some l ∧ l.desc = { descOf bs with pri := a.pri } ∧ l.part = p ∧ ∃ w, l.road = .arm e 0 w ∧ w.toNat = a.abuf.toNat % 2 ^ 32)))

-- Traps, handlers, stops

/-- A stream's stop record (Table 18.3); SKID, its word 7, is left open. -/
def StopRecord (s : State) (p sid cause flags : Nat) (aux : Word) (pc addr : Addr) (seq : Nat) (em : Lanes) (ws : List Word) : Prop :=
  let two (i : Nat) : Nat := (nth 0 ws i).toNat + 2 ^ 32 * (nth 0 ws (i + 1)).toNat
  ws.length = 16 ∧ nth 0 ws 0 = wd (cause + 2 ^ 8 * (if isSeq sid then 1 else 0) + 2 ^ 16 * flags + 2 ^ 24 * p) ∧ nth 0 ws 1 = aux ∧
  two 2 = pc.toNat ∧ two 4 = addr.toNat ∧ nth 0 ws 6 = wd seq ∧ (∀ b < 3, nth 0 ws (8 + b) = em.beat b) ∧
  nth 0 ws 11 = wd ((if isSeq sid then sid - 12288 else sid / 64) + 2 ^ 16 * sid) ∧ two 12 = stopCyc s p sid % 2 ^ 64 ∧ two 14 = 0

/-- A stream as a halt for good leaves it: the open region is discarded where it belongs to the partition and has stopped, or runs a handler; the
others discard theirs as they stop (R240). -/
def regionGone (p : Nat) (u : Stream) : Stream := if u.part = p ∧ (u.stopped = true ∨ u.hnd ≠ none) then { u with tr := none, abort := none } else u

/-- Every stream but one is as a halt for good leaves it. -/
def Discards (s s' : State) (p sid : Nat) : Prop := ∀ j ≠ sid, s'.stream? j = (s.stream? j).map (regionGone p)

/-- R14, R238, R240, R401, R403, R404, R406, R419, Table 18.3: a trap outside a handler and a region stops its stream, takes a number, raises the halt line
and stages its record, in memory too where SRBASE is not 0; in a handler it halts the partition for good, and regions are discarded; in a region it asks for
an abort instead. TRAP and BRKP trap with their causes; HALTP halts the partition for good. -/
def Obligations.TrapIsTakenByArbiter : Prop :=
  (∀ (s : State) (sid k cause : Nat) (addr : Addr) (aux : Word) (t : Stream) (p : Path), s.stream? sid = some t → t.path? k = some p →
    (s.part t.part).wdreset = none → sid < 12480 →
    let x := s.part t.part
    let em : Lanes := if isSeq sid then 1 else p.em
    let s' := takeTrap s sid k cause addr aux
    let flags := if t.hnd = none then (if x.perm then 17 else 1) else 21
    let ev : Event := ⟨x.seq.toNat, sid, handlerOf s sid t, cause, p.pc, addr, aux, em, flags, x.perm, some (sid, k), none, stopCyc s t.part sid, isSeq sid⟩
    let noted (ws : List Word) : Part := { x with
      seq := x.seq + 1, halted := true, firstSeq := if x.halted then x.firstSeq else x.seq.toNat,
      stage := Tab.set [] (if x.halted then x.stage else []) sid ws,
      stoppedAt := if x.halted = false then [sid] else if sid ∈ x.stoppedAt then x.stoppedAt else sid :: x.stoppedAt,
      stopClk := Tab.set 0 x.stopClk sid (stopCyc s t.part sid), owing := if x.halted then x.owing else startedColls s t.part,
      halts := if x.halted then x.halts else x.halts + 1, events := x.events ++ [ev] }
    let recorded (ws : List Word) : Prop := StopRecord s t.part sid cause flags aux p.pc addr x.seq.toNat em ws ∧
      (x.srbase = 0 → s'.mem = s.mem) ∧ (x.srbase ≠ 0 → Stores s s' (x.srbase.toNat + 64 * sid) (bytesOfWords ws))
    (t.hnd = none → t.inTry = false → ∃ ws, recorded ws ∧ s' = { s with streams := s'.streams, parts := s'.parts, mem := s'.mem } ∧
      s'.stream? sid = some { t with stopped := true } ∧ (∀ j ≠ sid, s'.stream? j = s.stream? j) ∧ s'.part t.part = noted ws) ∧
    (t.hnd ≠ none → ∃ ws, recorded ws ∧ s' = { s with streams := s'.streams, parts := s'.parts, mem := s'.mem, msix := s.msix ++ [8 * t.part + 3] } ∧
      s'.stream? sid = some { t with stopped := true, tr := none, abort := none } ∧ Discards s s' t.part sid ∧
      s'.part t.part = { noted ws with perm := true, handler := none, events := (noted ws).events.map (fun e => { e with handled := true }) }) ∧
    (t.hnd = none → t.inTry = true → s' = { s with streams := s'.streams, ott := s'.ott } ∧ ∃ a : Addr,
      (0x10 ≤ cause → cause ≤ 0x1C → cause ≠ 0x1A → a = addr) ∧ (cause < 0x10 ∨ 0x1C < cause ∨ cause = 0x1A → a = p.pc) ∧
      s'.stream? sid = some { t with abort := some ⟨3, cause, a⟩ })) ∧
  (∀ (o : Opnds) (s : State) (c : Ctx),
    (Passes 0xF0 o s c → ∀ i ∈ [Instr.trap32 o, Instr.trap o], exec i s = .next (takeTrap s c.sid c.k 0x3E 0 (c.uni o.a))) ∧
    (Passes 0xF2 o s c → ∀ i ∈ [Instr.brkp32 o, Instr.brkp o], TrapsWith i s c 0x3F) ∧
    (Passes 0xF5 o s c → c.unbound → c.part.wdreset = none → c.sid < 12480 → ∀ i ∈ [Instr.haltp32 o, Instr.haltp o],
      ∃ s' ws, exec i s = .next s' ∧ StopRecord s c.t.part c.sid 0x41 17 (c.uni o.a) c.pc 0 c.part.seq.toNat c.p.em ws ∧
        s'.stream? c.sid = some { c.t with stopped := true, tr := none, abort := none } ∧ s'.msix = s.msix ++ [8 * c.t.part + 3] ∧ Tab.get [] (s'.part c.t.part).stage c.sid = ws ∧
        (s'.part c.t.part).seq = c.part.seq + 1 ∧ (s'.part c.t.part).halted = true ∧ (s'.part c.t.part).perm = true ∧
        (s'.part c.t.part).handler = none ∧ (∀ e ∈ (s'.part c.t.part).events, e.handled = true) ∧
        (c.part.srbase = 0 → s'.mem = s.mem) ∧ Discards s s' c.t.part c.sid))

/-- R86, R97, R405, R407, R413, Table 18.4: once every party has stopped the handler of the lowest event starts, its course's path at TVEC with s1 to s7 as told and
the rest saved, pending writes complete; an event that no stream can handle halts for good, and its record says so; none starts while a watchdog resets the partition.
RTE waits for what the handler has out, restores s1 to s31 and the control state, sets the trapping path at the record's PC and goes on to the next event or releases
the halt; .SKIP passes the instruction there, .ENDC ends the course, .ENDP halts for good; outside a handler it traps. That a path which no longer stands at the
record's PC stays where it is is the model's choice (log 13), and so is that .SKIP at a path whose block entry trapped is a retry (log 37). -/
def Obligations.HandlersStartAndReturn : Prop :=
  (∀ (s : State) (p : Nat), let x := s.part p
    (x.halted = false ∨ x.perm = true ∨ x.handler ≠ none ∨ x.pre ≠ 0 ∨ x.wdreset ≠ none ∨ (∃ i ∈ streamsOf s p, ∃ t, s.stream? i = some t ∧ t.stopped = false) →
      exec (.handlerEntry p) s = .next s) ∧
    (∀ e, x.halted = true → x.perm = false → x.handler = none → x.pre = 0 → x.wdreset = none → allStopped s p = true → nextEvent x = some e →
      let s1 : State := match e.who with
        | some (w, _) => (stageRecord s p e).modStream w Stream.settled
        | none => stageRecord s p e
      let forGood : Prop := ∃ s' w ws, exec (.handlerEntry p) s = .next s' ∧ s'.msix = s.msix ++ [8 * p + 3] ∧
        (∀ j, s'.stream? j = (s1.stream? j).map (regionGone p)) ∧
        (s'.part p).perm = true ∧ (s'.part p).handler = none ∧ (∀ y ∈ (s'.part p).events, y.handled = true) ∧
        recWords s p e = w :: ws ∧ Tab.get [] (s'.part p).stage e.idx = (w ||| 0x100000) :: ws ∧ (x.srbase = 0 → s'.mem = s.mem)
      (e.sid = none → forGood) ∧ (∀ c, e.sid = some c → s1.stream? c = none → forGood) ∧
      (∀ c t, e.sid = some c → s1.stream? c = some t →
        (openBlock s1 (whoOf s1 t c) true t.alloc 0x05 x.tvec = .error 0x05 → forGood) ∧
        (openBlock s1 (whoOf s1 t c) true t.alloc 0x05 x.tvec ≠ .error 0x05 → ∃ u q h,
          exec (.handlerEntry p) s = .next ((s1.setStream c u).setPart p { s1.part p with handler := some c, stopClk := Tab.keep (fun i => i ≠ c) (s1.part p).stopClk }) ∧
          u = { t with s := u.s, sp := u.sp, p0 := some q, p1 := none, arms := [], jm := [], rstk := [], nid := t.nid + 1, stopped := false, hnd := some h } ∧
          q.pc = x.tvec ∧ q.entry = true ∧ q.check = false ∧ q.owe = none ∧ q.own = q.em ∧
          (e.bySeq = true ∨ t.live = 0 → q.em = 1) ∧ (e.bySeq = false → t.live ≠ 0 → e.em &&& ~~~t.live = 0 → q.em = e.em) ∧
          u.sAt 1 = wd e.idx ∧ u.pairAt 2 = e.pc ∧ u.pairAt 4 = e.addr ∧ u.sAt 6 = wd e.cause ∧ u.sAt 7 = wd e.seq ∧ (∀ n, 8 ≤ n → u.sAt n = t.sAt n) ∧
          h.idx = e.idx ∧ h.seq = e.seq ∧ h.pc = e.pc ∧ h.who = e.who ∧ h.back = e.back ∧ h.ctl = t.ctl.settled ∧ ∀ n, 1 ≤ n → n ≤ 31 → Tab.get 0 h.s n = t.sAt n)))) ∧
  (∀ (o : Opnds) (s : State) (c : Ctx), Passes 0xF1 o s c → c.unbound →
    let p := c.t.part
    let all : List Instr := [.rte32 o, .rte o, .rteSkip o, .rteEndc o, .rteEndp o]
    (c.t.hnd = none → ∀ i ∈ all, TrapsWith i s c 0x44) ∧
    (c.t.hnd ≠ none → handlerLoadsOut s c.sid = true ∨ c.t.outst ≠ 0 → ∀ i ∈ all, exec i s = .next s) ∧
    (∀ h, c.t.hnd = some h → handlerLoadsOut s c.sid = false → c.t.outst = 0 →
      let back (skip : Bool) : State := (endHandler s c.sid c.t h (resumeOf s c.sid h skip)).modStream c.sid Stream.tidied
      let s1 := endHandler s c.sid c.t h none
      exec (.rte32 o) s = .next (afterHandler (back false) p) ∧ exec (.rte o) s = .next (afterHandler (back false) p) ∧
      exec (.rteSkip o) s = .next (afterHandler (back true) p) ∧
      (∃ u, exec (.rteEndc o) s = .next (afterHandler (s1.setStream c.sid u) p) ∧
        u.live = 0 ∧ u.p0 = none ∧ u.p1 = none ∧ u.arms = [] ∧ u.tr = none ∧ u.hold = none) ∧
      (∃ s', exec (.rteEndp o) s = .next s' ∧ (s'.part p).handler = none ∧ (s'.part p).halted = c.part.halted ∧
        (∀ w ws, Tab.get [] (s1.part p).stage h.idx = w :: ws → Tab.get [] (s'.part p).stage h.idx = (w ||| 0x100000) :: ws) ∧
        (c.part.wdreset = none → (s'.part p).perm = true ∧ s'.msix = s.msix ++ [8 * p + 3] ∧
          ∀ j, s'.stream? j = (s1.stream? j).map (regionGone p))))) ∧
  (∀ (s : State) (sid : Nat) (h : Saved) (skip : Bool),
    (h.who = none → h.back = none → resumeOf s sid h skip = none) ∧
    (∀ q, h.who = some (sid, 0) → h.ctl.p0 = some q →
      let moved (pc : Addr) (entry : Bool) : Option (Nat × Nat × Path) :=
        some (sid, 0, { q with pc := pc, entry := entry, pend := [], fl := [], wait := none, held := false, check := false })
      (q.pc ≠ h.pc → resumeOf s sid h skip = none) ∧
      (q.pc = h.pc → skip = false ∨ q.entry = true → resumeOf s sid h skip = moved h.pc q.entry) ∧
      (q.pc = h.pc → skip = true → q.entry = false → q.blk ≠ [] → (nth 0 q.rest 0).extractLsb' 30 2 ≠ 3 →
        let pc := q.pc + BitVec.ofNat 64 (4 * Decode.wordCount (nth 0 q.rest 0))
        resumeOf s sid h skip = moved pc (decide (pc.toNat = q.hdr.toNat + 4 * q.blk.length)))) ∧
    (∀ t q id hdr, h.who = none → h.back = some (id, hdr) → h.idx = sid → s.stream? sid = some t → h.ctl.p0 = some q → q.id = id →
      (q.hdr = hdr → skip = false → resumeOf s sid h skip =
        some (sid, 0, { q with pc := h.pc, entry := false, pend := [], fl := [], wait := none, held := false, check := false })) ∧
      (∀ ws, q.hdr ≠ hdr → skip = false → openBlock s (whoOf s t sid) (!isSeq sid) t.alloc 0x05 hdr = .ok ws → resumeOf s sid h skip =
        some (sid, 0, { q with pc := h.pc, hdr := hdr, blk := ws, entry := false, pend := [], fl := [], wait := none, held := false, check := false })))) ∧
  (∀ (s : State) (sid : Nat) (t : Stream) (h : Saved) (r : Option Path), s.stream? sid = some t → (r ≠ none → h.ctl.p0 ≠ none) →
    let s' := endHandler s sid t h (r.map (fun q => (sid, 0, q)))
    let x := s.part t.part
    ∃ u, s'.stream? sid = some u ∧ u = { t with
        s := u.s, sp := u.sp, p0 := if r = none then h.ctl.p0 else r, p1 := h.ctl.p1, arms := h.ctl.arms, jm := h.ctl.jm, rstk := h.ctl.rstk, lr := h.ctl.lr,
        hnd := none, stopped := true, hold := none } ∧
      (∀ n, 1 ≤ n → n ≤ 31 → u.sAt n = Tab.get 0 h.s n) ∧ (∀ n, 32 ≤ n → u.sAt n = t.sAt n) ∧
      s'.part t.part = { x with
        handler := none, stage := (s'.part t.part).stage, stopClk := Tab.set 0 x.stopClk sid (partyClock s sid), events := x.events.map (fun e => if e.seq = h.seq then { e with handled := true } else e) } ∧
      (∀ w ws, Tab.get [] x.stage h.idx = w :: ws → Tab.get [] (s'.part t.part).stage h.idx = (w ||| 0x20000) :: ws) ∧ (x.srbase = 0 → s'.mem = s.mem)) ∧
  (∀ (s : State) (p : Nat), let x := s.part p
    (x.wdreset ≠ none → afterHandler s p = s) ∧ (x.wdreset = none → nextEvent x ≠ none → afterHandler s p = startHandler s p) ∧
    (x.wdreset = none → nextEvent x = none → afterHandler s p = releaseHalt s p) ∧
    (releaseHalt s p).part p = { x with halted := false, handler := none, events := [], stoppedAt := [], stopClk := [], owing := [] } ∧ (releaseHalt s p).mem = s.mem ∧
    (∀ i t, s.stream? i = some t → t.part = p → isSeq i = false → t.live ≠ 0 → t.ended = false →
      (releaseHalt s p).stream? i = some { t with stopped := false }) ∧
    (∀ cl, ownerOf s cl = some p → ((releaseHalt s p).cluster cl).stopped = false))

/-- R86, R239, R303, R374, R402, R404, R410 to R413, R416, R439, R440, R445, Table 18.3: a halt stops a stream at its boundary, an array between its commands or where a
DRAIN waits, and an engine at its unit, each with its record, whose NOTISS says that the instruction was waiting at issue; a pre-emption is complete once every party
has stopped and all that was issued is answered: pending writes complete, waiting instructions become not issued, the contexts are saved and the driver is interrupted; a watchdog that expires halts the partition,
and its reset writes the records of the parties, ends the partition's streams, teams and launches, stops its queues and ends its counters as cancelled and failed;
a fence is recorded. That a record shows path 0's PC, EM and NOTISS where a course has two paths is the model's choice (log 39), and so are the contexts kept in
State and the opaque image in memory (logs 14 and 43). -/
def Obligations.StopsPreemptionAndWatchdog : Prop :=
  ∀ (s : State),
    (∀ idx t, idx < 12480 → s.stream? idx = some t → let x := s.part t.part
      let still : Stream := { t with stopped := true, p0 := if isSeq idx then t.p0.map (fun q => { q with wait := none }) else t.p0 }
      let stopped : Stream := if t.stopped = true then t else if x.perm = true then { still with tr := none, abort := none } else still
      ((t.stopped = true ∧ idx ∈ x.stoppedAt) ∨ (x.halted = false ∧ x.pre ≠ 1 ∧ x.wdreset = none) ∨ (t.hnd ≠ none ∧ x.pre ≠ 1 ∧ x.wdreset = none) →
        exec (.partyStop idx) s = .next s) ∧
      (t.stopped = false → x.pre = 1 → x.halted = false → (idx ∈ x.stoppedAt → exec (.partyStop idx) s = .next (s.setStream idx stopped)) ∧
        (idx ∉ x.stoppedAt → exec (.partyStop idx) s =
          .next ((s.setPart t.part { x with stopClk := Tab.set 0 x.stopClk idx (stopCyc s t.part idx) }).setStream idx stopped))) ∧
      (x.halted = true → x.wdreset = none → t.hnd = none →
        (idx ∈ x.stoppedAt → exec (.partyStop idx) s = .next (s.setStream idx stopped)) ∧
        (∀ q, idx ∉ x.stoppedAt → t.p0 = some q → ∃ s' ws, exec (.partyStop idx) s = .next s' ∧
          StopRecord s t.part idx 0 (if q.held then 32 else 0) 0 q.pc 0 x.firstSeq (if isSeq idx then 1 else q.em) ws ∧ s'.stream? idx = some stopped ∧
          s' = { s with streams := s'.streams, parts := s'.parts, mem := s'.mem } ∧
          s'.part t.part = { x with
            stage := Tab.set [] x.stage idx ws, stoppedAt := idx :: x.stoppedAt, stopClk := Tab.set 0 x.stopClk idx (stopCyc s t.part idx) } ∧
          (x.srbase = 0 → s'.mem = s.mem) ∧ (x.srbase ≠ 0 → Stores s s' (x.srbase.toNat + 64 * idx) (bytesOfWords ws))))) ∧
    (∀ cl p h rest, ownerOf s cl = some p → (s.cluster cl).cq = h :: rest → (s.part p).halted = true → (s.part p).wdreset = none → (s.cluster cl).stopped = false →
      (h.begun = true → drainWaits (s.cluster cl) h = false → exec (.partyStop (12800 + cl)) s = .next s) ∧
      (h.qpush = [] → h.rqpush = [] → drainWaits (s.cluster cl) h = false) ∧
      (h.begun = false ∨ drainWaits (s.cluster cl) h = true → ∃ s', exec (.partyStop (12800 + cl)) s = .next s' ∧ s'.cluster cl = { s.cluster cl with stopped := true } ∧
        12800 + cl ∈ (s'.part p).stoppedAt ∧ s'.streams = s.streams)) ∧
    (∀ p idx pc, p < 8 → 12480 ≤ idx → idx < 12564 → s.eops = [] → (idx, pc) ∈ (s.part p).owing → (s.part p).halted = true → (s.part p).wdreset = none →
      ∃ s', exec (.partyStop idx) s = .next s' ∧ idx ∈ (s'.part p).stoppedAt ∧ s'.streams = s.streams) ∧
    (∀ n x p idx, s.eops = [(n, some x)] → eopIndex n x = idx → 12480 ≤ idx → idx < 12564 → x.part = p → p < 8 → x.stopped = false →
      (∀ q, q ≠ p → (s.part q).owing = []) →
      ((s.part p).halted = false → (s.part p).pre ≠ 1 → (s.part p).wdreset = none → exec (.partyStop idx) s = .next s) ∧
      (x.started = true ∨ (x.atUnit = false ∧ x.done = false) → exec (.partyStop idx) s = .next s) ∧
      ((s.part p).halted = true → (s.part p).wdreset = none → x.started = false → x.atUnit = true ∨ x.done = true → ∃ s', exec (.partyStop idx) s = .next s' ∧
        s'.eop? n = some (if x.done = true then x else { x with stopped := true, moving := none }) ∧ idx ∈ (s'.part p).stoppedAt ∧ s'.streams = s.streams)) ∧
    (∀ p, p < 8 → (s.part p).halted = true → (s.part p).wdreset = none → (s.part p).snap.st = 1 → (s.part p).snap.left ≠ [] →
      ∃ s', exec (.partyStop 12564) s = .next s' ∧ 12564 ∈ (s'.part p).stoppedAt ∧ s'.streams = s.streams) ∧
    (∀ p, let x := s.part p
      let out : Prop := requestsOut s p = true ∨ drainsOut s p = true ∨ persistsOut s p = true ∨ tilesOut s p = true ∨
        ∃ e ∈ eopsOf s p, e.2.kind.collective = true ∧ e.2.started = true
      (x.pre ≠ 1 ∨ unitsStopped s p = false ∨ out → exec (.preemptComplete p) s = .next s) ∧
      (x.pre = 1 → unitsStopped s p = true → ¬ out → ∃ s', exec (.preemptComplete p) s = .next s' ∧
        s'.part p = { x with pre := 2 } ∧ s'.msix = s.msix ++ [8 * p + 1] ∧ (∀ i, i ∉ streamsOf s p → s'.stream? i = s.stream? i) ∧
        (∀ i t, s.stream? i = some t → t.part = p → t.tr = none → s'.stream? i = some t.settled.unissued) ∧
        (∀ i t, s.stream? i = some t → t.part = p → ∃ u, s'.stream? i = some u ∧ (t.hnd = none → u.tr = none) ∧
          ∀ q, u.p0 = some q ∨ u.p1 = some q → q.pend = [] ∧ q.fl = [] ∧ (∀ c, q.wait ≠ some (.since c)) ∧ ∀ n, q.wait ≠ some (.flush n)) ∧
        ∀ a, a < x.ctxbase.toNat ∨ x.ctxbase.toNat + (Config.ctxSize p).toNat ≤ a → s'.byteAt a = s.byteAt a)) ∧
    (let alarm (s1 : State) (p aux : Nat) : State :=
        let x := s1.part p
        s1.setPart p { x with
          seq := x.seq + 1, halted := true, wdreset := some aux, firstSeq := if x.halted then x.firstSeq else x.seq.toNat,
          stage := if x.halted then x.stage else [], stoppedAt := if x.halted then x.stoppedAt else [],
          owing := if x.halted then x.owing else startedColls s1 p, halts := if x.halted then x.halts else x.halts + 1 }
     (∀ q, let h := s.queue q
       (h.timer = 0 ∨ s.clock < h.timer ∨ h.busy = false → exec (.queueWatchdogExpiry q) s = .next s) ∧
       (h.timer ≠ 0 → h.timer ≤ s.clock → h.busy = true → (s.part h.part).wdreset = none →
         exec (.queueWatchdogExpiry q) s = .next (alarm (s.setQueue q { h with timer := 0 }) h.part q))) ∧
     (∀ p, let x := s.part p
       (x.awd = 0 ∨ s.clock < x.awd ∨ x.awopen = [] → exec (.armWatchdogExpiry p) s = .next s) ∧
       (x.awd ≠ 0 → x.awd ≤ s.clock → x.awopen ≠ [] → x.wdreset = none →
         exec (.armWatchdogExpiry p) s = .next (alarm (s.setPart p { x with awd := 0 }) p 0x100)))) ∧
    (∀ p, let starts : Prop := ∃ e ∈ eopsOf s p, e.2.kind.collective = true ∧ e.2.started = true
      ((s.part p).wdreset = none ∨ unitsStopped s p = false ∨ starts → exec (.watchdogReset p) s = .next s) ∧
      (∀ aux, (s.part p).wdreset = some aux → unitsStopped s p = true → ¬ starts →
        ∃ s', exec (.watchdogReset p) s = .next s' ∧ s'.msix = s.msix ++ [8 * p + 2] ∧
          (∀ i t, s'.stream? i = some t → t.part ≠ p) ∧ (∀ i, i ∉ streamsOf s p → s'.stream? i = s.stream? i) ∧ (∀ n t, s'.team? n = some t → t.part ≠ p) ∧
          (∀ n l, s'.launch? n = some l → l.part ≠ p) ∧
          (∀ q, (s.queue q).part = p → (s.queue q).en = true → (q = aux → (s'.queue q).st = 3 ∧ (s'.queue q).err = 6) ∧
            (q ≠ aux → (s'.queue q).st = 0 ∧ (s'.queue q).err = 0 ∧ (s'.queue q).en = false)) ∧
          (∀ n, (s.cnt n).v = true → (s.cnt n).part = p → ((s.cnt n).done = true → s'.cnt n = s.cnt n) ∧
            ((s.cnt n).done = false → s'.cnt n = { s.cnt n with can := true, done := true, fail := min ((s.cnt n).fail + 1) 2047 })) ∧
          (∀ i t q, i < 12480 → s.stream? i = some t → t.part = p → t.p0 = some q → StopRecord s p i 0x43 (if q.held then 40 else 8) (BitVec.ofNat 32 aux) q.pc 0
            (s.part p).firstSeq (if isSeq i then 1 else q.em) (Tab.get [] (s'.part p).stage i)) ∧
          (let y := s'.part p
           y.halted = false ∧ y.perm = false ∧ y.handler = none ∧ y.mboxst = 0 ∧ y.stopClk = [] ∧ y.owing = [] ∧ y.events = [] ∧ y.pre = 0 ∧ y.wdreset = none ∧ y.arms = [] ∧ y.ready = [] ∧ y.gate = [] ∧ y.res = []))) ∧
    (∀ cl, (192 ≤ cl ∨ (s.cluster cl).fenced = true → exec (.clusterFence cl) s = .next s) ∧
      (cl < 192 → (s.cluster cl).fenced = false → ∃ s', exec (.clusterFence cl) s = .next s' ∧ s'.cluster cl = { s.cluster cl with fenced := true } ∧
        s'.repl = s.repl ||| 3 ∧ s'.msix = s.msix ++ [65] ∧ s' = { s with clusters := s'.clusters, repl := s'.repl, msix := s'.msix, fru := s'.fru }))

-- The host and the package

/-- The kernel answers the command at MRHEAD, r being what the command has done: RES and STATUS in its slot, MRHEAD, vector 64 (R430). -/
def Answered (r s' : State) (st : Nat) (res : List Byte) : Prop :=
  let a := 0x10000 + 64 * (r.mrhead % 256)
  s' = { r with bar0 := s'.bar0, mrhead := r.mrhead + 1, msix := r.msix ++ [64] } ∧ (Tab.get 0 s'.bar0 (a + 1)).toNat = st ∧
  (∀ i < res.length, Tab.get 0 s'.bar0 (a + 32 + i) = nth 0 res i) ∧
  ∀ b, b ≠ a + 1 → b < a + 32 ∨ a + 32 + res.length ≤ b → Tab.get 0 s'.bar0 b = Tab.get 0 r.bar0 b

/-- A group's entry, or its removal, stands in the switch, and in this package's copy where the package is a member; every sequence of the group starts
at 0, and what was under way for it is gone (R338, R432, R449, R450). -/
def regrouped (s : State) (g : Nat) (e : Option Group) : State :=
  { s with
    groups := Tab.set none s.groups g e, gseq := Tab.set 0 s.gseq g 0, sw := s.sw.filter (fun q => q.group ≠ g), swClosed := s.swClosed.filter (fun q => q.1 ≠ g),
    gcopy := Tab.set none s.gcopy g (e.filter (fun y => y.members.any (fun m => (List.range 8).any (fun p =>
      (s.part p).den && (s.part p).djob = y.djob && (s.part p).self_ = m)))),
    rx := s.rx.filter (fun q => q.aux % 65536 ≠ g) }

/-- R185, R295, R338, R362, R372, R375, R378, R391, R403, R405, R409, R410, R412, R413, R428 to R434, R438, R445, Tables 19.2 to 19.2d: the kernel executes the commands of the
management ring in order. A field out of range is BAD, a foreign object DENIED, work in the way BUSY, each without effect; else the command takes effect and answers OK.
A 1 in a Reserved bit of a register value has no effect, and is no BAD. That, the order BAD, DENIED, BUSY, which partition owns a queue, what CNT_ALLOC and
CNT_FREE leave of a counter that is held already, and that PREEMPT and RESTORE with nothing to do answer OK are the model's choices (log 60); so are the BAD
bounds of STREAM_CFG (log 40), the queues that RESET disables and EVICT_DONE in REQ (log 61), and where the key's index lies and the order of a report's
fields (log 41). -/
def Obligations.ManagementCommandsExecuteInOrder : Prop :=
  ∀ (s : State), let b := s.command
    let p := cmdPart b
    let x := s.part p
    let i := cmdIdx b
    let v := cmdArg0 b
    let w := cmdArg1 b
    let hbm : Nat := 0xC000000000
    let kinds : List Instr := [.partCfgQuads, .partCfgPtroot, .partCfgSrbase, .partCfgTvec, .partCfgCtxbase, .partCfgTabbase, .partCfgTabn, .partCfgTabcfg,
      .partCfgMigring, .partCfgDomctl, .partCfgNvmeports, .partTuneMto, .partTuneMigth, .partTuneWdcfg, .queueCfg, .cntAlloc, .cntFree, .streamCfg, .groupCfg,
      .preempt, .restore, .reset, .mboxAnswer, .nvmeSubmit, .attest, .evictDone, .frameExtSet, .frameExtClear]
    let answers (j : Instr) (r : State) (st : Nat) (res : List Byte) : Prop := ∃ s', exec j s = .next s' ∧ Answered r s' st res
    (∀ j ∈ kinds, s.up = false ∨ s.mrtail ≤ s.mrhead ∨ s.nvme ≠ [] → exec j s = .next s) ∧
    (s.up = true → s.mrhead < s.mrtail → s.nvme = [] →
      (∀ (k : Nat) (j : Instr), kinds[k]? = some j →
        (commandKind b = none → answers j s 2 []) ∧ (∀ m, commandKind b = some m → m ≠ k → exec j s = .next s) ∧
        (commandKind b = some k → commandClean k b = false → (k ∈ [18, 23, 24] → s.gated = []) → (k = 24 → s.huok = true ∧ s.pq.length < pqSize) →
          answers j s 2 [])) ∧
      (let is (k : Nat) : Prop := commandKind b = some k ∧ commandClean k b = true
       let field (k : Nat) (legal taken : Prop) (y : Part) : Prop := is k → ∀ j, kinds[k]? = some j → (¬ legal → answers j s 2 []) ∧ (legal → taken → answers j s 3 []) ∧
         (legal → ¬ taken → hasWork s p = true → answers j s 1 []) ∧ (legal → ¬ taken → hasWork s p = false → answers j (s.setPart p y) 0 [])
       let tuned (k : Nat) (y : Part) : Prop := is k → ∀ j, kinds[k]? = some j → (v < 2 ^ 32 → answers j (s.setPart p y) 0 []) ∧ (2 ^ 32 ≤ v → answers j s 2 [])
       let a64 : Addr := BitVec.ofNat 64 v
       field 0 (v < 2 ^ 16) (∃ q < 8, q ≠ p ∧ (s.part q).quads &&& BitVec.ofNat 16 v ≠ 0) { x with quads := BitVec.ofNat 16 v, seq := 0 } ∧
       field 1 (v % 4096 = 0 ∧ v + 4096 ≤ hbm) False { x with ptroot := a64 } ∧ field 2 (v % 65536 = 0 ∧ v + 2 ^ 20 ≤ hbm) False { x with srbase := a64 } ∧
       field 3 True False { x with tvec := a64 } ∧ field 4 (v % 65536 = 0 ∧ v + 65536 ≤ hbm) False { x with ctxbase := a64 } ∧
       field 5 (v % 32 = 0) False { x with tabbase := a64 } ∧ field 6 (v ≤ 2 ^ 24) False { x with tabn := v } ∧
       (let t : Addr := BitVec.ofNat 64 (v % 2 ^ 57); field 7 (tabcfgOk t = true) False { x with tabcfg := t }) ∧
       field 9 True False { x with domctl := BitVec.ofNat 64 (bits v 32 9 * 2 ^ 32 + bits v 16 16 * 2 ^ 16 + bits v 0 10) } ∧
       field 10 (v ≤ 3) (∃ q < 8, q ≠ p ∧ (s.part q).nvmeports &&& v ≠ 0) { x with nvmeports := v } ∧
       (is 8 → let legal : Prop := v % 65536 = 0 ∧ (regionOf v = .hbm ∨ regionOf v = .host)
         (¬ legal → answers .partCfgMigring s 2 []) ∧ (legal → hasWork s p = true → answers .partCfgMigring s 1 []) ∧
         (legal → hasWork s p = false → ∃ r, answers .partCfgMigring r 0 [] ∧ r = { s.setPart p { x with migring := a64, migwi := 0 } with mem := r.mem } ∧
           (v = 0 → r.mem = s.mem) ∧ (v ≠ 0 → Stores s r (v + 16384) (List.replicate 8 0)))) ∧
       tuned 11 { x with mto := wd (v % 2 ^ 5) } ∧ tuned 12 { x with migth := wd (v % 2 ^ 8) } ∧ tuned 13 { x with wdcfg := wd (v % 2 ^ 5) } ∧
       (is 14 → let h := s.queue i
         let n : HQ := { h with ring := BitVec.ofNat 64 w, log2 := bits v 12 4, pri := bits v 10 2, part := bits v 7 3, owned := true }
         let range : Prop := i < 128 ∧ (v % 2 = 1 → 2 ≤ n.log2 ∧ w % 64 = 0)
         let foreign : Prop := h.owned = true ∧ (s.part h.part).quads ≠ 0 ∧ h.part ≠ n.part
         let legal : Prop := range ∧ ¬ foreign
         (¬ range → answers .queueCfg s 2 []) ∧ (range → foreign → answers .queueCfg s 3 []) ∧
         (legal → h.en = true → n ≠ h → answers .queueCfg s 1 []) ∧
         (legal → h.en = false ∨ n = h → v % 2 = 0 → h.open_ ≠ [] → answers .queueCfg (s.setQueue i { n with en := false, st := 0, waiting := none }) 0 []) ∧
         (legal → h.en = false ∨ n = h → v % 2 = 0 → h.open_ = [] → answers .queueCfg (s.setQueue i { n with en := false, st := 0, waiting := none, timer := 0 }) 0 []) ∧
         (∀ bs a, legal → h.en = false ∨ n = h → v % 2 = 1 → quiet s n.part → ringGet s n.part (n.ctl 8) 8 1 = .ok bs →
           pageRun s (ringWho n.part) Acc.write (n.ctl 16) 16 a → ∃ r, answers .queueCfg r 0 [] ∧ Stores s r a (List.replicate 16 0) ∧
             r.queue i = { n with en := true, st := 1, err := 0, waiting := none, head := ofBytes bs })) ∧
       (let cs : Prop := i < 4096 ∧ i + v ≤ 4096
        let foreign : Prop := ∃ n, i ≤ n ∧ n < i + v ∧ (s.cnt n).v = true ∧ (s.cnt n).part ≠ p
        (is 15 → (¬ cs → answers .cntAlloc s 2 []) ∧ (cs → foreign → answers .cntAlloc s 3 []) ∧
          (cs → ¬ foreign → ∃ r, answers .cntAlloc r 0 [] ∧ r = { s with ctr := r.ctr } ∧ ∀ n,
            r.cnt n = if i ≤ n ∧ n < i + v ∧ (s.cnt n).v = false then ⟨true, true, false, p, 0, false, 0, 0, 0⟩ else s.cnt n)) ∧
        (is 16 → (¬ cs → answers .cntFree s 2 []) ∧ (cs → foreign → answers .cntFree s 3 []) ∧
          (cs → ¬ foreign → (∃ n, i ≤ n ∧ n < i + v ∧ (s.cnt n).done = false) → answers .cntFree s 1 []) ∧
          (cs → ¬ foreign → (∀ n, i ≤ n → n < i + v → (s.cnt n).done = true) → ∃ r, answers .cntFree r 0 [] ∧ r = { s with ctr := r.ctr } ∧
            ∀ n, r.counter n = if i ≤ n ∧ n < i + v then 0 else s.counter n))) ∧
       (is 17 → let kept := bits v 63 1 * 2 ^ 63 + bits v 52 4 * 2 ^ 52 + bits v 37 3 * 2 ^ 37 + bits v 15 15 * 2 ^ 15
         let legal : Prop := i < 256 ∧ (bits v 63 1 = 1 → 1 ≤ bits v 52 4 ∧ bits v 15 15 * 32768 + (bits v 52 4 + 1) * 32768 ≤ 0x18800000)
         (¬ legal → answers .streamCfg s 2 []) ∧ (legal → answers .streamCfg { s with strm := Tab.set StrmEnt.zero s.strm i ⟨BitVec.ofNat 64 kept, 0, [], [], none⟩ } 0 [])) ∧
       (is 18 → s.gated = [] → let n := leAt (s.readMem v 16) 2 2
         let len := (16 + 2 * n + 63) / 64 * 64
         let bs := s.readMem v len
         let ms := (List.range n).map (fun k => leAt bs (16 + 2 * k) 2)
         let former := ((Tab.get none s.groups i).map (fun e => e.members)).getD []
         let legal : Prop := i < 4096 ∧ v % 64 = 0 ∧ v + 64 ≤ hbm ∧ v + len ≤ hbm ∧ n ≤ 512 ∧ n ≠ 1 ∧ 1 ≤ leAt bs 4 1 ∧ leAt bs 4 1 ≤ 16 ∧ leAt bs 0 2 = x.djob ∧
           leAt bs 5 1 = 0 ∧ leAt bs 8 8 = 0 ∧ leAt bs (16 + 2 * n) (len - 16 - 2 * n) = 0 ∧ ms.Nodup ∧ ∀ m ∈ ms, m ≤ x.dlast
         (¬ legal → answers .groupCfg s 2 []) ∧ (legal → (∃ m ∈ ms ++ former, m ∈ s.absent) → answers .groupCfg s 1 []) ∧
         (legal → (∀ m ∈ ms ++ former, m ∉ s.absent) →
           answers .groupCfg (regrouped s i (if n = 0 then none else some ⟨leAt bs 0 2, ms, leAt bs 4 1, leAt bs 6 2⟩)) 0 [])) ∧
       (is 19 → answers .preempt (if x.pre = 0 then s.setPart p { x with pre := 1 } else s) 0 (bytesOf (Config.ctxSize p).toNat 8)) ∧
       (is 20 → (x.pre = 0 → answers .restore s 0 []) ∧
         (x.pre ≠ 0 → x.halted = true ∨ x.handler = none → ∃ r, answers .restore r 0 [] ∧ r.mem = s.mem ∧ r.part p = { x with pre := 0, stopClk := if x.halted then x.stopClk else [] } ∧ (∀ sid t, s.stream? sid = some t → t.part = p → isSeq sid = false →
           t.live ≠ 0 → t.ended = false → (x.halted = false → r.stream? sid = some { t with stopped := false }) ∧
             (x.halted = true → x.handler ≠ some sid ∨ x.perm = true → r.stream? sid = some t) ∧
             (x.halted = true → x.handler = some sid → x.perm = false → r.stream? sid = some { t with stopped := false })))) ∧
       (is 21 → ∃ r, answers .reset r 0 [] ∧ r.msix = s.msix ++ [8 * p + 2] ∧ (∀ sid t, r.stream? sid = some t → t.part ≠ p) ∧
         (∀ sid, sid ∉ streamsOf s p → r.stream? sid = s.stream? sid) ∧ (r.part p).halted = false ∧ (r.part p).pre = 0 ∧ (r.part p).mboxst = 0 ∧
         ∀ q, (s.queue q).part = p → q < 128 → (s.queue q).en = true → (r.queue q).st = 0 ∧ (r.queue q).en = false) ∧
       (is 22 → (x.mboxst.getLsbD 1 = false → answers .mboxAnswer s 1 []) ∧ (x.mboxst.getLsbD 1 = true → ∃ m : Word,
         (∀ n < 32, m.getLsbD n = if n = 0 then true else if n = 1 then false else x.mboxst.getLsbD n) ∧
         answers .mboxAnswer (s.setPart p { x with mboxi := a64, mboxst := m }) 0 [])) ∧
       (is 23 → (homesUp s v 64 = false → exec .nvmeSubmit s = .next s) ∧ (homesUp s v 64 = true → 1 < i ∨ hbm < v + 64 → answers .nvmeSubmit s 2 []) ∧
        (homesUp s v 64 = true → i ≤ 1 → v + 64 ≤ hbm →
         ((∀ q < 8, (s.part q).nvmeports.testBit i = false) → answers .nvmeSubmit s 1 []) ∧
         (∀ q < 8, (s.part q).nvmeports.testBit i = true → (∀ q' < q, (s.part q').nvmeports.testBit i = false) →
           exec .nvmeSubmit s = .next { s with nvme := [⟨i, s.mrhead % 256, q, s.readMem v 64⟩] }))) ∧
       (is 24 → let rep := report s (s.readMem v 32) (ofBytes (scmNow s indexSpa 8))
         let u := cmdArg2 b
         let body := 32 + 68 + 32 * s.images.length + 4 + 192 + 1
         (rep.length = body + 4 + 32 * (1 + 67 + 20) ∧ rep.take 32 = s.readMem v 32 ∧
           (∀ k h, s.images[k]? = some h → leAt rep (100 + 32 * k) 32 = h.toNat) ∧ leAt rep (100 + 32 * s.images.length) 4 = s.fuseVer % 2 ^ 32 ∧
           (∀ c < 192, nth 0 rep (104 + 32 * s.images.length + c) = if (s.cluster c).fenced = true then 1 else 0) ∧ nth 0 rep (body - 1) = s.repl) ∧
         (islandUp s 22 = false ∨ s.huok = false ∨ pqSize ≤ s.pq.length → exec .attest s = .next s) ∧
         (s.gated = [] → s.huok = true → s.pq.length < pqSize → (hbm < v + 32 ∨ hbm < w + u ∨ u < rep.length → answers .attest s 2 []) ∧
           (v + 32 ≤ hbm → w + u ≤ hbm → rep.length ≤ u → ∃ r e, answers .attest r 0 (bytesOf rep.length 4) ∧ Stores s r w rep ∧
             r = { s with mem := r.mem, pq := s.pq ++ [e], pseq := s.pseq + 1 } ∧ e.seq = s.pseq + 1 ∧
             e.bytes.map (fun x => x.2) = bytesOf (ofBytes (scmNow s indexSpa 8) + 1) 8 ∧ e.bytes.map (fun x => x.1) = (List.range 8).map (fun n => indexSpa + n)))) ∧
       (is 25 → (s.evst ≠ .req → s.evst ≠ .drain → answers .evictDone s 1 []) ∧ (s.evst = .req ∨ s.evst = .drain → ∃ done, (∀ q, q ∈ done ↔ q = p ∨ q ∈ s.evDone) ∧
         answers .evictDone { s with evst := .drain, evDone := done } 0 [])) ∧
       (∀ on : Bool, is (if on then 26 else 27) → let j : Instr := if on then .frameExtSet else .frameExtClear
         (v % 65536 ≠ 0 ∨ scmLimit < v + 65536 * w → answers j s 2 []) ∧
         (v % 65536 = 0 → v + 65536 * w ≤ scmLimit → ∃ r, answers j r 0 [] ∧ r = { s with ext := r.ext } ∧
           ∀ f, Tab.get false r.ext f = if v / 65536 ≤ f ∧ f < v / 65536 + w then on else Tab.get false s.ext f)))) ∧
    (∀ g e rest, s.agenda = .group g e :: rest → let s1 : State := { s with agenda := rest, clock := s.clock + 1, fresh := s.fresh + 1, wire := [] }
      let ms := (e.map (fun y => y.members)).getD []
      let legal : Prop := g < 4096 ∧ s.up = true ∧ ms.Nodup ∧ ∀ m ∈ ms ++ ((Tab.get none s.groups g).map (fun y => y.members)).getD [], m ∉ s.absent
      (legal → step s = .next (regrouped s1 g e)) ∧ (¬ legal → step s = .next s1))

/-- The islands in the order of power-up: the Wellhead, the hub islands, SCM, the fabric and cistern islands, the quadrants (R435). -/
def upOrder : List Nat := [23, 20, 21, 22, 16, 17, 18, 19] ++ List.range 16

/-- An island comes up: its cores' counters start again, its clusters are as reset leaves them but for a fence, and SCM's HUOK is 0 (R422, R466). -/
def Wakes (s s' : State) (n : Nat) : Prop :=
  s' = { s with gated := s.gated.filter (fun m => m ≠ n), since := Tab.set 0 s.since n s.clock, huok := s.huok && n ≠ 22,
                lowClk := if n = 22 then s.clock else s.lowClk, clusters := s'.clusters } ∧
  ∀ c, s'.cluster c = if quadOf c = n then { Cluster.zero with fenced := (s.cluster c).fenced } else s.cluster c

/-- R12, R198, R349, R361, R416, R425, R426, R430, R433 to R436, R439 to R442, Table 19.4: what comes from outside the package. The host writes slots and MRTAIL,
reads BAR0, reads and writes HBM through BAR2 and works on it atomically; an NVMe completion writes the frames granted to its partition and answers its slot; boot
takes its five steps, checks, fences and comes up; the Wellhead gates an island and restores it; an eviction request passes through its states, and a ready package
keeps its SCM alone. Where the cause is absent nothing happens. Which island is gated, and when, and what a restored island holds beside its clusters are the
model's choices (log 5), as are bytes of a dark package outside SCM that read 0 (logs 2 and 5), an AtomicOp that is not aligned, the moment of REPL_CLEAR, the grants
and the stages of boot and eviction as single moves (log 61). -/
def Obligations.HostAndPowerEventsTakeEffect : Prop :=
  ∀ (s : State),
    let hbm : Nat := 0xC000000000
    let window (a : Nat) : Prop := 0x10000 ≤ a ∧ a < 0x14000
    let dark (s' : State) : Prop := s'.streams = [] ∧ s'.launches = [] ∧ s'.pq = [] ∧ s'.ext = s.ext ∧ ∀ a, s'.byteAt a = if inScm a then s.byteAt a else 0
    let told : List Nat := ((List.range 8).filter (fun p => (s.part p).quads ≠ 0)).map (fun p => 8 * p + 6)
    let begun (rest : List Move) : State := { s with agenda := rest, clock := s.clock + 1, fresh := s.fresh + 1, wire := [] }
    (s.up = true ↔ s.booted = true ∧ s.power = true ∧ 21 ∉ s.gated ∧ 23 ∉ s.gated) ∧ (s.unlatchOk = true ↔ s.evst = .ready) ∧
    (∀ slots tail, (s.up = false → exec (.mrtailWrite slots tail) s = .next s) ∧ (s.up = true → (slots.map (fun e => e.1)).Nodup → ∃ s', exec (.mrtailWrite slots tail) s = .next s' ∧
      s' = { s with bar0 := s'.bar0, mrtail := if s.mrhead ≤ tail ∧ tail ≤ s.mrhead + 256 then tail else s.mrtail } ∧
      (∀ e ∈ slots, window e.1 → Tab.get 0 s'.bar0 e.1 = e.2) ∧ ∀ a, (∀ e ∈ slots, e.1 ≠ a) ∨ ¬ window a → Tab.get 0 s'.bar0 a = Tab.get 0 s.bar0 a)) ∧
    (∀ off n rest, s.agenda = .bar0Read off n :: rest → (islandUp s 21 = false → step s = .next (begun rest)) ∧ (islandUp s 21 = true → ∃ bs : List Byte,
      step s = .next { begun rest with hostrd := s.hostrd ++ [bs] } ∧ bs.length = n ∧ ∀ i < n,
        let reg (at_ x : Nat) : Prop := at_ ≤ off + i → off + i < at_ + 8 → nth 0 bs i = BitVec.ofNat 8 (x / 256 ^ (off + i - at_))
        reg 0 s.mrtail ∧ reg 8 s.mrhead ∧ reg 0x1000 s.hbeat ∧ reg 0x1008 s.bstat ∧ (window (off + i) → nth 0 bs i = Tab.get 0 s.bar0 (off + i)))) ∧
    (∀ rest, s.agenda = .configRead :: rest → islandUp s 21 = true → step s = .next { begun rest with cfgAns := s.cfgAns ++ [!s.booted] }) ∧
    (∀ p f on rest, s.agenda = .grant p f on :: rest → s.up = true → 65536 * (f + 1) ≤ hbm → ∃ g, step s = .next { begun rest with grants := g } ∧
      ∀ e, e ∈ g ↔ if e = (p, f) then on = true else e ∈ s.grants) ∧
    (∀ f rest, s.agenda = .retire f :: rest → s.up = true → 65536 * (f + 1) ≤ hbm → (∃ g ∈ s.ue, g / 256 = f) → ∃ s', step s = .next s' ∧
      s' = { begun rest with nret := s.nret + 1, repl := s.repl ||| 5, msix := s.msix ++ [65], fru := s'.fru }) ∧
    (∀ port entry dma, (s.up = false ∨ s.nvme = [] → exec (.nvmeCompletion port entry dma) s = .next s) ∧
      (∀ n rest, s.up = true → s.nvme = n :: rest → (n.port ≠ port → exec (.nvmeCompletion port entry dma) s = .next s) ∧
        (n.port = port → s.gated = [] → (dma.map (fun e => e.1)).Nodup → entry.length = 16 →
          let mine (a : Nat) : Prop := a < hbm ∧ (n.part, a / 65536) ∈ s.grants
          ∃ s' r res, exec (.nvmeCompletion port entry dma) s = .next s' ∧ Answered r s' 0 res ∧
            r = { s with nvme := rest, mem := r.mem, ur := r.ur } ∧ (∀ e ∈ dma, mine e.1 → r.byteAt e.1 = e.2) ∧
            (∀ a, (∀ e ∈ dma, e.1 ≠ a) ∨ ¬ mine a → r.byteAt a = s.byteAt a) ∧
            ((∀ e ∈ dma, mine e.1) → res = entry ∧ r.ur = s.ur) ∧
            ((∃ e ∈ dma, ¬ mine e.1) → res.length = 16 ∧ res.take 14 = entry.take 14 ∧ 2 ≤ leAt res 14 2 ∧ s.ur < r.ur)))) ∧
    (∀ off bs, let reach : Prop := s.up = true ∧ homesUp s off (min bs.length (hbm - off)) = true
      (¬ reach → exec (.hostBar2Write off bs) s = .next s) ∧ (reach → ∃ s', exec (.hostBar2Write off bs) s = .next s' ∧ s' = { s with mem := s'.mem } ∧
      (∀ i < bs.length, off + i < hbm → s'.byteAt (off + i) = nth 0 bs i) ∧ ∀ a, a < off ∨ off + bs.length ≤ a ∨ hbm ≤ a → s'.byteAt a = s.byteAt a)) ∧
    (∀ off n, let reach : Prop := s.up = true ∧ homesUp s off (min n (hbm - off)) = true
      (¬ reach → exec (.hostBar2Read off n) s = .next s) ∧ (reach → ∃ bs, exec (.hostBar2Read off n) s = .next { s with hostrd := s.hostrd ++ [bs] } ∧
      bs.length = n ∧ ∀ i < n, (hbm ≤ off + i → nth 0 bs i = 0xFF) ∧ (off + i < hbm → ueAt s (off + i) 1 = false → nth 0 bs i = s.byteAt (off + i)))) ∧
    (∀ off op wide x y, let n : Nat := if wide then 8 else 4
      let i : Instr := .hostBar2Atomicop off op wide x y
      (s.up = false ∨ off % n ≠ 0 → exec i s = .next s) ∧ (s.up = true → homesUp s off n = true → off % n = 0 → off + n ≤ hbm → s.ue = [] →
        x < 2 ^ (8 * n) → y < 2 ^ (8 * n) →
        let old := ofBytes (s.readMem off n)
        let new := match op with
          | .fetchAdd => (old + x) % 2 ^ (8 * n)
          | .swap => x
          | .cas => if old = x then y else old
        ∃ s', exec i s = .next s' ∧ s' = { s with mem := s'.mem, hostrd := s.hostrd ++ [s.readMem off n] } ∧ Stores s s' off (bytesOf new n))) ∧
    (∀ (ok : Bool) (bad : List Nat), let i : Instr := .boot ok bad
      (s.power = false → ∃ s', exec i s = .next s' ∧ s'.power = true ∧ s'.clock = 0 ∧ dark s' ∧ s'.bstat = 1 ∧ s'.booted = false ∧ s'.gated = List.range 23) ∧
      (s.power = true → s.booted = true ∨ 5 < s.bstat → exec i s = .next s) ∧
      (s.power = true → s.booted = false → s.bstat = 1 ∨ s.bstat = 2 →
        let good (y : Image) : Prop := ok = true ∧ y.sigOk = true ∧ y.key = s.fuseKey ∧ s.fuseVer ≤ y.version
        (∀ y, s.flash[s.bstat - 1]? = some y → good y → exec i s = .next { s with bstat := s.bstat + 1, images := s.images ++ [y.hash] }) ∧
        ((∀ y, s.flash[s.bstat - 1]? = some y → ¬ good y) → exec i s = .next { s with bstat := 0x80 + s.bstat })) ∧
      (s.power = true → s.booted = false → 3 ≤ s.bstat → s.bstat ≤ 5 → ok = false → exec i s = .next { s with bstat := 0x80 + s.bstat }) ∧
      (s.power = true → s.booted = false → s.bstat = 3 → ok = true →
        (∀ (k n : Nat), upOrder[k]? = some n → n ∈ s.gated → (∀ (j m : Nat), j < k → upOrder[j]? = some m → m ∉ s.gated) → ∃ s', exec i s = .next s' ∧ Wakes s s' n) ∧
        ((∀ n ∈ upOrder, n ∉ s.gated) → exec i s = .next { s with bstat := 4 })) ∧
      (s.power = true → s.booted = false → s.bstat = 4 → ok = true → ∃ s', exec i s = .next s' ∧
        s' = { s with clusters := s'.clusters, repl := s'.repl, msix := s'.msix, fru := s'.fru, bstat := 5 } ∧
        (∀ c, s'.cluster c = if c ∈ bad ∧ c < 192 then { s.cluster c with fenced := true } else s.cluster c) ∧
        s'.repl = if (∃ c ∈ bad, c < 192 ∧ (s.cluster c).fenced = false) then s.repl ||| 11 else s.repl) ∧
      (s.power = true → s.booted = false → s.bstat = 5 → ok = true → ∃ s', exec i s = .next s' ∧ s' = { s with parts := s'.parts, booted := true } ∧
        ∀ p < 8, s'.part p = { s.part p with snap := bootSnap s p })) ∧
    exec .hbeat s = .next (if s.up then { s with hbeat := s.hbeat + 1 } else s) ∧
    (∀ n on rest, s.agenda = .island n on :: rest → let s1 := begun rest
      let open_ : Prop := n < 24 ∧ s.power = true ∧ s.booted = true ∧ (n ∈ s.gated ↔ on = true)
      let free : Prop := n < 16 → ∀ p < 8, (s.part p).quads.getLsbD n = false
      (¬ open_ ∨ (on = false ∧ ¬ free) → step s = .next s1) ∧
      (open_ → on = false → free → step s = .next (if s.pq = [] then { s1 with gated := n :: s.gated } else { s1 with pdBusy := s.pdBusy + 1 })) ∧
      (open_ → on = true → ∃ s', step s = .next s' ∧ Wakes s1 s' n)) ∧
    (s.evst = .run → s.power = true → 23 ∉ s.gated →
      exec .evictRequest s = .next { s with evst := .req, evStart := s.clock, evDone := [], msix := s.msix ++ told } ∧
      exec (.ejectN true) s = .next { s with ejectN := true, evst := .req, evStart := s.clock, evDone := [], msix := s.msix ++ told }) ∧
    (s.evst ≠ .run ∨ s.power = false ∨ 23 ∈ s.gated → exec .evictRequest s = .next s ∧ exec (.ejectN true) s = .next { s with ejectN := true }) ∧
    (s.evst = .req ∨ s.evst = .drain → exec .evictWithdraw s = .next { s with evst := .run, evDone := [], routes := true } ∧
      exec (.ejectN false) s = .next { s with ejectN := false, evst := .run, evDone := [], routes := true }) ∧
    (s.evst ≠ .req → s.evst ≠ .drain → exec .evictWithdraw s = .next s ∧ exec (.ejectN false) s = .next { s with ejectN := false } ∧ exec .evictTimeout s = .next s) ∧
    (s.clock < s.evStart + 30 * 800000000 → exec .evictTimeout s = .next s) ∧
    (s.evst = .req ∨ s.evst = .drain → s.evStart + 30 * 800000000 ≤ s.clock → ∃ s', exec .evictTimeout s = .next s' ∧
      s' = { s with evst := .failed, repl := s.repl ||| 17, msix := s.msix ++ [65], fru := s'.fru }) ∧
    (let reported : Prop := s.evst = .drain ∧ ∀ p < 8, (s.part p).quads ≠ 0 → p ∈ s.evDone
     let quietNow : Prop := s.pq = [] ∧ s.pwait = [] ∧ s.fout = [] ∧ s.fin = []
     (¬ reported ∨ (s.routes = false ∧ ¬ quietNow) → exec .evictReady s = .next s) ∧
     (reported → s.routes = true → exec .evictReady s = .next { s with routes := false }) ∧
     (∀ (k n : Nat), reported → s.routes = false → quietNow → 1 ≤ k → upOrder[k]? = some n → n ∉ s.gated → (∀ (j m : Nat), k < j → upOrder[j]? = some m → m ∈ s.gated) →
       exec .evictReady s = .next { s with gated := n :: s.gated }) ∧
     (reported → s.routes = false → quietNow → (∀ n ∈ upOrder, n ≠ 23 → n ∈ s.gated) → ∃ s', exec .evictReady s = .next s' ∧
       s'.evst = .ready ∧ s'.power = false ∧ s'.routes = false ∧ s'.gated = List.range 23 ∧ dark s')) ∧
    (∃ k : Nat, k < 2 ∧ exec .fruRead s = .next { s with fruLog := s.fruLog ++ [Tab.getList 0 s.fru (128 * k) 80] } ∧
      (∀ j, j < 2 → fruValid (fruCopy s j) = true → fruValid (fruCopy s k) = true) ∧
      ∃ s', exec .replClear s = .next s' ∧ s' = { s with repl := 0, fru := s'.fru } ∧ fruCopy s' k = fruCopy s k ∧ let bs := fruCopy s' (1 - k)
        fruValid bs = true ∧ leAt bs 0 1 = 1 ∧ leAt bs 1 1 = 2 ∧ leAt bs 2 2 = (leAt (fruCopy s k) 2 2 + 1) % 65536 ∧ leAt bs 72 1 = 0 ∧
        leAt bs 74 2 = s.nret % 65536 ∧ ∀ i, 4 ≤ i → i < 72 → nth 0 bs i = nth 0 (fruCopy s k) i)

-- Invariants and reset

/-- The list of memory cells keeps its canonical form: addresses rising, and no cell that holds what an unlisted address reads as. Every step keeps it, in
every state. -/
def Obligations.EveryStepKeepsMemoryCanonical : Prop :=
  ∀ (s s' : State), s.memWf = true → step s = .next s' → s'.memWf = true

/-- R356, R375, R378, R422, R430, R436, R441, R466, Tables 9.9, 17.2 and 18.8a: the machine after reset. The package is up and its kernel serves; no stream, team,
launch, request or packet exists; no partition is configured or halted; no island is gated; MTO is 24 and WDCFG 28; counters, queues, rings and the clock stand at their start. That every
other register reads 0, that memory lists nothing and that the power is good are the model's choices (logs 1, 2 and 5). -/
def Obligations.ResetLeavesTheMachineIdle : Prop :=
  let s := State.reset
  s.memWf = true ∧ s.mem = [] ∧ s.streams = [] ∧ s.teams = [] ∧ s.launches = [] ∧ s.ott = [] ∧ s.reqs = [] ∧ s.eops = [] ∧ s.pq = [] ∧ s.pwait = [] ∧ s.fin = [] ∧
  s.fout = [] ∧ s.rx = [] ∧ s.agenda = [] ∧ s.power = true ∧ s.gated = [] ∧ s.since = [] ∧ s.bstat = 5 ∧ s.evst = .run ∧ s.mrhead = 0 ∧ s.mrtail = 0 ∧ s.clock = 0 ∧ s.huok = false ∧
  (∀ p, (s.part p).halted = false ∧ (s.part p).quads = 0 ∧ (s.part p).seq = 0 ∧ (s.part p).events = [] ∧ (s.part p).pre = 0 ∧ (s.part p).mboxst = 0 ∧
    (s.part p).mto = 24 ∧ (s.part p).wdcfg = 28 ∧ (s.part p).pstepmax = 0) ∧
  (∀ q, (s.queue q).en = false ∧ (s.queue q).st = 0) ∧ (∀ c, (s.cnt c).v = false) ∧ ∀ c, (s.cluster c).fenced = false
end

