-- ==== Sys2Proof/Laws/Tab.lean ====
section
/-! SUPPORT. What reading and writing a sparse table come to, and that every table operation keeps the canonical form. -/
namespace Sys2Proof.Tab

variable {α : Type}

theorem get_erase_same (d : α) (t : Tab α) (n : Nat) : get d (erase t n) n = d := by
  induction t with
  | nil => rfl
  | cons e t ih =>
    obtain ⟨k, v⟩ := e
    by_cases h : n = k
    · simp [erase, h] at ih ⊢; rw [← h]; rw [← h] at ih; exact ih
    · simp [erase, get, h, ih]

theorem get_erase_other (d : α) (t : Tab α) {n m : Nat} (h : m ≠ n) : get d (erase t n) m = get d t m := by
  induction t with
  | nil => rfl
  | cons e t ih =>
    obtain ⟨k, v⟩ := e
    by_cases hk : n = k
    · subst hk; simp [erase, get, h, ih]
    · by_cases hm : m = k
      · subst hm; simp [erase, get, hk]
      · simp [erase, get, hk, hm, ih]

theorem get_insert_same (d : α) (t : Tab α) (n : Nat) (x : α) (h : ∀ e ∈ t, e.1 ≠ n) : get d (insert t n x) n = x := by
  induction t with
  | nil => simp [insert, get]
  | cons e t ih =>
    obtain ⟨k, v⟩ := e
    have hk : n ≠ k := fun hh => h (k, v) (by simp) hh.symm
    by_cases hlt : n < k
    · simp [insert, hlt, get]
    · simp [insert, hlt, get, hk]; exact ih (fun e he => h e (by simp [he]))

theorem get_insert_other (d : α) (t : Tab α) {n m : Nat} (x : α) (h : m ≠ n) : get d (insert t n x) m = get d t m := by
  induction t with
  | nil => simp [insert, get, h]
  | cons e t ih =>
    obtain ⟨k, v⟩ := e
    by_cases hlt : n < k
    · simp [insert, hlt, get, h]
    · by_cases hm : m = k
      · simp [insert, hlt, get, hm]
      · simp [insert, hlt, get, hm, ih]

theorem erase_ne (t : Tab α) (n : Nat) : ∀ e ∈ erase t n, e.1 ≠ n := by
  induction t with
  | nil => simp [erase]
  | cons e t ih =>
    obtain ⟨k, v⟩ := e
    by_cases h : n = k
    · simp only [erase, h, if_true]; rw [h] at ih; exact ih
    · simp only [erase, h, if_false, List.mem_cons]
      rintro e (rfl | he)
      · exact fun hh => h hh.symm
      · exact ih e he

theorem erase_of_ne {t : Tab α} {n : Nat} (h : ∀ e ∈ t, e.1 ≠ n) : erase t n = t := by
  induction t with
  | nil => rfl
  | cons e t ih =>
    obtain ⟨k, v⟩ := e
    have hk : n ≠ k := fun hh => h (k, v) List.mem_cons_self hh.symm
    simp only [erase, hk, if_false]
    rw [ih (fun e he => h e (List.mem_cons_of_mem _ he))]

theorem erase_insert {t : Tab α} {n : Nat} (x : α) (h : ∀ e ∈ t, e.1 ≠ n) : erase (insert t n x) n = t := by
  induction t with
  | nil => simp [insert, erase]
  | cons e t ih =>
    obtain ⟨k, v⟩ := e
    have hk : n ≠ k := fun hh => h (k, v) List.mem_cons_self hh.symm
    have ht : ∀ e ∈ t, e.1 ≠ n := fun e he => h e (List.mem_cons_of_mem _ he)
    simp only [insert]
    split
    · simp only [erase, if_true, hk, if_false]; rw [erase_of_ne ht]
    · simp only [erase, hk, if_false]; rw [ih ht]

section
variable [DecidableEq α]

/-- The second of two writes to one key stands alone. -/
@[simp] theorem set_set (d : α) (t : Tab α) (n : Nat) (x y : α) : set d (set d t n x) n y = set d t n y := by
  have h : erase (set d t n x) n = erase t n := by
    unfold set
    split
    · exact erase_of_ne (erase_ne t n)
    · exact erase_insert x (erase_ne t n)
  unfold set at h ⊢
  rw [h]

@[simp] theorem get_set_same (d : α) (t : Tab α) (n : Nat) (x : α) : get d (set d t n x) n = x := by
  unfold set
  split
  · rename_i h; rw [h, get_erase_same]
  · exact get_insert_same d _ n x (erase_ne t n)

theorem get_set_other (d : α) (t : Tab α) {n m : Nat} (x : α) (h : m ≠ n) : get d (set d t n x) m = get d t m := by
  unfold set
  split
  · exact get_erase_other d t h
  · rw [get_insert_other d _ x h, get_erase_other d t h]

theorem get_set (d : α) (t : Tab α) (n m : Nat) (x : α) : get d (set d t n x) m = if m = n then x else get d t m := by
  by_cases h : m = n
  · subst h; simp
  · simp [h, get_set_other d t x h]

/-- The canonical form, by its entries. -/
theorem wf_cons (d : α) (k : Nat) (v : α) (t : Tab α) : wf d ((k, v) :: t) = true ↔ v ≠ d ∧ above k t = true ∧ wf d t = true := by
  simp [wf, and_assoc]

theorem above_erase {d : α} {k : Nat} {t : Tab α} (n : Nat) (h : above k t = true) (hw : wf d t = true) : above k (erase t n) = true := by
  induction t generalizing k with
  | nil => simp [erase, above]
  | cons e t ih =>
    obtain ⟨j, v⟩ := e
    rw [wf_cons] at hw
    simp only [above, decide_eq_true_eq] at h
    by_cases hn : n = j
    · simp only [erase, hn, if_true]
      rw [← hn]
      refine ih ?_ hw.2.2
      have := hw.2.1
      cases t with
      | nil => simp [above]
      | cons f t => obtain ⟨i, w⟩ := f; simp [above] at this ⊢; omega
    · simp [erase, hn, above, h]

theorem wf_erase {d : α} {t : Tab α} (n : Nat) (h : wf d t = true) : wf d (erase t n) = true := by
  induction t with
  | nil => simp [erase, wf]
  | cons e t ih =>
    obtain ⟨k, v⟩ := e
    rw [wf_cons] at h
    by_cases hn : n = k
    · simp only [erase, hn, if_true]; rw [← hn]; exact ih h.2.2
    · simp only [erase, hn, if_false]
      rw [wf_cons]
      exact ⟨h.1, above_erase n h.2.1 h.2.2, ih h.2.2⟩

theorem wf_insert {d : α} {t : Tab α} (n : Nat) {x : α} (hx : x ≠ d) (h : wf d t = true) (hn : ∀ e ∈ t, e.1 ≠ n) :
    wf d (insert t n x) = true := by
  induction t with
  | nil => simp [insert, wf, above, hx]
  | cons e t ih =>
    obtain ⟨k, v⟩ := e
    have hk : k ≠ n := hn (k, v) (by simp)
    have h' := (wf_cons d k v t).1 h
    by_cases hlt : n < k
    · simp only [insert, hlt, if_true]
      rw [wf_cons]
      exact ⟨hx, by simp [above, hlt], h⟩
    · simp only [insert, hlt, if_false]
      rw [wf_cons]
      refine ⟨h'.1, ?_, ih h'.2.2 (fun e he => hn e (by simp [he]))⟩
      cases t with
      | nil => simp [insert, above]; omega
      | cons f t =>
        obtain ⟨j, w⟩ := f
        have := h'.2.1
        by_cases hj : n < j
        · simp [insert, hj, above]; omega
        · simp [insert, hj, above] at this ⊢; exact this

/-- A write keeps the canonical form. -/
theorem wf_set {d : α} {t : Tab α} (n : Nat) (x : α) (h : wf d t = true) : wf d (set d t n x) = true := by
  unfold set
  split
  · exact wf_erase n h
  · rename_i hx; exact wf_insert n hx (wf_erase n h) (erase_ne t n)

/-- A run of writes keeps the canonical form. -/
theorem wf_setList {d : α} {t : Tab α} (n : Nat) (xs : List α) (h : wf d t = true) : wf d (setList d t n xs) = true := by
  induction xs generalizing t n with
  | nil => exact h
  | cons x xs ih => exact ih (n + 1) (wf_set n x h)

theorem above_keep {d : α} {k : Nat} {t : Tab α} (p : Nat → Bool) (h : above k t = true) (hw : wf d t = true) : above k (keep p t) = true := by
  induction t generalizing k with
  | nil => simp [keep, above]
  | cons e t ih =>
    obtain ⟨j, v⟩ := e
    rw [wf_cons] at hw
    simp only [above, decide_eq_true_eq] at h
    by_cases hp : p j = true
    · simp [keep, hp, above, h]
    · simp only [keep, hp]
      refine ih ?_ hw.2.2
      have := hw.2.1
      cases t with
      | nil => simp [above]
      | cons f t => obtain ⟨i, w⟩ := f; simp [above] at this ⊢; omega

/-- Dropping entries keeps the canonical form. -/
theorem wf_keep {d : α} {t : Tab α} (p : Nat → Bool) (h : wf d t = true) : wf d (keep p t) = true := by
  induction t with
  | nil => simp [keep, wf]
  | cons e t ih =>
    obtain ⟨k, v⟩ := e
    rw [wf_cons] at h
    by_cases hp : p k = true
    · simp only [keep, hp, if_true]
      rw [wf_cons]
      exact ⟨h.1, above_keep p h.2.1 h.2.2, ih h.2.2⟩
    · simp only [keep, hp]; exact ih h.2.2

theorem get_setList (d : α) (t : Tab α) (n m : Nat) (xs : List α) :
    get d (setList d t n xs) m = if n ≤ m ∧ m < n + xs.length then nth d xs (m - n) else get d t m := by
  induction xs generalizing t n with
  | nil =>
    have h : ¬(n ≤ m ∧ m < n + ([] : List α).length) := by simp
    rw [if_neg h]; rfl
  | cons x xs ih =>
    rw [setList, ih, List.length_cons]
    by_cases hm : m = n
    · subst hm
      rw [if_neg (by omega), if_pos (by omega), get_set_same, Nat.sub_self]; rfl
    · by_cases hin : n + 1 ≤ m ∧ m < n + 1 + xs.length
      · rw [if_pos hin, if_pos (by omega)]
        obtain ⟨i, rfl⟩ : ∃ i, m = n + 1 + i := ⟨m - (n + 1), by omega⟩
        rw [show n + 1 + i - (n + 1) = i by omega, show n + 1 + i - n = i + 1 by omega]; rfl
      · rw [if_neg hin, if_neg (by omega), get_set_other d t x hm]

/-- A run of writes leaves every other key alone. -/
theorem get_setList_other (d : α) (t : Tab α) (n m : Nat) (xs : List α) (h : m < n ∨ n + xs.length ≤ m) :
    get d (setList d t n xs) m = get d t m := by
  rw [get_setList, if_neg (by omega)]

end

theorem getList_length (d : α) (t : Tab α) (n c : Nat) : (getList d t n c).length = c := by
  induction c generalizing n with
  | zero => rfl
  | succ c ih => simp [getList, ih]

end Sys2Proof.Tab
end

