-- ==== Sys2Proof/Laws/State.lean ====
section
/-! SUPPORT. What each update of the state and of a stream leaves in each field: one lemma per field per update, and the reading of
what an update wrote. -/
namespace Sys2Proof.Machine

namespace State
variable (s : State)

@[simp] theorem setStream_clock (i : Nat) (t : Stream) : (s.setStream i t).clock = s.clock := rfl
@[simp] theorem setStream_fresh (i : Nat) (t : Stream) : (s.setStream i t).fresh = s.fresh := rfl
@[simp] theorem setStream_agenda (i : Nat) (t : Stream) : (s.setStream i t).agenda = s.agenda := rfl
@[simp] theorem setStream_cur (i : Nat) (t : Stream) : (s.setStream i t).cur = s.cur := rfl
@[simp] theorem setStream_mem (i : Nat) (t : Stream) : (s.setStream i t).mem = s.mem := rfl
@[simp] theorem setStream_ue (i : Nat) (t : Stream) : (s.setStream i t).ue = s.ue := rfl
@[simp] theorem setStream_acc (i : Nat) (t : Stream) : (s.setStream i t).acc = s.acc := rfl
@[simp] theorem setStream_ext (i : Nat) (t : Stream) : (s.setStream i t).ext = s.ext := rfl
@[simp] theorem setStream_teams (i : Nat) (t : Stream) : (s.setStream i t).teams = s.teams := rfl
@[simp] theorem setStream_launches (i : Nat) (t : Stream) : (s.setStream i t).launches = s.launches := rfl
@[simp] theorem setStream_nlaunch (i : Nat) (t : Stream) : (s.setStream i t).nlaunch = s.nlaunch := rfl
@[simp] theorem setStream_nteam (i : Nat) (t : Stream) : (s.setStream i t).nteam = s.nteam := rfl
@[simp] theorem setStream_clusters (i : Nat) (t : Stream) : (s.setStream i t).clusters = s.clusters := rfl
@[simp] theorem setStream_strm (i : Nat) (t : Stream) : (s.setStream i t).strm = s.strm := rfl
@[simp] theorem setStream_ott (i : Nat) (t : Stream) : (s.setStream i t).ott = s.ott := rfl
@[simp] theorem setStream_ottGen (i : Nat) (t : Stream) : (s.setStream i t).ottGen = s.ottGen := rfl
@[simp] theorem setStream_reqs (i : Nat) (t : Stream) : (s.setStream i t).reqs = s.reqs := rfl
@[simp] theorem setStream_wire (i : Nat) (t : Stream) : (s.setStream i t).wire = s.wire := rfl
@[simp] theorem setStream_relw (i : Nat) (t : Stream) : (s.setStream i t).relw = s.relw := rfl
@[simp] theorem setStream_wlog (i : Nat) (t : Stream) : (s.setStream i t).wlog = s.wlog := rfl
@[simp] theorem setStream_past (i : Nat) (t : Stream) : (s.setStream i t).past = s.past := rfl
@[simp] theorem setStream_drains (i : Nat) (t : Stream) : (s.setStream i t).drains = s.drains := rfl
@[simp] theorem setStream_eops (i : Nat) (t : Stream) : (s.setStream i t).eops = s.eops := rfl
@[simp] theorem setStream_neop (i : Nat) (t : Stream) : (s.setStream i t).neop = s.neop := rfl
@[simp] theorem setStream_parts (i : Nat) (t : Stream) : (s.setStream i t).parts = s.parts := rfl
@[simp] theorem setStream_ctr (i : Nat) (t : Stream) : (s.setStream i t).ctr = s.ctr := rfl
@[simp] theorem setStream_queues (i : Nat) (t : Stream) : (s.setStream i t).queues = s.queues := rfl
@[simp] theorem setStream_aging (i : Nat) (t : Stream) : (s.setStream i t).aging = s.aging := rfl
@[simp] theorem setStream_raised (i : Nat) (t : Stream) : (s.setStream i t).raised = s.raised := rfl
@[simp] theorem setStream_served (i : Nat) (t : Stream) : (s.setStream i t).served = s.served := rfl
@[simp] theorem setStream_psteps (i : Nat) (t : Stream) : (s.setStream i t).psteps = s.psteps := rfl
@[simp] theorem setStream_pq (i : Nat) (t : Stream) : (s.setStream i t).pq = s.pq := rfl
@[simp] theorem setStream_pwait (i : Nat) (t : Stream) : (s.setStream i t).pwait = s.pwait := rfl
@[simp] theorem setStream_pseq (i : Nat) (t : Stream) : (s.setStream i t).pseq = s.pseq := rfl
@[simp] theorem setStream_huok (i : Nat) (t : Stream) : (s.setStream i t).huok = s.huok := rfl
@[simp] theorem setStream_lowClk (i : Nat) (t : Stream) : (s.setStream i t).lowClk = s.lowClk := rfl
@[simp] theorem setStream_power (i : Nat) (t : Stream) : (s.setStream i t).power = s.power := rfl
@[simp] theorem setStream_gated (i : Nat) (t : Stream) : (s.setStream i t).gated = s.gated := rfl
@[simp] theorem setStream_since (i : Nat) (t : Stream) : (s.setStream i t).since = s.since := rfl
@[simp] theorem setStream_groups (i : Nat) (t : Stream) : (s.setStream i t).groups = s.groups := rfl
@[simp] theorem setStream_gcopy (i : Nat) (t : Stream) : (s.setStream i t).gcopy = s.gcopy := rfl
@[simp] theorem setStream_gseq (i : Nat) (t : Stream) : (s.setStream i t).gseq = s.gseq := rfl
@[simp] theorem setStream_sw (i : Nat) (t : Stream) : (s.setStream i t).sw = s.sw := rfl
@[simp] theorem setStream_swClosed (i : Nat) (t : Stream) : (s.setStream i t).swClosed = s.swClosed := rfl
@[simp] theorem setStream_swLate (i : Nat) (t : Stream) : (s.setStream i t).swLate = s.swLate := rfl
@[simp] theorem setStream_fout (i : Nat) (t : Stream) : (s.setStream i t).fout = s.fout := rfl
@[simp] theorem setStream_fin (i : Nat) (t : Stream) : (s.setStream i t).fin = s.fin := rfl
@[simp] theorem setStream_rx (i : Nat) (t : Stream) : (s.setStream i t).rx = s.rx := rfl
@[simp] theorem setStream_gone (i : Nat) (t : Stream) : (s.setStream i t).gone = s.gone := rfl
@[simp] theorem setStream_wout (i : Nat) (t : Stream) : (s.setStream i t).wout = s.wout := rfl
@[simp] theorem setStream_links (i : Nat) (t : Stream) : (s.setStream i t).links = s.links := rfl
@[simp] theorem setStream_absent (i : Nat) (t : Stream) : (s.setStream i t).absent = s.absent := rfl
@[simp] theorem setStream_routes (i : Nat) (t : Stream) : (s.setStream i t).routes = s.routes := rfl
@[simp] theorem setStream_pktDrop (i : Nat) (t : Stream) : (s.setStream i t).pktDrop = s.pktDrop := rfl
@[simp] theorem setStream_msix (i : Nat) (t : Stream) : (s.setStream i t).msix = s.msix := rfl
@[simp] theorem setStream_bar0 (i : Nat) (t : Stream) : (s.setStream i t).bar0 = s.bar0 := rfl
@[simp] theorem setStream_mrtail (i : Nat) (t : Stream) : (s.setStream i t).mrtail = s.mrtail := rfl
@[simp] theorem setStream_mrhead (i : Nat) (t : Stream) : (s.setStream i t).mrhead = s.mrhead := rfl
@[simp] theorem setStream_hostrd (i : Nat) (t : Stream) : (s.setStream i t).hostrd = s.hostrd := rfl
@[simp] theorem setStream_cfgAns (i : Nat) (t : Stream) : (s.setStream i t).cfgAns = s.cfgAns := rfl
@[simp] theorem setStream_bstat (i : Nat) (t : Stream) : (s.setStream i t).bstat = s.bstat := rfl
@[simp] theorem setStream_booted (i : Nat) (t : Stream) : (s.setStream i t).booted = s.booted := rfl
@[simp] theorem setStream_fuseKey (i : Nat) (t : Stream) : (s.setStream i t).fuseKey = s.fuseKey := rfl
@[simp] theorem setStream_fuseVer (i : Nat) (t : Stream) : (s.setStream i t).fuseVer = s.fuseVer := rfl
@[simp] theorem setStream_flash (i : Nat) (t : Stream) : (s.setStream i t).flash = s.flash := rfl
@[simp] theorem setStream_images (i : Nat) (t : Stream) : (s.setStream i t).images = s.images := rfl
@[simp] theorem setStream_pdBusy (i : Nat) (t : Stream) : (s.setStream i t).pdBusy = s.pdBusy := rfl
@[simp] theorem setStream_hbeat (i : Nat) (t : Stream) : (s.setStream i t).hbeat = s.hbeat := rfl
@[simp] theorem setStream_nvme (i : Nat) (t : Stream) : (s.setStream i t).nvme = s.nvme := rfl
@[simp] theorem setStream_grants (i : Nat) (t : Stream) : (s.setStream i t).grants = s.grants := rfl
@[simp] theorem setStream_ur (i : Nat) (t : Stream) : (s.setStream i t).ur = s.ur := rfl
@[simp] theorem setStream_evst (i : Nat) (t : Stream) : (s.setStream i t).evst = s.evst := rfl
@[simp] theorem setStream_evDone (i : Nat) (t : Stream) : (s.setStream i t).evDone = s.evDone := rfl
@[simp] theorem setStream_evStart (i : Nat) (t : Stream) : (s.setStream i t).evStart = s.evStart := rfl
@[simp] theorem setStream_ejectN (i : Nat) (t : Stream) : (s.setStream i t).ejectN = s.ejectN := rfl
@[simp] theorem setStream_fru (i : Nat) (t : Stream) : (s.setStream i t).fru = s.fru := rfl
@[simp] theorem setStream_fruLog (i : Nat) (t : Stream) : (s.setStream i t).fruLog = s.fruLog := rfl
@[simp] theorem setStream_repl (i : Nat) (t : Stream) : (s.setStream i t).repl = s.repl := rfl
@[simp] theorem setStream_nret (i : Nat) (t : Stream) : (s.setStream i t).nret = s.nret := rfl

@[simp] theorem dropStream_clock (i : Nat) : (s.dropStream i).clock = s.clock := rfl
@[simp] theorem dropStream_fresh (i : Nat) : (s.dropStream i).fresh = s.fresh := rfl
@[simp] theorem dropStream_agenda (i : Nat) : (s.dropStream i).agenda = s.agenda := rfl
@[simp] theorem dropStream_cur (i : Nat) : (s.dropStream i).cur = s.cur := rfl
@[simp] theorem dropStream_mem (i : Nat) : (s.dropStream i).mem = s.mem := rfl
@[simp] theorem dropStream_ue (i : Nat) : (s.dropStream i).ue = s.ue := rfl
@[simp] theorem dropStream_acc (i : Nat) : (s.dropStream i).acc = s.acc := rfl
@[simp] theorem dropStream_ext (i : Nat) : (s.dropStream i).ext = s.ext := rfl
@[simp] theorem dropStream_teams (i : Nat) : (s.dropStream i).teams = s.teams := rfl
@[simp] theorem dropStream_launches (i : Nat) : (s.dropStream i).launches = s.launches := rfl
@[simp] theorem dropStream_nlaunch (i : Nat) : (s.dropStream i).nlaunch = s.nlaunch := rfl
@[simp] theorem dropStream_nteam (i : Nat) : (s.dropStream i).nteam = s.nteam := rfl
@[simp] theorem dropStream_clusters (i : Nat) : (s.dropStream i).clusters = s.clusters := rfl
@[simp] theorem dropStream_strm (i : Nat) : (s.dropStream i).strm = s.strm := rfl
@[simp] theorem dropStream_ott (i : Nat) : (s.dropStream i).ott = s.ott := rfl
@[simp] theorem dropStream_ottGen (i : Nat) : (s.dropStream i).ottGen = s.ottGen := rfl
@[simp] theorem dropStream_reqs (i : Nat) : (s.dropStream i).reqs = s.reqs := rfl
@[simp] theorem dropStream_wire (i : Nat) : (s.dropStream i).wire = s.wire := rfl
@[simp] theorem dropStream_relw (i : Nat) : (s.dropStream i).relw = s.relw := rfl
@[simp] theorem dropStream_wlog (i : Nat) : (s.dropStream i).wlog = s.wlog := rfl
@[simp] theorem dropStream_past (i : Nat) : (s.dropStream i).past = s.past := rfl
@[simp] theorem dropStream_drains (i : Nat) : (s.dropStream i).drains = s.drains := rfl
@[simp] theorem dropStream_eops (i : Nat) : (s.dropStream i).eops = s.eops := rfl
@[simp] theorem dropStream_neop (i : Nat) : (s.dropStream i).neop = s.neop := rfl
@[simp] theorem dropStream_parts (i : Nat) : (s.dropStream i).parts = s.parts := rfl
@[simp] theorem dropStream_ctr (i : Nat) : (s.dropStream i).ctr = s.ctr := rfl
@[simp] theorem dropStream_queues (i : Nat) : (s.dropStream i).queues = s.queues := rfl
@[simp] theorem dropStream_aging (i : Nat) : (s.dropStream i).aging = s.aging := rfl
@[simp] theorem dropStream_raised (i : Nat) : (s.dropStream i).raised = s.raised := rfl
@[simp] theorem dropStream_served (i : Nat) : (s.dropStream i).served = s.served := rfl
@[simp] theorem dropStream_psteps (i : Nat) : (s.dropStream i).psteps = s.psteps := rfl
@[simp] theorem dropStream_pq (i : Nat) : (s.dropStream i).pq = s.pq := rfl
@[simp] theorem dropStream_pwait (i : Nat) : (s.dropStream i).pwait = s.pwait := rfl
@[simp] theorem dropStream_pseq (i : Nat) : (s.dropStream i).pseq = s.pseq := rfl
@[simp] theorem dropStream_huok (i : Nat) : (s.dropStream i).huok = s.huok := rfl
@[simp] theorem dropStream_lowClk (i : Nat) : (s.dropStream i).lowClk = s.lowClk := rfl
@[simp] theorem dropStream_power (i : Nat) : (s.dropStream i).power = s.power := rfl
@[simp] theorem dropStream_gated (i : Nat) : (s.dropStream i).gated = s.gated := rfl
@[simp] theorem dropStream_since (i : Nat) : (s.dropStream i).since = s.since := rfl
@[simp] theorem dropStream_groups (i : Nat) : (s.dropStream i).groups = s.groups := rfl
@[simp] theorem dropStream_gcopy (i : Nat) : (s.dropStream i).gcopy = s.gcopy := rfl
@[simp] theorem dropStream_gseq (i : Nat) : (s.dropStream i).gseq = s.gseq := rfl
@[simp] theorem dropStream_sw (i : Nat) : (s.dropStream i).sw = s.sw := rfl
@[simp] theorem dropStream_swClosed (i : Nat) : (s.dropStream i).swClosed = s.swClosed := rfl
@[simp] theorem dropStream_swLate (i : Nat) : (s.dropStream i).swLate = s.swLate := rfl
@[simp] theorem dropStream_fout (i : Nat) : (s.dropStream i).fout = s.fout := rfl
@[simp] theorem dropStream_fin (i : Nat) : (s.dropStream i).fin = s.fin := rfl
@[simp] theorem dropStream_rx (i : Nat) : (s.dropStream i).rx = s.rx := rfl
@[simp] theorem dropStream_gone (i : Nat) : (s.dropStream i).gone = s.gone := rfl
@[simp] theorem dropStream_wout (i : Nat) : (s.dropStream i).wout = s.wout := rfl
@[simp] theorem dropStream_links (i : Nat) : (s.dropStream i).links = s.links := rfl
@[simp] theorem dropStream_absent (i : Nat) : (s.dropStream i).absent = s.absent := rfl
@[simp] theorem dropStream_routes (i : Nat) : (s.dropStream i).routes = s.routes := rfl
@[simp] theorem dropStream_pktDrop (i : Nat) : (s.dropStream i).pktDrop = s.pktDrop := rfl
@[simp] theorem dropStream_msix (i : Nat) : (s.dropStream i).msix = s.msix := rfl
@[simp] theorem dropStream_bar0 (i : Nat) : (s.dropStream i).bar0 = s.bar0 := rfl
@[simp] theorem dropStream_mrtail (i : Nat) : (s.dropStream i).mrtail = s.mrtail := rfl
@[simp] theorem dropStream_mrhead (i : Nat) : (s.dropStream i).mrhead = s.mrhead := rfl
@[simp] theorem dropStream_hostrd (i : Nat) : (s.dropStream i).hostrd = s.hostrd := rfl
@[simp] theorem dropStream_cfgAns (i : Nat) : (s.dropStream i).cfgAns = s.cfgAns := rfl
@[simp] theorem dropStream_bstat (i : Nat) : (s.dropStream i).bstat = s.bstat := rfl
@[simp] theorem dropStream_booted (i : Nat) : (s.dropStream i).booted = s.booted := rfl
@[simp] theorem dropStream_fuseKey (i : Nat) : (s.dropStream i).fuseKey = s.fuseKey := rfl
@[simp] theorem dropStream_fuseVer (i : Nat) : (s.dropStream i).fuseVer = s.fuseVer := rfl
@[simp] theorem dropStream_flash (i : Nat) : (s.dropStream i).flash = s.flash := rfl
@[simp] theorem dropStream_images (i : Nat) : (s.dropStream i).images = s.images := rfl
@[simp] theorem dropStream_pdBusy (i : Nat) : (s.dropStream i).pdBusy = s.pdBusy := rfl
@[simp] theorem dropStream_hbeat (i : Nat) : (s.dropStream i).hbeat = s.hbeat := rfl
@[simp] theorem dropStream_nvme (i : Nat) : (s.dropStream i).nvme = s.nvme := rfl
@[simp] theorem dropStream_grants (i : Nat) : (s.dropStream i).grants = s.grants := rfl
@[simp] theorem dropStream_ur (i : Nat) : (s.dropStream i).ur = s.ur := rfl
@[simp] theorem dropStream_evst (i : Nat) : (s.dropStream i).evst = s.evst := rfl
@[simp] theorem dropStream_evDone (i : Nat) : (s.dropStream i).evDone = s.evDone := rfl
@[simp] theorem dropStream_evStart (i : Nat) : (s.dropStream i).evStart = s.evStart := rfl
@[simp] theorem dropStream_ejectN (i : Nat) : (s.dropStream i).ejectN = s.ejectN := rfl
@[simp] theorem dropStream_fru (i : Nat) : (s.dropStream i).fru = s.fru := rfl
@[simp] theorem dropStream_fruLog (i : Nat) : (s.dropStream i).fruLog = s.fruLog := rfl
@[simp] theorem dropStream_repl (i : Nat) : (s.dropStream i).repl = s.repl := rfl
@[simp] theorem dropStream_nret (i : Nat) : (s.dropStream i).nret = s.nret := rfl

@[simp] theorem setPart_clock (i : Nat) (x : Part) : (s.setPart i x).clock = s.clock := rfl
@[simp] theorem setPart_fresh (i : Nat) (x : Part) : (s.setPart i x).fresh = s.fresh := rfl
@[simp] theorem setPart_agenda (i : Nat) (x : Part) : (s.setPart i x).agenda = s.agenda := rfl
@[simp] theorem setPart_cur (i : Nat) (x : Part) : (s.setPart i x).cur = s.cur := rfl
@[simp] theorem setPart_mem (i : Nat) (x : Part) : (s.setPart i x).mem = s.mem := rfl
@[simp] theorem setPart_ue (i : Nat) (x : Part) : (s.setPart i x).ue = s.ue := rfl
@[simp] theorem setPart_acc (i : Nat) (x : Part) : (s.setPart i x).acc = s.acc := rfl
@[simp] theorem setPart_ext (i : Nat) (x : Part) : (s.setPart i x).ext = s.ext := rfl
@[simp] theorem setPart_streams (i : Nat) (x : Part) : (s.setPart i x).streams = s.streams := rfl
@[simp] theorem setPart_teams (i : Nat) (x : Part) : (s.setPart i x).teams = s.teams := rfl
@[simp] theorem setPart_launches (i : Nat) (x : Part) : (s.setPart i x).launches = s.launches := rfl
@[simp] theorem setPart_nlaunch (i : Nat) (x : Part) : (s.setPart i x).nlaunch = s.nlaunch := rfl
@[simp] theorem setPart_nteam (i : Nat) (x : Part) : (s.setPart i x).nteam = s.nteam := rfl
@[simp] theorem setPart_clusters (i : Nat) (x : Part) : (s.setPart i x).clusters = s.clusters := rfl
@[simp] theorem setPart_strm (i : Nat) (x : Part) : (s.setPart i x).strm = s.strm := rfl
@[simp] theorem setPart_ott (i : Nat) (x : Part) : (s.setPart i x).ott = s.ott := rfl
@[simp] theorem setPart_ottGen (i : Nat) (x : Part) : (s.setPart i x).ottGen = s.ottGen := rfl
@[simp] theorem setPart_reqs (i : Nat) (x : Part) : (s.setPart i x).reqs = s.reqs := rfl
@[simp] theorem setPart_wire (i : Nat) (x : Part) : (s.setPart i x).wire = s.wire := rfl
@[simp] theorem setPart_relw (i : Nat) (x : Part) : (s.setPart i x).relw = s.relw := rfl
@[simp] theorem setPart_wlog (i : Nat) (x : Part) : (s.setPart i x).wlog = s.wlog := rfl
@[simp] theorem setPart_past (i : Nat) (x : Part) : (s.setPart i x).past = s.past := rfl
@[simp] theorem setPart_drains (i : Nat) (x : Part) : (s.setPart i x).drains = s.drains := rfl
@[simp] theorem setPart_eops (i : Nat) (x : Part) : (s.setPart i x).eops = s.eops := rfl
@[simp] theorem setPart_neop (i : Nat) (x : Part) : (s.setPart i x).neop = s.neop := rfl
@[simp] theorem setPart_ctr (i : Nat) (x : Part) : (s.setPart i x).ctr = s.ctr := rfl
@[simp] theorem setPart_queues (i : Nat) (x : Part) : (s.setPart i x).queues = s.queues := rfl
@[simp] theorem setPart_aging (i : Nat) (x : Part) : (s.setPart i x).aging = s.aging := rfl
@[simp] theorem setPart_raised (i : Nat) (x : Part) : (s.setPart i x).raised = s.raised := rfl
@[simp] theorem setPart_served (i : Nat) (x : Part) : (s.setPart i x).served = s.served := rfl
@[simp] theorem setPart_psteps (i : Nat) (x : Part) : (s.setPart i x).psteps = s.psteps := rfl
@[simp] theorem setPart_pq (i : Nat) (x : Part) : (s.setPart i x).pq = s.pq := rfl
@[simp] theorem setPart_pwait (i : Nat) (x : Part) : (s.setPart i x).pwait = s.pwait := rfl
@[simp] theorem setPart_pseq (i : Nat) (x : Part) : (s.setPart i x).pseq = s.pseq := rfl
@[simp] theorem setPart_huok (i : Nat) (x : Part) : (s.setPart i x).huok = s.huok := rfl
@[simp] theorem setPart_lowClk (i : Nat) (x : Part) : (s.setPart i x).lowClk = s.lowClk := rfl
@[simp] theorem setPart_power (i : Nat) (x : Part) : (s.setPart i x).power = s.power := rfl
@[simp] theorem setPart_gated (i : Nat) (x : Part) : (s.setPart i x).gated = s.gated := rfl
@[simp] theorem setPart_since (i : Nat) (x : Part) : (s.setPart i x).since = s.since := rfl
@[simp] theorem setPart_groups (i : Nat) (x : Part) : (s.setPart i x).groups = s.groups := rfl
@[simp] theorem setPart_gcopy (i : Nat) (x : Part) : (s.setPart i x).gcopy = s.gcopy := rfl
@[simp] theorem setPart_gseq (i : Nat) (x : Part) : (s.setPart i x).gseq = s.gseq := rfl
@[simp] theorem setPart_sw (i : Nat) (x : Part) : (s.setPart i x).sw = s.sw := rfl
@[simp] theorem setPart_swClosed (i : Nat) (x : Part) : (s.setPart i x).swClosed = s.swClosed := rfl
@[simp] theorem setPart_swLate (i : Nat) (x : Part) : (s.setPart i x).swLate = s.swLate := rfl
@[simp] theorem setPart_fout (i : Nat) (x : Part) : (s.setPart i x).fout = s.fout := rfl
@[simp] theorem setPart_fin (i : Nat) (x : Part) : (s.setPart i x).fin = s.fin := rfl
@[simp] theorem setPart_rx (i : Nat) (x : Part) : (s.setPart i x).rx = s.rx := rfl
@[simp] theorem setPart_gone (i : Nat) (x : Part) : (s.setPart i x).gone = s.gone := rfl
@[simp] theorem setPart_wout (i : Nat) (x : Part) : (s.setPart i x).wout = s.wout := rfl
@[simp] theorem setPart_links (i : Nat) (x : Part) : (s.setPart i x).links = s.links := rfl
@[simp] theorem setPart_absent (i : Nat) (x : Part) : (s.setPart i x).absent = s.absent := rfl
@[simp] theorem setPart_routes (i : Nat) (x : Part) : (s.setPart i x).routes = s.routes := rfl
@[simp] theorem setPart_pktDrop (i : Nat) (x : Part) : (s.setPart i x).pktDrop = s.pktDrop := rfl
@[simp] theorem setPart_msix (i : Nat) (x : Part) : (s.setPart i x).msix = s.msix := rfl
@[simp] theorem setPart_bar0 (i : Nat) (x : Part) : (s.setPart i x).bar0 = s.bar0 := rfl
@[simp] theorem setPart_mrtail (i : Nat) (x : Part) : (s.setPart i x).mrtail = s.mrtail := rfl
@[simp] theorem setPart_mrhead (i : Nat) (x : Part) : (s.setPart i x).mrhead = s.mrhead := rfl
@[simp] theorem setPart_hostrd (i : Nat) (x : Part) : (s.setPart i x).hostrd = s.hostrd := rfl
@[simp] theorem setPart_cfgAns (i : Nat) (x : Part) : (s.setPart i x).cfgAns = s.cfgAns := rfl
@[simp] theorem setPart_bstat (i : Nat) (x : Part) : (s.setPart i x).bstat = s.bstat := rfl
@[simp] theorem setPart_booted (i : Nat) (x : Part) : (s.setPart i x).booted = s.booted := rfl
@[simp] theorem setPart_fuseKey (i : Nat) (x : Part) : (s.setPart i x).fuseKey = s.fuseKey := rfl
@[simp] theorem setPart_fuseVer (i : Nat) (x : Part) : (s.setPart i x).fuseVer = s.fuseVer := rfl
@[simp] theorem setPart_flash (i : Nat) (x : Part) : (s.setPart i x).flash = s.flash := rfl
@[simp] theorem setPart_images (i : Nat) (x : Part) : (s.setPart i x).images = s.images := rfl
@[simp] theorem setPart_pdBusy (i : Nat) (x : Part) : (s.setPart i x).pdBusy = s.pdBusy := rfl
@[simp] theorem setPart_hbeat (i : Nat) (x : Part) : (s.setPart i x).hbeat = s.hbeat := rfl
@[simp] theorem setPart_nvme (i : Nat) (x : Part) : (s.setPart i x).nvme = s.nvme := rfl
@[simp] theorem setPart_grants (i : Nat) (x : Part) : (s.setPart i x).grants = s.grants := rfl
@[simp] theorem setPart_ur (i : Nat) (x : Part) : (s.setPart i x).ur = s.ur := rfl
@[simp] theorem setPart_evst (i : Nat) (x : Part) : (s.setPart i x).evst = s.evst := rfl
@[simp] theorem setPart_evDone (i : Nat) (x : Part) : (s.setPart i x).evDone = s.evDone := rfl
@[simp] theorem setPart_evStart (i : Nat) (x : Part) : (s.setPart i x).evStart = s.evStart := rfl
@[simp] theorem setPart_ejectN (i : Nat) (x : Part) : (s.setPart i x).ejectN = s.ejectN := rfl
@[simp] theorem setPart_fru (i : Nat) (x : Part) : (s.setPart i x).fru = s.fru := rfl
@[simp] theorem setPart_fruLog (i : Nat) (x : Part) : (s.setPart i x).fruLog = s.fruLog := rfl
@[simp] theorem setPart_repl (i : Nat) (x : Part) : (s.setPart i x).repl = s.repl := rfl
@[simp] theorem setPart_nret (i : Nat) (x : Part) : (s.setPart i x).nret = s.nret := rfl

@[simp] theorem modPart_clock (i : Nat) (f : Part → Part) : (s.modPart i f).clock = s.clock := rfl
@[simp] theorem modPart_fresh (i : Nat) (f : Part → Part) : (s.modPart i f).fresh = s.fresh := rfl
@[simp] theorem modPart_agenda (i : Nat) (f : Part → Part) : (s.modPart i f).agenda = s.agenda := rfl
@[simp] theorem modPart_cur (i : Nat) (f : Part → Part) : (s.modPart i f).cur = s.cur := rfl
@[simp] theorem modPart_mem (i : Nat) (f : Part → Part) : (s.modPart i f).mem = s.mem := rfl
@[simp] theorem modPart_ue (i : Nat) (f : Part → Part) : (s.modPart i f).ue = s.ue := rfl
@[simp] theorem modPart_acc (i : Nat) (f : Part → Part) : (s.modPart i f).acc = s.acc := rfl
@[simp] theorem modPart_ext (i : Nat) (f : Part → Part) : (s.modPart i f).ext = s.ext := rfl
@[simp] theorem modPart_streams (i : Nat) (f : Part → Part) : (s.modPart i f).streams = s.streams := rfl
@[simp] theorem modPart_teams (i : Nat) (f : Part → Part) : (s.modPart i f).teams = s.teams := rfl
@[simp] theorem modPart_launches (i : Nat) (f : Part → Part) : (s.modPart i f).launches = s.launches := rfl
@[simp] theorem modPart_nlaunch (i : Nat) (f : Part → Part) : (s.modPart i f).nlaunch = s.nlaunch := rfl
@[simp] theorem modPart_nteam (i : Nat) (f : Part → Part) : (s.modPart i f).nteam = s.nteam := rfl
@[simp] theorem modPart_clusters (i : Nat) (f : Part → Part) : (s.modPart i f).clusters = s.clusters := rfl
@[simp] theorem modPart_strm (i : Nat) (f : Part → Part) : (s.modPart i f).strm = s.strm := rfl
@[simp] theorem modPart_ott (i : Nat) (f : Part → Part) : (s.modPart i f).ott = s.ott := rfl
@[simp] theorem modPart_ottGen (i : Nat) (f : Part → Part) : (s.modPart i f).ottGen = s.ottGen := rfl
@[simp] theorem modPart_reqs (i : Nat) (f : Part → Part) : (s.modPart i f).reqs = s.reqs := rfl
@[simp] theorem modPart_wire (i : Nat) (f : Part → Part) : (s.modPart i f).wire = s.wire := rfl
@[simp] theorem modPart_relw (i : Nat) (f : Part → Part) : (s.modPart i f).relw = s.relw := rfl
@[simp] theorem modPart_wlog (i : Nat) (f : Part → Part) : (s.modPart i f).wlog = s.wlog := rfl
@[simp] theorem modPart_past (i : Nat) (f : Part → Part) : (s.modPart i f).past = s.past := rfl
@[simp] theorem modPart_drains (i : Nat) (f : Part → Part) : (s.modPart i f).drains = s.drains := rfl
@[simp] theorem modPart_eops (i : Nat) (f : Part → Part) : (s.modPart i f).eops = s.eops := rfl
@[simp] theorem modPart_neop (i : Nat) (f : Part → Part) : (s.modPart i f).neop = s.neop := rfl
@[simp] theorem modPart_ctr (i : Nat) (f : Part → Part) : (s.modPart i f).ctr = s.ctr := rfl
@[simp] theorem modPart_queues (i : Nat) (f : Part → Part) : (s.modPart i f).queues = s.queues := rfl
@[simp] theorem modPart_aging (i : Nat) (f : Part → Part) : (s.modPart i f).aging = s.aging := rfl
@[simp] theorem modPart_raised (i : Nat) (f : Part → Part) : (s.modPart i f).raised = s.raised := rfl
@[simp] theorem modPart_served (i : Nat) (f : Part → Part) : (s.modPart i f).served = s.served := rfl
@[simp] theorem modPart_psteps (i : Nat) (f : Part → Part) : (s.modPart i f).psteps = s.psteps := rfl
@[simp] theorem modPart_pq (i : Nat) (f : Part → Part) : (s.modPart i f).pq = s.pq := rfl
@[simp] theorem modPart_pwait (i : Nat) (f : Part → Part) : (s.modPart i f).pwait = s.pwait := rfl
@[simp] theorem modPart_pseq (i : Nat) (f : Part → Part) : (s.modPart i f).pseq = s.pseq := rfl
@[simp] theorem modPart_huok (i : Nat) (f : Part → Part) : (s.modPart i f).huok = s.huok := rfl
@[simp] theorem modPart_lowClk (i : Nat) (f : Part → Part) : (s.modPart i f).lowClk = s.lowClk := rfl
@[simp] theorem modPart_power (i : Nat) (f : Part → Part) : (s.modPart i f).power = s.power := rfl
@[simp] theorem modPart_gated (i : Nat) (f : Part → Part) : (s.modPart i f).gated = s.gated := rfl
@[simp] theorem modPart_since (i : Nat) (f : Part → Part) : (s.modPart i f).since = s.since := rfl
@[simp] theorem modPart_groups (i : Nat) (f : Part → Part) : (s.modPart i f).groups = s.groups := rfl
@[simp] theorem modPart_gcopy (i : Nat) (f : Part → Part) : (s.modPart i f).gcopy = s.gcopy := rfl
@[simp] theorem modPart_gseq (i : Nat) (f : Part → Part) : (s.modPart i f).gseq = s.gseq := rfl
@[simp] theorem modPart_sw (i : Nat) (f : Part → Part) : (s.modPart i f).sw = s.sw := rfl
@[simp] theorem modPart_swClosed (i : Nat) (f : Part → Part) : (s.modPart i f).swClosed = s.swClosed := rfl
@[simp] theorem modPart_swLate (i : Nat) (f : Part → Part) : (s.modPart i f).swLate = s.swLate := rfl
@[simp] theorem modPart_fout (i : Nat) (f : Part → Part) : (s.modPart i f).fout = s.fout := rfl
@[simp] theorem modPart_fin (i : Nat) (f : Part → Part) : (s.modPart i f).fin = s.fin := rfl
@[simp] theorem modPart_rx (i : Nat) (f : Part → Part) : (s.modPart i f).rx = s.rx := rfl
@[simp] theorem modPart_gone (i : Nat) (f : Part → Part) : (s.modPart i f).gone = s.gone := rfl
@[simp] theorem modPart_wout (i : Nat) (f : Part → Part) : (s.modPart i f).wout = s.wout := rfl
@[simp] theorem modPart_links (i : Nat) (f : Part → Part) : (s.modPart i f).links = s.links := rfl
@[simp] theorem modPart_absent (i : Nat) (f : Part → Part) : (s.modPart i f).absent = s.absent := rfl
@[simp] theorem modPart_routes (i : Nat) (f : Part → Part) : (s.modPart i f).routes = s.routes := rfl
@[simp] theorem modPart_pktDrop (i : Nat) (f : Part → Part) : (s.modPart i f).pktDrop = s.pktDrop := rfl
@[simp] theorem modPart_msix (i : Nat) (f : Part → Part) : (s.modPart i f).msix = s.msix := rfl
@[simp] theorem modPart_bar0 (i : Nat) (f : Part → Part) : (s.modPart i f).bar0 = s.bar0 := rfl
@[simp] theorem modPart_mrtail (i : Nat) (f : Part → Part) : (s.modPart i f).mrtail = s.mrtail := rfl
@[simp] theorem modPart_mrhead (i : Nat) (f : Part → Part) : (s.modPart i f).mrhead = s.mrhead := rfl
@[simp] theorem modPart_hostrd (i : Nat) (f : Part → Part) : (s.modPart i f).hostrd = s.hostrd := rfl
@[simp] theorem modPart_cfgAns (i : Nat) (f : Part → Part) : (s.modPart i f).cfgAns = s.cfgAns := rfl
@[simp] theorem modPart_bstat (i : Nat) (f : Part → Part) : (s.modPart i f).bstat = s.bstat := rfl
@[simp] theorem modPart_booted (i : Nat) (f : Part → Part) : (s.modPart i f).booted = s.booted := rfl
@[simp] theorem modPart_fuseKey (i : Nat) (f : Part → Part) : (s.modPart i f).fuseKey = s.fuseKey := rfl
@[simp] theorem modPart_fuseVer (i : Nat) (f : Part → Part) : (s.modPart i f).fuseVer = s.fuseVer := rfl
@[simp] theorem modPart_flash (i : Nat) (f : Part → Part) : (s.modPart i f).flash = s.flash := rfl
@[simp] theorem modPart_images (i : Nat) (f : Part → Part) : (s.modPart i f).images = s.images := rfl
@[simp] theorem modPart_pdBusy (i : Nat) (f : Part → Part) : (s.modPart i f).pdBusy = s.pdBusy := rfl
@[simp] theorem modPart_hbeat (i : Nat) (f : Part → Part) : (s.modPart i f).hbeat = s.hbeat := rfl
@[simp] theorem modPart_nvme (i : Nat) (f : Part → Part) : (s.modPart i f).nvme = s.nvme := rfl
@[simp] theorem modPart_grants (i : Nat) (f : Part → Part) : (s.modPart i f).grants = s.grants := rfl
@[simp] theorem modPart_ur (i : Nat) (f : Part → Part) : (s.modPart i f).ur = s.ur := rfl
@[simp] theorem modPart_evst (i : Nat) (f : Part → Part) : (s.modPart i f).evst = s.evst := rfl
@[simp] theorem modPart_evDone (i : Nat) (f : Part → Part) : (s.modPart i f).evDone = s.evDone := rfl
@[simp] theorem modPart_evStart (i : Nat) (f : Part → Part) : (s.modPart i f).evStart = s.evStart := rfl
@[simp] theorem modPart_ejectN (i : Nat) (f : Part → Part) : (s.modPart i f).ejectN = s.ejectN := rfl
@[simp] theorem modPart_fru (i : Nat) (f : Part → Part) : (s.modPart i f).fru = s.fru := rfl
@[simp] theorem modPart_fruLog (i : Nat) (f : Part → Part) : (s.modPart i f).fruLog = s.fruLog := rfl
@[simp] theorem modPart_repl (i : Nat) (f : Part → Part) : (s.modPart i f).repl = s.repl := rfl
@[simp] theorem modPart_nret (i : Nat) (f : Part → Part) : (s.modPart i f).nret = s.nret := rfl

@[simp] theorem setCluster_clock (i : Nat) (x : Cluster) : (s.setCluster i x).clock = s.clock := rfl
@[simp] theorem setCluster_fresh (i : Nat) (x : Cluster) : (s.setCluster i x).fresh = s.fresh := rfl
@[simp] theorem setCluster_agenda (i : Nat) (x : Cluster) : (s.setCluster i x).agenda = s.agenda := rfl
@[simp] theorem setCluster_cur (i : Nat) (x : Cluster) : (s.setCluster i x).cur = s.cur := rfl
@[simp] theorem setCluster_mem (i : Nat) (x : Cluster) : (s.setCluster i x).mem = s.mem := rfl
@[simp] theorem setCluster_ue (i : Nat) (x : Cluster) : (s.setCluster i x).ue = s.ue := rfl
@[simp] theorem setCluster_acc (i : Nat) (x : Cluster) : (s.setCluster i x).acc = s.acc := rfl
@[simp] theorem setCluster_ext (i : Nat) (x : Cluster) : (s.setCluster i x).ext = s.ext := rfl
@[simp] theorem setCluster_streams (i : Nat) (x : Cluster) : (s.setCluster i x).streams = s.streams := rfl
@[simp] theorem setCluster_teams (i : Nat) (x : Cluster) : (s.setCluster i x).teams = s.teams := rfl
@[simp] theorem setCluster_launches (i : Nat) (x : Cluster) : (s.setCluster i x).launches = s.launches := rfl
@[simp] theorem setCluster_nlaunch (i : Nat) (x : Cluster) : (s.setCluster i x).nlaunch = s.nlaunch := rfl
@[simp] theorem setCluster_nteam (i : Nat) (x : Cluster) : (s.setCluster i x).nteam = s.nteam := rfl
@[simp] theorem setCluster_strm (i : Nat) (x : Cluster) : (s.setCluster i x).strm = s.strm := rfl
@[simp] theorem setCluster_ott (i : Nat) (x : Cluster) : (s.setCluster i x).ott = s.ott := rfl
@[simp] theorem setCluster_ottGen (i : Nat) (x : Cluster) : (s.setCluster i x).ottGen = s.ottGen := rfl
@[simp] theorem setCluster_reqs (i : Nat) (x : Cluster) : (s.setCluster i x).reqs = s.reqs := rfl
@[simp] theorem setCluster_wire (i : Nat) (x : Cluster) : (s.setCluster i x).wire = s.wire := rfl
@[simp] theorem setCluster_relw (i : Nat) (x : Cluster) : (s.setCluster i x).relw = s.relw := rfl
@[simp] theorem setCluster_wlog (i : Nat) (x : Cluster) : (s.setCluster i x).wlog = s.wlog := rfl
@[simp] theorem setCluster_past (i : Nat) (x : Cluster) : (s.setCluster i x).past = s.past := rfl
@[simp] theorem setCluster_drains (i : Nat) (x : Cluster) : (s.setCluster i x).drains = s.drains := rfl
@[simp] theorem setCluster_eops (i : Nat) (x : Cluster) : (s.setCluster i x).eops = s.eops := rfl
@[simp] theorem setCluster_neop (i : Nat) (x : Cluster) : (s.setCluster i x).neop = s.neop := rfl
@[simp] theorem setCluster_parts (i : Nat) (x : Cluster) : (s.setCluster i x).parts = s.parts := rfl
@[simp] theorem setCluster_ctr (i : Nat) (x : Cluster) : (s.setCluster i x).ctr = s.ctr := rfl
@[simp] theorem setCluster_queues (i : Nat) (x : Cluster) : (s.setCluster i x).queues = s.queues := rfl
@[simp] theorem setCluster_aging (i : Nat) (x : Cluster) : (s.setCluster i x).aging = s.aging := rfl
@[simp] theorem setCluster_raised (i : Nat) (x : Cluster) : (s.setCluster i x).raised = s.raised := rfl
@[simp] theorem setCluster_served (i : Nat) (x : Cluster) : (s.setCluster i x).served = s.served := rfl
@[simp] theorem setCluster_psteps (i : Nat) (x : Cluster) : (s.setCluster i x).psteps = s.psteps := rfl
@[simp] theorem setCluster_pq (i : Nat) (x : Cluster) : (s.setCluster i x).pq = s.pq := rfl
@[simp] theorem setCluster_pwait (i : Nat) (x : Cluster) : (s.setCluster i x).pwait = s.pwait := rfl
@[simp] theorem setCluster_pseq (i : Nat) (x : Cluster) : (s.setCluster i x).pseq = s.pseq := rfl
@[simp] theorem setCluster_huok (i : Nat) (x : Cluster) : (s.setCluster i x).huok = s.huok := rfl
@[simp] theorem setCluster_lowClk (i : Nat) (x : Cluster) : (s.setCluster i x).lowClk = s.lowClk := rfl
@[simp] theorem setCluster_power (i : Nat) (x : Cluster) : (s.setCluster i x).power = s.power := rfl
@[simp] theorem setCluster_gated (i : Nat) (x : Cluster) : (s.setCluster i x).gated = s.gated := rfl
@[simp] theorem setCluster_since (i : Nat) (x : Cluster) : (s.setCluster i x).since = s.since := rfl
@[simp] theorem setCluster_groups (i : Nat) (x : Cluster) : (s.setCluster i x).groups = s.groups := rfl
@[simp] theorem setCluster_gcopy (i : Nat) (x : Cluster) : (s.setCluster i x).gcopy = s.gcopy := rfl
@[simp] theorem setCluster_gseq (i : Nat) (x : Cluster) : (s.setCluster i x).gseq = s.gseq := rfl
@[simp] theorem setCluster_sw (i : Nat) (x : Cluster) : (s.setCluster i x).sw = s.sw := rfl
@[simp] theorem setCluster_swClosed (i : Nat) (x : Cluster) : (s.setCluster i x).swClosed = s.swClosed := rfl
@[simp] theorem setCluster_swLate (i : Nat) (x : Cluster) : (s.setCluster i x).swLate = s.swLate := rfl
@[simp] theorem setCluster_fout (i : Nat) (x : Cluster) : (s.setCluster i x).fout = s.fout := rfl
@[simp] theorem setCluster_fin (i : Nat) (x : Cluster) : (s.setCluster i x).fin = s.fin := rfl
@[simp] theorem setCluster_rx (i : Nat) (x : Cluster) : (s.setCluster i x).rx = s.rx := rfl
@[simp] theorem setCluster_gone (i : Nat) (x : Cluster) : (s.setCluster i x).gone = s.gone := rfl
@[simp] theorem setCluster_wout (i : Nat) (x : Cluster) : (s.setCluster i x).wout = s.wout := rfl
@[simp] theorem setCluster_links (i : Nat) (x : Cluster) : (s.setCluster i x).links = s.links := rfl
@[simp] theorem setCluster_absent (i : Nat) (x : Cluster) : (s.setCluster i x).absent = s.absent := rfl
@[simp] theorem setCluster_routes (i : Nat) (x : Cluster) : (s.setCluster i x).routes = s.routes := rfl
@[simp] theorem setCluster_pktDrop (i : Nat) (x : Cluster) : (s.setCluster i x).pktDrop = s.pktDrop := rfl
@[simp] theorem setCluster_msix (i : Nat) (x : Cluster) : (s.setCluster i x).msix = s.msix := rfl
@[simp] theorem setCluster_bar0 (i : Nat) (x : Cluster) : (s.setCluster i x).bar0 = s.bar0 := rfl
@[simp] theorem setCluster_mrtail (i : Nat) (x : Cluster) : (s.setCluster i x).mrtail = s.mrtail := rfl
@[simp] theorem setCluster_mrhead (i : Nat) (x : Cluster) : (s.setCluster i x).mrhead = s.mrhead := rfl
@[simp] theorem setCluster_hostrd (i : Nat) (x : Cluster) : (s.setCluster i x).hostrd = s.hostrd := rfl
@[simp] theorem setCluster_cfgAns (i : Nat) (x : Cluster) : (s.setCluster i x).cfgAns = s.cfgAns := rfl
@[simp] theorem setCluster_bstat (i : Nat) (x : Cluster) : (s.setCluster i x).bstat = s.bstat := rfl
@[simp] theorem setCluster_booted (i : Nat) (x : Cluster) : (s.setCluster i x).booted = s.booted := rfl
@[simp] theorem setCluster_fuseKey (i : Nat) (x : Cluster) : (s.setCluster i x).fuseKey = s.fuseKey := rfl
@[simp] theorem setCluster_fuseVer (i : Nat) (x : Cluster) : (s.setCluster i x).fuseVer = s.fuseVer := rfl
@[simp] theorem setCluster_flash (i : Nat) (x : Cluster) : (s.setCluster i x).flash = s.flash := rfl
@[simp] theorem setCluster_images (i : Nat) (x : Cluster) : (s.setCluster i x).images = s.images := rfl
@[simp] theorem setCluster_pdBusy (i : Nat) (x : Cluster) : (s.setCluster i x).pdBusy = s.pdBusy := rfl
@[simp] theorem setCluster_hbeat (i : Nat) (x : Cluster) : (s.setCluster i x).hbeat = s.hbeat := rfl
@[simp] theorem setCluster_nvme (i : Nat) (x : Cluster) : (s.setCluster i x).nvme = s.nvme := rfl
@[simp] theorem setCluster_grants (i : Nat) (x : Cluster) : (s.setCluster i x).grants = s.grants := rfl
@[simp] theorem setCluster_ur (i : Nat) (x : Cluster) : (s.setCluster i x).ur = s.ur := rfl
@[simp] theorem setCluster_evst (i : Nat) (x : Cluster) : (s.setCluster i x).evst = s.evst := rfl
@[simp] theorem setCluster_evDone (i : Nat) (x : Cluster) : (s.setCluster i x).evDone = s.evDone := rfl
@[simp] theorem setCluster_evStart (i : Nat) (x : Cluster) : (s.setCluster i x).evStart = s.evStart := rfl
@[simp] theorem setCluster_ejectN (i : Nat) (x : Cluster) : (s.setCluster i x).ejectN = s.ejectN := rfl
@[simp] theorem setCluster_fru (i : Nat) (x : Cluster) : (s.setCluster i x).fru = s.fru := rfl
@[simp] theorem setCluster_fruLog (i : Nat) (x : Cluster) : (s.setCluster i x).fruLog = s.fruLog := rfl
@[simp] theorem setCluster_repl (i : Nat) (x : Cluster) : (s.setCluster i x).repl = s.repl := rfl
@[simp] theorem setCluster_nret (i : Nat) (x : Cluster) : (s.setCluster i x).nret = s.nret := rfl

@[simp] theorem modCluster_clock (i : Nat) (f : Cluster → Cluster) : (s.modCluster i f).clock = s.clock := rfl
@[simp] theorem modCluster_fresh (i : Nat) (f : Cluster → Cluster) : (s.modCluster i f).fresh = s.fresh := rfl
@[simp] theorem modCluster_agenda (i : Nat) (f : Cluster → Cluster) : (s.modCluster i f).agenda = s.agenda := rfl
@[simp] theorem modCluster_cur (i : Nat) (f : Cluster → Cluster) : (s.modCluster i f).cur = s.cur := rfl
@[simp] theorem modCluster_mem (i : Nat) (f : Cluster → Cluster) : (s.modCluster i f).mem = s.mem := rfl
@[simp] theorem modCluster_ue (i : Nat) (f : Cluster → Cluster) : (s.modCluster i f).ue = s.ue := rfl
@[simp] theorem modCluster_acc (i : Nat) (f : Cluster → Cluster) : (s.modCluster i f).acc = s.acc := rfl
@[simp] theorem modCluster_ext (i : Nat) (f : Cluster → Cluster) : (s.modCluster i f).ext = s.ext := rfl
@[simp] theorem modCluster_streams (i : Nat) (f : Cluster → Cluster) : (s.modCluster i f).streams = s.streams := rfl
@[simp] theorem modCluster_teams (i : Nat) (f : Cluster → Cluster) : (s.modCluster i f).teams = s.teams := rfl
@[simp] theorem modCluster_launches (i : Nat) (f : Cluster → Cluster) : (s.modCluster i f).launches = s.launches := rfl
@[simp] theorem modCluster_nlaunch (i : Nat) (f : Cluster → Cluster) : (s.modCluster i f).nlaunch = s.nlaunch := rfl
@[simp] theorem modCluster_nteam (i : Nat) (f : Cluster → Cluster) : (s.modCluster i f).nteam = s.nteam := rfl
@[simp] theorem modCluster_strm (i : Nat) (f : Cluster → Cluster) : (s.modCluster i f).strm = s.strm := rfl
@[simp] theorem modCluster_ott (i : Nat) (f : Cluster → Cluster) : (s.modCluster i f).ott = s.ott := rfl
@[simp] theorem modCluster_ottGen (i : Nat) (f : Cluster → Cluster) : (s.modCluster i f).ottGen = s.ottGen := rfl
@[simp] theorem modCluster_reqs (i : Nat) (f : Cluster → Cluster) : (s.modCluster i f).reqs = s.reqs := rfl
@[simp] theorem modCluster_wire (i : Nat) (f : Cluster → Cluster) : (s.modCluster i f).wire = s.wire := rfl
@[simp] theorem modCluster_relw (i : Nat) (f : Cluster → Cluster) : (s.modCluster i f).relw = s.relw := rfl
@[simp] theorem modCluster_wlog (i : Nat) (f : Cluster → Cluster) : (s.modCluster i f).wlog = s.wlog := rfl
@[simp] theorem modCluster_past (i : Nat) (f : Cluster → Cluster) : (s.modCluster i f).past = s.past := rfl
@[simp] theorem modCluster_drains (i : Nat) (f : Cluster → Cluster) : (s.modCluster i f).drains = s.drains := rfl
@[simp] theorem modCluster_eops (i : Nat) (f : Cluster → Cluster) : (s.modCluster i f).eops = s.eops := rfl
@[simp] theorem modCluster_neop (i : Nat) (f : Cluster → Cluster) : (s.modCluster i f).neop = s.neop := rfl
@[simp] theorem modCluster_parts (i : Nat) (f : Cluster → Cluster) : (s.modCluster i f).parts = s.parts := rfl
@[simp] theorem modCluster_ctr (i : Nat) (f : Cluster → Cluster) : (s.modCluster i f).ctr = s.ctr := rfl
@[simp] theorem modCluster_queues (i : Nat) (f : Cluster → Cluster) : (s.modCluster i f).queues = s.queues := rfl
@[simp] theorem modCluster_aging (i : Nat) (f : Cluster → Cluster) : (s.modCluster i f).aging = s.aging := rfl
@[simp] theorem modCluster_raised (i : Nat) (f : Cluster → Cluster) : (s.modCluster i f).raised = s.raised := rfl
@[simp] theorem modCluster_served (i : Nat) (f : Cluster → Cluster) : (s.modCluster i f).served = s.served := rfl
@[simp] theorem modCluster_psteps (i : Nat) (f : Cluster → Cluster) : (s.modCluster i f).psteps = s.psteps := rfl
@[simp] theorem modCluster_pq (i : Nat) (f : Cluster → Cluster) : (s.modCluster i f).pq = s.pq := rfl
@[simp] theorem modCluster_pwait (i : Nat) (f : Cluster → Cluster) : (s.modCluster i f).pwait = s.pwait := rfl
@[simp] theorem modCluster_pseq (i : Nat) (f : Cluster → Cluster) : (s.modCluster i f).pseq = s.pseq := rfl
@[simp] theorem modCluster_huok (i : Nat) (f : Cluster → Cluster) : (s.modCluster i f).huok = s.huok := rfl
@[simp] theorem modCluster_lowClk (i : Nat) (f : Cluster → Cluster) : (s.modCluster i f).lowClk = s.lowClk := rfl
@[simp] theorem modCluster_power (i : Nat) (f : Cluster → Cluster) : (s.modCluster i f).power = s.power := rfl
@[simp] theorem modCluster_gated (i : Nat) (f : Cluster → Cluster) : (s.modCluster i f).gated = s.gated := rfl
@[simp] theorem modCluster_since (i : Nat) (f : Cluster → Cluster) : (s.modCluster i f).since = s.since := rfl
@[simp] theorem modCluster_groups (i : Nat) (f : Cluster → Cluster) : (s.modCluster i f).groups = s.groups := rfl
@[simp] theorem modCluster_gcopy (i : Nat) (f : Cluster → Cluster) : (s.modCluster i f).gcopy = s.gcopy := rfl
@[simp] theorem modCluster_gseq (i : Nat) (f : Cluster → Cluster) : (s.modCluster i f).gseq = s.gseq := rfl
@[simp] theorem modCluster_sw (i : Nat) (f : Cluster → Cluster) : (s.modCluster i f).sw = s.sw := rfl
@[simp] theorem modCluster_swClosed (i : Nat) (f : Cluster → Cluster) : (s.modCluster i f).swClosed = s.swClosed := rfl
@[simp] theorem modCluster_swLate (i : Nat) (f : Cluster → Cluster) : (s.modCluster i f).swLate = s.swLate := rfl
@[simp] theorem modCluster_fout (i : Nat) (f : Cluster → Cluster) : (s.modCluster i f).fout = s.fout := rfl
@[simp] theorem modCluster_fin (i : Nat) (f : Cluster → Cluster) : (s.modCluster i f).fin = s.fin := rfl
@[simp] theorem modCluster_rx (i : Nat) (f : Cluster → Cluster) : (s.modCluster i f).rx = s.rx := rfl
@[simp] theorem modCluster_gone (i : Nat) (f : Cluster → Cluster) : (s.modCluster i f).gone = s.gone := rfl
@[simp] theorem modCluster_wout (i : Nat) (f : Cluster → Cluster) : (s.modCluster i f).wout = s.wout := rfl
@[simp] theorem modCluster_links (i : Nat) (f : Cluster → Cluster) : (s.modCluster i f).links = s.links := rfl
@[simp] theorem modCluster_absent (i : Nat) (f : Cluster → Cluster) : (s.modCluster i f).absent = s.absent := rfl
@[simp] theorem modCluster_routes (i : Nat) (f : Cluster → Cluster) : (s.modCluster i f).routes = s.routes := rfl
@[simp] theorem modCluster_pktDrop (i : Nat) (f : Cluster → Cluster) : (s.modCluster i f).pktDrop = s.pktDrop := rfl
@[simp] theorem modCluster_msix (i : Nat) (f : Cluster → Cluster) : (s.modCluster i f).msix = s.msix := rfl
@[simp] theorem modCluster_bar0 (i : Nat) (f : Cluster → Cluster) : (s.modCluster i f).bar0 = s.bar0 := rfl
@[simp] theorem modCluster_mrtail (i : Nat) (f : Cluster → Cluster) : (s.modCluster i f).mrtail = s.mrtail := rfl
@[simp] theorem modCluster_mrhead (i : Nat) (f : Cluster → Cluster) : (s.modCluster i f).mrhead = s.mrhead := rfl
@[simp] theorem modCluster_hostrd (i : Nat) (f : Cluster → Cluster) : (s.modCluster i f).hostrd = s.hostrd := rfl
@[simp] theorem modCluster_cfgAns (i : Nat) (f : Cluster → Cluster) : (s.modCluster i f).cfgAns = s.cfgAns := rfl
@[simp] theorem modCluster_bstat (i : Nat) (f : Cluster → Cluster) : (s.modCluster i f).bstat = s.bstat := rfl
@[simp] theorem modCluster_booted (i : Nat) (f : Cluster → Cluster) : (s.modCluster i f).booted = s.booted := rfl
@[simp] theorem modCluster_fuseKey (i : Nat) (f : Cluster → Cluster) : (s.modCluster i f).fuseKey = s.fuseKey := rfl
@[simp] theorem modCluster_fuseVer (i : Nat) (f : Cluster → Cluster) : (s.modCluster i f).fuseVer = s.fuseVer := rfl
@[simp] theorem modCluster_flash (i : Nat) (f : Cluster → Cluster) : (s.modCluster i f).flash = s.flash := rfl
@[simp] theorem modCluster_images (i : Nat) (f : Cluster → Cluster) : (s.modCluster i f).images = s.images := rfl
@[simp] theorem modCluster_pdBusy (i : Nat) (f : Cluster → Cluster) : (s.modCluster i f).pdBusy = s.pdBusy := rfl
@[simp] theorem modCluster_hbeat (i : Nat) (f : Cluster → Cluster) : (s.modCluster i f).hbeat = s.hbeat := rfl
@[simp] theorem modCluster_nvme (i : Nat) (f : Cluster → Cluster) : (s.modCluster i f).nvme = s.nvme := rfl
@[simp] theorem modCluster_grants (i : Nat) (f : Cluster → Cluster) : (s.modCluster i f).grants = s.grants := rfl
@[simp] theorem modCluster_ur (i : Nat) (f : Cluster → Cluster) : (s.modCluster i f).ur = s.ur := rfl
@[simp] theorem modCluster_evst (i : Nat) (f : Cluster → Cluster) : (s.modCluster i f).evst = s.evst := rfl
@[simp] theorem modCluster_evDone (i : Nat) (f : Cluster → Cluster) : (s.modCluster i f).evDone = s.evDone := rfl
@[simp] theorem modCluster_evStart (i : Nat) (f : Cluster → Cluster) : (s.modCluster i f).evStart = s.evStart := rfl
@[simp] theorem modCluster_ejectN (i : Nat) (f : Cluster → Cluster) : (s.modCluster i f).ejectN = s.ejectN := rfl
@[simp] theorem modCluster_fru (i : Nat) (f : Cluster → Cluster) : (s.modCluster i f).fru = s.fru := rfl
@[simp] theorem modCluster_fruLog (i : Nat) (f : Cluster → Cluster) : (s.modCluster i f).fruLog = s.fruLog := rfl
@[simp] theorem modCluster_repl (i : Nat) (f : Cluster → Cluster) : (s.modCluster i f).repl = s.repl := rfl
@[simp] theorem modCluster_nret (i : Nat) (f : Cluster → Cluster) : (s.modCluster i f).nret = s.nret := rfl

@[simp] theorem setTeam_clock (i : Nat) (x : Option Team) : (s.setTeam i x).clock = s.clock := rfl
@[simp] theorem setTeam_fresh (i : Nat) (x : Option Team) : (s.setTeam i x).fresh = s.fresh := rfl
@[simp] theorem setTeam_agenda (i : Nat) (x : Option Team) : (s.setTeam i x).agenda = s.agenda := rfl
@[simp] theorem setTeam_cur (i : Nat) (x : Option Team) : (s.setTeam i x).cur = s.cur := rfl
@[simp] theorem setTeam_mem (i : Nat) (x : Option Team) : (s.setTeam i x).mem = s.mem := rfl
@[simp] theorem setTeam_ue (i : Nat) (x : Option Team) : (s.setTeam i x).ue = s.ue := rfl
@[simp] theorem setTeam_acc (i : Nat) (x : Option Team) : (s.setTeam i x).acc = s.acc := rfl
@[simp] theorem setTeam_ext (i : Nat) (x : Option Team) : (s.setTeam i x).ext = s.ext := rfl
@[simp] theorem setTeam_streams (i : Nat) (x : Option Team) : (s.setTeam i x).streams = s.streams := rfl
@[simp] theorem setTeam_launches (i : Nat) (x : Option Team) : (s.setTeam i x).launches = s.launches := rfl
@[simp] theorem setTeam_nlaunch (i : Nat) (x : Option Team) : (s.setTeam i x).nlaunch = s.nlaunch := rfl
@[simp] theorem setTeam_nteam (i : Nat) (x : Option Team) : (s.setTeam i x).nteam = s.nteam := rfl
@[simp] theorem setTeam_clusters (i : Nat) (x : Option Team) : (s.setTeam i x).clusters = s.clusters := rfl
@[simp] theorem setTeam_strm (i : Nat) (x : Option Team) : (s.setTeam i x).strm = s.strm := rfl
@[simp] theorem setTeam_ott (i : Nat) (x : Option Team) : (s.setTeam i x).ott = s.ott := rfl
@[simp] theorem setTeam_ottGen (i : Nat) (x : Option Team) : (s.setTeam i x).ottGen = s.ottGen := rfl
@[simp] theorem setTeam_reqs (i : Nat) (x : Option Team) : (s.setTeam i x).reqs = s.reqs := rfl
@[simp] theorem setTeam_wire (i : Nat) (x : Option Team) : (s.setTeam i x).wire = s.wire := rfl
@[simp] theorem setTeam_relw (i : Nat) (x : Option Team) : (s.setTeam i x).relw = s.relw := rfl
@[simp] theorem setTeam_wlog (i : Nat) (x : Option Team) : (s.setTeam i x).wlog = s.wlog := rfl
@[simp] theorem setTeam_past (i : Nat) (x : Option Team) : (s.setTeam i x).past = s.past := rfl
@[simp] theorem setTeam_drains (i : Nat) (x : Option Team) : (s.setTeam i x).drains = s.drains := rfl
@[simp] theorem setTeam_eops (i : Nat) (x : Option Team) : (s.setTeam i x).eops = s.eops := rfl
@[simp] theorem setTeam_neop (i : Nat) (x : Option Team) : (s.setTeam i x).neop = s.neop := rfl
@[simp] theorem setTeam_parts (i : Nat) (x : Option Team) : (s.setTeam i x).parts = s.parts := rfl
@[simp] theorem setTeam_ctr (i : Nat) (x : Option Team) : (s.setTeam i x).ctr = s.ctr := rfl
@[simp] theorem setTeam_queues (i : Nat) (x : Option Team) : (s.setTeam i x).queues = s.queues := rfl
@[simp] theorem setTeam_aging (i : Nat) (x : Option Team) : (s.setTeam i x).aging = s.aging := rfl
@[simp] theorem setTeam_raised (i : Nat) (x : Option Team) : (s.setTeam i x).raised = s.raised := rfl
@[simp] theorem setTeam_served (i : Nat) (x : Option Team) : (s.setTeam i x).served = s.served := rfl
@[simp] theorem setTeam_psteps (i : Nat) (x : Option Team) : (s.setTeam i x).psteps = s.psteps := rfl
@[simp] theorem setTeam_pq (i : Nat) (x : Option Team) : (s.setTeam i x).pq = s.pq := rfl
@[simp] theorem setTeam_pwait (i : Nat) (x : Option Team) : (s.setTeam i x).pwait = s.pwait := rfl
@[simp] theorem setTeam_pseq (i : Nat) (x : Option Team) : (s.setTeam i x).pseq = s.pseq := rfl
@[simp] theorem setTeam_huok (i : Nat) (x : Option Team) : (s.setTeam i x).huok = s.huok := rfl
@[simp] theorem setTeam_lowClk (i : Nat) (x : Option Team) : (s.setTeam i x).lowClk = s.lowClk := rfl
@[simp] theorem setTeam_power (i : Nat) (x : Option Team) : (s.setTeam i x).power = s.power := rfl
@[simp] theorem setTeam_gated (i : Nat) (x : Option Team) : (s.setTeam i x).gated = s.gated := rfl
@[simp] theorem setTeam_since (i : Nat) (x : Option Team) : (s.setTeam i x).since = s.since := rfl
@[simp] theorem setTeam_groups (i : Nat) (x : Option Team) : (s.setTeam i x).groups = s.groups := rfl
@[simp] theorem setTeam_gcopy (i : Nat) (x : Option Team) : (s.setTeam i x).gcopy = s.gcopy := rfl
@[simp] theorem setTeam_gseq (i : Nat) (x : Option Team) : (s.setTeam i x).gseq = s.gseq := rfl
@[simp] theorem setTeam_sw (i : Nat) (x : Option Team) : (s.setTeam i x).sw = s.sw := rfl
@[simp] theorem setTeam_swClosed (i : Nat) (x : Option Team) : (s.setTeam i x).swClosed = s.swClosed := rfl
@[simp] theorem setTeam_swLate (i : Nat) (x : Option Team) : (s.setTeam i x).swLate = s.swLate := rfl
@[simp] theorem setTeam_fout (i : Nat) (x : Option Team) : (s.setTeam i x).fout = s.fout := rfl
@[simp] theorem setTeam_fin (i : Nat) (x : Option Team) : (s.setTeam i x).fin = s.fin := rfl
@[simp] theorem setTeam_rx (i : Nat) (x : Option Team) : (s.setTeam i x).rx = s.rx := rfl
@[simp] theorem setTeam_gone (i : Nat) (x : Option Team) : (s.setTeam i x).gone = s.gone := rfl
@[simp] theorem setTeam_wout (i : Nat) (x : Option Team) : (s.setTeam i x).wout = s.wout := rfl
@[simp] theorem setTeam_links (i : Nat) (x : Option Team) : (s.setTeam i x).links = s.links := rfl
@[simp] theorem setTeam_absent (i : Nat) (x : Option Team) : (s.setTeam i x).absent = s.absent := rfl
@[simp] theorem setTeam_routes (i : Nat) (x : Option Team) : (s.setTeam i x).routes = s.routes := rfl
@[simp] theorem setTeam_pktDrop (i : Nat) (x : Option Team) : (s.setTeam i x).pktDrop = s.pktDrop := rfl
@[simp] theorem setTeam_msix (i : Nat) (x : Option Team) : (s.setTeam i x).msix = s.msix := rfl
@[simp] theorem setTeam_bar0 (i : Nat) (x : Option Team) : (s.setTeam i x).bar0 = s.bar0 := rfl
@[simp] theorem setTeam_mrtail (i : Nat) (x : Option Team) : (s.setTeam i x).mrtail = s.mrtail := rfl
@[simp] theorem setTeam_mrhead (i : Nat) (x : Option Team) : (s.setTeam i x).mrhead = s.mrhead := rfl
@[simp] theorem setTeam_hostrd (i : Nat) (x : Option Team) : (s.setTeam i x).hostrd = s.hostrd := rfl
@[simp] theorem setTeam_cfgAns (i : Nat) (x : Option Team) : (s.setTeam i x).cfgAns = s.cfgAns := rfl
@[simp] theorem setTeam_bstat (i : Nat) (x : Option Team) : (s.setTeam i x).bstat = s.bstat := rfl
@[simp] theorem setTeam_booted (i : Nat) (x : Option Team) : (s.setTeam i x).booted = s.booted := rfl
@[simp] theorem setTeam_fuseKey (i : Nat) (x : Option Team) : (s.setTeam i x).fuseKey = s.fuseKey := rfl
@[simp] theorem setTeam_fuseVer (i : Nat) (x : Option Team) : (s.setTeam i x).fuseVer = s.fuseVer := rfl
@[simp] theorem setTeam_flash (i : Nat) (x : Option Team) : (s.setTeam i x).flash = s.flash := rfl
@[simp] theorem setTeam_images (i : Nat) (x : Option Team) : (s.setTeam i x).images = s.images := rfl
@[simp] theorem setTeam_pdBusy (i : Nat) (x : Option Team) : (s.setTeam i x).pdBusy = s.pdBusy := rfl
@[simp] theorem setTeam_hbeat (i : Nat) (x : Option Team) : (s.setTeam i x).hbeat = s.hbeat := rfl
@[simp] theorem setTeam_nvme (i : Nat) (x : Option Team) : (s.setTeam i x).nvme = s.nvme := rfl
@[simp] theorem setTeam_grants (i : Nat) (x : Option Team) : (s.setTeam i x).grants = s.grants := rfl
@[simp] theorem setTeam_ur (i : Nat) (x : Option Team) : (s.setTeam i x).ur = s.ur := rfl
@[simp] theorem setTeam_evst (i : Nat) (x : Option Team) : (s.setTeam i x).evst = s.evst := rfl
@[simp] theorem setTeam_evDone (i : Nat) (x : Option Team) : (s.setTeam i x).evDone = s.evDone := rfl
@[simp] theorem setTeam_evStart (i : Nat) (x : Option Team) : (s.setTeam i x).evStart = s.evStart := rfl
@[simp] theorem setTeam_ejectN (i : Nat) (x : Option Team) : (s.setTeam i x).ejectN = s.ejectN := rfl
@[simp] theorem setTeam_fru (i : Nat) (x : Option Team) : (s.setTeam i x).fru = s.fru := rfl
@[simp] theorem setTeam_fruLog (i : Nat) (x : Option Team) : (s.setTeam i x).fruLog = s.fruLog := rfl
@[simp] theorem setTeam_repl (i : Nat) (x : Option Team) : (s.setTeam i x).repl = s.repl := rfl
@[simp] theorem setTeam_nret (i : Nat) (x : Option Team) : (s.setTeam i x).nret = s.nret := rfl

@[simp] theorem setLaunch_clock (i : Nat) (x : Option Launch) : (s.setLaunch i x).clock = s.clock := rfl
@[simp] theorem setLaunch_fresh (i : Nat) (x : Option Launch) : (s.setLaunch i x).fresh = s.fresh := rfl
@[simp] theorem setLaunch_agenda (i : Nat) (x : Option Launch) : (s.setLaunch i x).agenda = s.agenda := rfl
@[simp] theorem setLaunch_cur (i : Nat) (x : Option Launch) : (s.setLaunch i x).cur = s.cur := rfl
@[simp] theorem setLaunch_mem (i : Nat) (x : Option Launch) : (s.setLaunch i x).mem = s.mem := rfl
@[simp] theorem setLaunch_ue (i : Nat) (x : Option Launch) : (s.setLaunch i x).ue = s.ue := rfl
@[simp] theorem setLaunch_acc (i : Nat) (x : Option Launch) : (s.setLaunch i x).acc = s.acc := rfl
@[simp] theorem setLaunch_ext (i : Nat) (x : Option Launch) : (s.setLaunch i x).ext = s.ext := rfl
@[simp] theorem setLaunch_streams (i : Nat) (x : Option Launch) : (s.setLaunch i x).streams = s.streams := rfl
@[simp] theorem setLaunch_teams (i : Nat) (x : Option Launch) : (s.setLaunch i x).teams = s.teams := rfl
@[simp] theorem setLaunch_nlaunch (i : Nat) (x : Option Launch) : (s.setLaunch i x).nlaunch = s.nlaunch := rfl
@[simp] theorem setLaunch_nteam (i : Nat) (x : Option Launch) : (s.setLaunch i x).nteam = s.nteam := rfl
@[simp] theorem setLaunch_clusters (i : Nat) (x : Option Launch) : (s.setLaunch i x).clusters = s.clusters := rfl
@[simp] theorem setLaunch_strm (i : Nat) (x : Option Launch) : (s.setLaunch i x).strm = s.strm := rfl
@[simp] theorem setLaunch_ott (i : Nat) (x : Option Launch) : (s.setLaunch i x).ott = s.ott := rfl
@[simp] theorem setLaunch_ottGen (i : Nat) (x : Option Launch) : (s.setLaunch i x).ottGen = s.ottGen := rfl
@[simp] theorem setLaunch_reqs (i : Nat) (x : Option Launch) : (s.setLaunch i x).reqs = s.reqs := rfl
@[simp] theorem setLaunch_wire (i : Nat) (x : Option Launch) : (s.setLaunch i x).wire = s.wire := rfl
@[simp] theorem setLaunch_relw (i : Nat) (x : Option Launch) : (s.setLaunch i x).relw = s.relw := rfl
@[simp] theorem setLaunch_wlog (i : Nat) (x : Option Launch) : (s.setLaunch i x).wlog = s.wlog := rfl
@[simp] theorem setLaunch_past (i : Nat) (x : Option Launch) : (s.setLaunch i x).past = s.past := rfl
@[simp] theorem setLaunch_drains (i : Nat) (x : Option Launch) : (s.setLaunch i x).drains = s.drains := rfl
@[simp] theorem setLaunch_eops (i : Nat) (x : Option Launch) : (s.setLaunch i x).eops = s.eops := rfl
@[simp] theorem setLaunch_neop (i : Nat) (x : Option Launch) : (s.setLaunch i x).neop = s.neop := rfl
@[simp] theorem setLaunch_parts (i : Nat) (x : Option Launch) : (s.setLaunch i x).parts = s.parts := rfl
@[simp] theorem setLaunch_ctr (i : Nat) (x : Option Launch) : (s.setLaunch i x).ctr = s.ctr := rfl
@[simp] theorem setLaunch_queues (i : Nat) (x : Option Launch) : (s.setLaunch i x).queues = s.queues := rfl
@[simp] theorem setLaunch_aging (i : Nat) (x : Option Launch) : (s.setLaunch i x).aging = s.aging := rfl
@[simp] theorem setLaunch_raised (i : Nat) (x : Option Launch) : (s.setLaunch i x).raised = s.raised := rfl
@[simp] theorem setLaunch_served (i : Nat) (x : Option Launch) : (s.setLaunch i x).served = s.served := rfl
@[simp] theorem setLaunch_psteps (i : Nat) (x : Option Launch) : (s.setLaunch i x).psteps = s.psteps := rfl
@[simp] theorem setLaunch_pq (i : Nat) (x : Option Launch) : (s.setLaunch i x).pq = s.pq := rfl
@[simp] theorem setLaunch_pwait (i : Nat) (x : Option Launch) : (s.setLaunch i x).pwait = s.pwait := rfl
@[simp] theorem setLaunch_pseq (i : Nat) (x : Option Launch) : (s.setLaunch i x).pseq = s.pseq := rfl
@[simp] theorem setLaunch_huok (i : Nat) (x : Option Launch) : (s.setLaunch i x).huok = s.huok := rfl
@[simp] theorem setLaunch_lowClk (i : Nat) (x : Option Launch) : (s.setLaunch i x).lowClk = s.lowClk := rfl
@[simp] theorem setLaunch_power (i : Nat) (x : Option Launch) : (s.setLaunch i x).power = s.power := rfl
@[simp] theorem setLaunch_gated (i : Nat) (x : Option Launch) : (s.setLaunch i x).gated = s.gated := rfl
@[simp] theorem setLaunch_since (i : Nat) (x : Option Launch) : (s.setLaunch i x).since = s.since := rfl
@[simp] theorem setLaunch_groups (i : Nat) (x : Option Launch) : (s.setLaunch i x).groups = s.groups := rfl
@[simp] theorem setLaunch_gcopy (i : Nat) (x : Option Launch) : (s.setLaunch i x).gcopy = s.gcopy := rfl
@[simp] theorem setLaunch_gseq (i : Nat) (x : Option Launch) : (s.setLaunch i x).gseq = s.gseq := rfl
@[simp] theorem setLaunch_sw (i : Nat) (x : Option Launch) : (s.setLaunch i x).sw = s.sw := rfl
@[simp] theorem setLaunch_swClosed (i : Nat) (x : Option Launch) : (s.setLaunch i x).swClosed = s.swClosed := rfl
@[simp] theorem setLaunch_swLate (i : Nat) (x : Option Launch) : (s.setLaunch i x).swLate = s.swLate := rfl
@[simp] theorem setLaunch_fout (i : Nat) (x : Option Launch) : (s.setLaunch i x).fout = s.fout := rfl
@[simp] theorem setLaunch_fin (i : Nat) (x : Option Launch) : (s.setLaunch i x).fin = s.fin := rfl
@[simp] theorem setLaunch_rx (i : Nat) (x : Option Launch) : (s.setLaunch i x).rx = s.rx := rfl
@[simp] theorem setLaunch_gone (i : Nat) (x : Option Launch) : (s.setLaunch i x).gone = s.gone := rfl
@[simp] theorem setLaunch_wout (i : Nat) (x : Option Launch) : (s.setLaunch i x).wout = s.wout := rfl
@[simp] theorem setLaunch_links (i : Nat) (x : Option Launch) : (s.setLaunch i x).links = s.links := rfl
@[simp] theorem setLaunch_absent (i : Nat) (x : Option Launch) : (s.setLaunch i x).absent = s.absent := rfl
@[simp] theorem setLaunch_routes (i : Nat) (x : Option Launch) : (s.setLaunch i x).routes = s.routes := rfl
@[simp] theorem setLaunch_pktDrop (i : Nat) (x : Option Launch) : (s.setLaunch i x).pktDrop = s.pktDrop := rfl
@[simp] theorem setLaunch_msix (i : Nat) (x : Option Launch) : (s.setLaunch i x).msix = s.msix := rfl
@[simp] theorem setLaunch_bar0 (i : Nat) (x : Option Launch) : (s.setLaunch i x).bar0 = s.bar0 := rfl
@[simp] theorem setLaunch_mrtail (i : Nat) (x : Option Launch) : (s.setLaunch i x).mrtail = s.mrtail := rfl
@[simp] theorem setLaunch_mrhead (i : Nat) (x : Option Launch) : (s.setLaunch i x).mrhead = s.mrhead := rfl
@[simp] theorem setLaunch_hostrd (i : Nat) (x : Option Launch) : (s.setLaunch i x).hostrd = s.hostrd := rfl
@[simp] theorem setLaunch_cfgAns (i : Nat) (x : Option Launch) : (s.setLaunch i x).cfgAns = s.cfgAns := rfl
@[simp] theorem setLaunch_bstat (i : Nat) (x : Option Launch) : (s.setLaunch i x).bstat = s.bstat := rfl
@[simp] theorem setLaunch_booted (i : Nat) (x : Option Launch) : (s.setLaunch i x).booted = s.booted := rfl
@[simp] theorem setLaunch_fuseKey (i : Nat) (x : Option Launch) : (s.setLaunch i x).fuseKey = s.fuseKey := rfl
@[simp] theorem setLaunch_fuseVer (i : Nat) (x : Option Launch) : (s.setLaunch i x).fuseVer = s.fuseVer := rfl
@[simp] theorem setLaunch_flash (i : Nat) (x : Option Launch) : (s.setLaunch i x).flash = s.flash := rfl
@[simp] theorem setLaunch_images (i : Nat) (x : Option Launch) : (s.setLaunch i x).images = s.images := rfl
@[simp] theorem setLaunch_pdBusy (i : Nat) (x : Option Launch) : (s.setLaunch i x).pdBusy = s.pdBusy := rfl
@[simp] theorem setLaunch_hbeat (i : Nat) (x : Option Launch) : (s.setLaunch i x).hbeat = s.hbeat := rfl
@[simp] theorem setLaunch_nvme (i : Nat) (x : Option Launch) : (s.setLaunch i x).nvme = s.nvme := rfl
@[simp] theorem setLaunch_grants (i : Nat) (x : Option Launch) : (s.setLaunch i x).grants = s.grants := rfl
@[simp] theorem setLaunch_ur (i : Nat) (x : Option Launch) : (s.setLaunch i x).ur = s.ur := rfl
@[simp] theorem setLaunch_evst (i : Nat) (x : Option Launch) : (s.setLaunch i x).evst = s.evst := rfl
@[simp] theorem setLaunch_evDone (i : Nat) (x : Option Launch) : (s.setLaunch i x).evDone = s.evDone := rfl
@[simp] theorem setLaunch_evStart (i : Nat) (x : Option Launch) : (s.setLaunch i x).evStart = s.evStart := rfl
@[simp] theorem setLaunch_ejectN (i : Nat) (x : Option Launch) : (s.setLaunch i x).ejectN = s.ejectN := rfl
@[simp] theorem setLaunch_fru (i : Nat) (x : Option Launch) : (s.setLaunch i x).fru = s.fru := rfl
@[simp] theorem setLaunch_fruLog (i : Nat) (x : Option Launch) : (s.setLaunch i x).fruLog = s.fruLog := rfl
@[simp] theorem setLaunch_repl (i : Nat) (x : Option Launch) : (s.setLaunch i x).repl = s.repl := rfl
@[simp] theorem setLaunch_nret (i : Nat) (x : Option Launch) : (s.setLaunch i x).nret = s.nret := rfl

@[simp] theorem setQueue_clock (i : Nat) (x : HQ) : (s.setQueue i x).clock = s.clock := rfl
@[simp] theorem setQueue_fresh (i : Nat) (x : HQ) : (s.setQueue i x).fresh = s.fresh := rfl
@[simp] theorem setQueue_agenda (i : Nat) (x : HQ) : (s.setQueue i x).agenda = s.agenda := rfl
@[simp] theorem setQueue_cur (i : Nat) (x : HQ) : (s.setQueue i x).cur = s.cur := rfl
@[simp] theorem setQueue_mem (i : Nat) (x : HQ) : (s.setQueue i x).mem = s.mem := rfl
@[simp] theorem setQueue_ue (i : Nat) (x : HQ) : (s.setQueue i x).ue = s.ue := rfl
@[simp] theorem setQueue_acc (i : Nat) (x : HQ) : (s.setQueue i x).acc = s.acc := rfl
@[simp] theorem setQueue_ext (i : Nat) (x : HQ) : (s.setQueue i x).ext = s.ext := rfl
@[simp] theorem setQueue_streams (i : Nat) (x : HQ) : (s.setQueue i x).streams = s.streams := rfl
@[simp] theorem setQueue_teams (i : Nat) (x : HQ) : (s.setQueue i x).teams = s.teams := rfl
@[simp] theorem setQueue_launches (i : Nat) (x : HQ) : (s.setQueue i x).launches = s.launches := rfl
@[simp] theorem setQueue_nlaunch (i : Nat) (x : HQ) : (s.setQueue i x).nlaunch = s.nlaunch := rfl
@[simp] theorem setQueue_nteam (i : Nat) (x : HQ) : (s.setQueue i x).nteam = s.nteam := rfl
@[simp] theorem setQueue_clusters (i : Nat) (x : HQ) : (s.setQueue i x).clusters = s.clusters := rfl
@[simp] theorem setQueue_strm (i : Nat) (x : HQ) : (s.setQueue i x).strm = s.strm := rfl
@[simp] theorem setQueue_ott (i : Nat) (x : HQ) : (s.setQueue i x).ott = s.ott := rfl
@[simp] theorem setQueue_ottGen (i : Nat) (x : HQ) : (s.setQueue i x).ottGen = s.ottGen := rfl
@[simp] theorem setQueue_reqs (i : Nat) (x : HQ) : (s.setQueue i x).reqs = s.reqs := rfl
@[simp] theorem setQueue_wire (i : Nat) (x : HQ) : (s.setQueue i x).wire = s.wire := rfl
@[simp] theorem setQueue_relw (i : Nat) (x : HQ) : (s.setQueue i x).relw = s.relw := rfl
@[simp] theorem setQueue_wlog (i : Nat) (x : HQ) : (s.setQueue i x).wlog = s.wlog := rfl
@[simp] theorem setQueue_past (i : Nat) (x : HQ) : (s.setQueue i x).past = s.past := rfl
@[simp] theorem setQueue_drains (i : Nat) (x : HQ) : (s.setQueue i x).drains = s.drains := rfl
@[simp] theorem setQueue_eops (i : Nat) (x : HQ) : (s.setQueue i x).eops = s.eops := rfl
@[simp] theorem setQueue_neop (i : Nat) (x : HQ) : (s.setQueue i x).neop = s.neop := rfl
@[simp] theorem setQueue_parts (i : Nat) (x : HQ) : (s.setQueue i x).parts = s.parts := rfl
@[simp] theorem setQueue_ctr (i : Nat) (x : HQ) : (s.setQueue i x).ctr = s.ctr := rfl
@[simp] theorem setQueue_aging (i : Nat) (x : HQ) : (s.setQueue i x).aging = s.aging := rfl
@[simp] theorem setQueue_raised (i : Nat) (x : HQ) : (s.setQueue i x).raised = s.raised := rfl
@[simp] theorem setQueue_served (i : Nat) (x : HQ) : (s.setQueue i x).served = s.served := rfl
@[simp] theorem setQueue_psteps (i : Nat) (x : HQ) : (s.setQueue i x).psteps = s.psteps := rfl
@[simp] theorem setQueue_pq (i : Nat) (x : HQ) : (s.setQueue i x).pq = s.pq := rfl
@[simp] theorem setQueue_pwait (i : Nat) (x : HQ) : (s.setQueue i x).pwait = s.pwait := rfl
@[simp] theorem setQueue_pseq (i : Nat) (x : HQ) : (s.setQueue i x).pseq = s.pseq := rfl
@[simp] theorem setQueue_huok (i : Nat) (x : HQ) : (s.setQueue i x).huok = s.huok := rfl
@[simp] theorem setQueue_lowClk (i : Nat) (x : HQ) : (s.setQueue i x).lowClk = s.lowClk := rfl
@[simp] theorem setQueue_power (i : Nat) (x : HQ) : (s.setQueue i x).power = s.power := rfl
@[simp] theorem setQueue_gated (i : Nat) (x : HQ) : (s.setQueue i x).gated = s.gated := rfl
@[simp] theorem setQueue_since (i : Nat) (x : HQ) : (s.setQueue i x).since = s.since := rfl
@[simp] theorem setQueue_groups (i : Nat) (x : HQ) : (s.setQueue i x).groups = s.groups := rfl
@[simp] theorem setQueue_gcopy (i : Nat) (x : HQ) : (s.setQueue i x).gcopy = s.gcopy := rfl
@[simp] theorem setQueue_gseq (i : Nat) (x : HQ) : (s.setQueue i x).gseq = s.gseq := rfl
@[simp] theorem setQueue_sw (i : Nat) (x : HQ) : (s.setQueue i x).sw = s.sw := rfl
@[simp] theorem setQueue_swClosed (i : Nat) (x : HQ) : (s.setQueue i x).swClosed = s.swClosed := rfl
@[simp] theorem setQueue_swLate (i : Nat) (x : HQ) : (s.setQueue i x).swLate = s.swLate := rfl
@[simp] theorem setQueue_fout (i : Nat) (x : HQ) : (s.setQueue i x).fout = s.fout := rfl
@[simp] theorem setQueue_fin (i : Nat) (x : HQ) : (s.setQueue i x).fin = s.fin := rfl
@[simp] theorem setQueue_rx (i : Nat) (x : HQ) : (s.setQueue i x).rx = s.rx := rfl
@[simp] theorem setQueue_gone (i : Nat) (x : HQ) : (s.setQueue i x).gone = s.gone := rfl
@[simp] theorem setQueue_wout (i : Nat) (x : HQ) : (s.setQueue i x).wout = s.wout := rfl
@[simp] theorem setQueue_links (i : Nat) (x : HQ) : (s.setQueue i x).links = s.links := rfl
@[simp] theorem setQueue_absent (i : Nat) (x : HQ) : (s.setQueue i x).absent = s.absent := rfl
@[simp] theorem setQueue_routes (i : Nat) (x : HQ) : (s.setQueue i x).routes = s.routes := rfl
@[simp] theorem setQueue_pktDrop (i : Nat) (x : HQ) : (s.setQueue i x).pktDrop = s.pktDrop := rfl
@[simp] theorem setQueue_msix (i : Nat) (x : HQ) : (s.setQueue i x).msix = s.msix := rfl
@[simp] theorem setQueue_bar0 (i : Nat) (x : HQ) : (s.setQueue i x).bar0 = s.bar0 := rfl
@[simp] theorem setQueue_mrtail (i : Nat) (x : HQ) : (s.setQueue i x).mrtail = s.mrtail := rfl
@[simp] theorem setQueue_mrhead (i : Nat) (x : HQ) : (s.setQueue i x).mrhead = s.mrhead := rfl
@[simp] theorem setQueue_hostrd (i : Nat) (x : HQ) : (s.setQueue i x).hostrd = s.hostrd := rfl
@[simp] theorem setQueue_cfgAns (i : Nat) (x : HQ) : (s.setQueue i x).cfgAns = s.cfgAns := rfl
@[simp] theorem setQueue_bstat (i : Nat) (x : HQ) : (s.setQueue i x).bstat = s.bstat := rfl
@[simp] theorem setQueue_booted (i : Nat) (x : HQ) : (s.setQueue i x).booted = s.booted := rfl
@[simp] theorem setQueue_fuseKey (i : Nat) (x : HQ) : (s.setQueue i x).fuseKey = s.fuseKey := rfl
@[simp] theorem setQueue_fuseVer (i : Nat) (x : HQ) : (s.setQueue i x).fuseVer = s.fuseVer := rfl
@[simp] theorem setQueue_flash (i : Nat) (x : HQ) : (s.setQueue i x).flash = s.flash := rfl
@[simp] theorem setQueue_images (i : Nat) (x : HQ) : (s.setQueue i x).images = s.images := rfl
@[simp] theorem setQueue_pdBusy (i : Nat) (x : HQ) : (s.setQueue i x).pdBusy = s.pdBusy := rfl
@[simp] theorem setQueue_hbeat (i : Nat) (x : HQ) : (s.setQueue i x).hbeat = s.hbeat := rfl
@[simp] theorem setQueue_nvme (i : Nat) (x : HQ) : (s.setQueue i x).nvme = s.nvme := rfl
@[simp] theorem setQueue_grants (i : Nat) (x : HQ) : (s.setQueue i x).grants = s.grants := rfl
@[simp] theorem setQueue_ur (i : Nat) (x : HQ) : (s.setQueue i x).ur = s.ur := rfl
@[simp] theorem setQueue_evst (i : Nat) (x : HQ) : (s.setQueue i x).evst = s.evst := rfl
@[simp] theorem setQueue_evDone (i : Nat) (x : HQ) : (s.setQueue i x).evDone = s.evDone := rfl
@[simp] theorem setQueue_evStart (i : Nat) (x : HQ) : (s.setQueue i x).evStart = s.evStart := rfl
@[simp] theorem setQueue_ejectN (i : Nat) (x : HQ) : (s.setQueue i x).ejectN = s.ejectN := rfl
@[simp] theorem setQueue_fru (i : Nat) (x : HQ) : (s.setQueue i x).fru = s.fru := rfl
@[simp] theorem setQueue_fruLog (i : Nat) (x : HQ) : (s.setQueue i x).fruLog = s.fruLog := rfl
@[simp] theorem setQueue_repl (i : Nat) (x : HQ) : (s.setQueue i x).repl = s.repl := rfl
@[simp] theorem setQueue_nret (i : Nat) (x : HQ) : (s.setQueue i x).nret = s.nret := rfl

@[simp] theorem setEop_clock (i : Nat) (x : Option EngOp) : (s.setEop i x).clock = s.clock := rfl
@[simp] theorem setEop_fresh (i : Nat) (x : Option EngOp) : (s.setEop i x).fresh = s.fresh := rfl
@[simp] theorem setEop_agenda (i : Nat) (x : Option EngOp) : (s.setEop i x).agenda = s.agenda := rfl
@[simp] theorem setEop_cur (i : Nat) (x : Option EngOp) : (s.setEop i x).cur = s.cur := rfl
@[simp] theorem setEop_mem (i : Nat) (x : Option EngOp) : (s.setEop i x).mem = s.mem := rfl
@[simp] theorem setEop_ue (i : Nat) (x : Option EngOp) : (s.setEop i x).ue = s.ue := rfl
@[simp] theorem setEop_acc (i : Nat) (x : Option EngOp) : (s.setEop i x).acc = s.acc := rfl
@[simp] theorem setEop_ext (i : Nat) (x : Option EngOp) : (s.setEop i x).ext = s.ext := rfl
@[simp] theorem setEop_streams (i : Nat) (x : Option EngOp) : (s.setEop i x).streams = s.streams := rfl
@[simp] theorem setEop_teams (i : Nat) (x : Option EngOp) : (s.setEop i x).teams = s.teams := rfl
@[simp] theorem setEop_launches (i : Nat) (x : Option EngOp) : (s.setEop i x).launches = s.launches := rfl
@[simp] theorem setEop_nlaunch (i : Nat) (x : Option EngOp) : (s.setEop i x).nlaunch = s.nlaunch := rfl
@[simp] theorem setEop_nteam (i : Nat) (x : Option EngOp) : (s.setEop i x).nteam = s.nteam := rfl
@[simp] theorem setEop_clusters (i : Nat) (x : Option EngOp) : (s.setEop i x).clusters = s.clusters := rfl
@[simp] theorem setEop_strm (i : Nat) (x : Option EngOp) : (s.setEop i x).strm = s.strm := rfl
@[simp] theorem setEop_ott (i : Nat) (x : Option EngOp) : (s.setEop i x).ott = s.ott := rfl
@[simp] theorem setEop_ottGen (i : Nat) (x : Option EngOp) : (s.setEop i x).ottGen = s.ottGen := rfl
@[simp] theorem setEop_reqs (i : Nat) (x : Option EngOp) : (s.setEop i x).reqs = s.reqs := rfl
@[simp] theorem setEop_wire (i : Nat) (x : Option EngOp) : (s.setEop i x).wire = s.wire := rfl
@[simp] theorem setEop_relw (i : Nat) (x : Option EngOp) : (s.setEop i x).relw = s.relw := rfl
@[simp] theorem setEop_wlog (i : Nat) (x : Option EngOp) : (s.setEop i x).wlog = s.wlog := rfl
@[simp] theorem setEop_past (i : Nat) (x : Option EngOp) : (s.setEop i x).past = s.past := rfl
@[simp] theorem setEop_drains (i : Nat) (x : Option EngOp) : (s.setEop i x).drains = s.drains := rfl
@[simp] theorem setEop_neop (i : Nat) (x : Option EngOp) : (s.setEop i x).neop = s.neop := rfl
@[simp] theorem setEop_parts (i : Nat) (x : Option EngOp) : (s.setEop i x).parts = s.parts := rfl
@[simp] theorem setEop_ctr (i : Nat) (x : Option EngOp) : (s.setEop i x).ctr = s.ctr := rfl
@[simp] theorem setEop_queues (i : Nat) (x : Option EngOp) : (s.setEop i x).queues = s.queues := rfl
@[simp] theorem setEop_aging (i : Nat) (x : Option EngOp) : (s.setEop i x).aging = s.aging := rfl
@[simp] theorem setEop_raised (i : Nat) (x : Option EngOp) : (s.setEop i x).raised = s.raised := rfl
@[simp] theorem setEop_served (i : Nat) (x : Option EngOp) : (s.setEop i x).served = s.served := rfl
@[simp] theorem setEop_psteps (i : Nat) (x : Option EngOp) : (s.setEop i x).psteps = s.psteps := rfl
@[simp] theorem setEop_pq (i : Nat) (x : Option EngOp) : (s.setEop i x).pq = s.pq := rfl
@[simp] theorem setEop_pwait (i : Nat) (x : Option EngOp) : (s.setEop i x).pwait = s.pwait := rfl
@[simp] theorem setEop_pseq (i : Nat) (x : Option EngOp) : (s.setEop i x).pseq = s.pseq := rfl
@[simp] theorem setEop_huok (i : Nat) (x : Option EngOp) : (s.setEop i x).huok = s.huok := rfl
@[simp] theorem setEop_lowClk (i : Nat) (x : Option EngOp) : (s.setEop i x).lowClk = s.lowClk := rfl
@[simp] theorem setEop_power (i : Nat) (x : Option EngOp) : (s.setEop i x).power = s.power := rfl
@[simp] theorem setEop_gated (i : Nat) (x : Option EngOp) : (s.setEop i x).gated = s.gated := rfl
@[simp] theorem setEop_since (i : Nat) (x : Option EngOp) : (s.setEop i x).since = s.since := rfl
@[simp] theorem setEop_groups (i : Nat) (x : Option EngOp) : (s.setEop i x).groups = s.groups := rfl
@[simp] theorem setEop_gcopy (i : Nat) (x : Option EngOp) : (s.setEop i x).gcopy = s.gcopy := rfl
@[simp] theorem setEop_gseq (i : Nat) (x : Option EngOp) : (s.setEop i x).gseq = s.gseq := rfl
@[simp] theorem setEop_sw (i : Nat) (x : Option EngOp) : (s.setEop i x).sw = s.sw := rfl
@[simp] theorem setEop_swClosed (i : Nat) (x : Option EngOp) : (s.setEop i x).swClosed = s.swClosed := rfl
@[simp] theorem setEop_swLate (i : Nat) (x : Option EngOp) : (s.setEop i x).swLate = s.swLate := rfl
@[simp] theorem setEop_fout (i : Nat) (x : Option EngOp) : (s.setEop i x).fout = s.fout := rfl
@[simp] theorem setEop_fin (i : Nat) (x : Option EngOp) : (s.setEop i x).fin = s.fin := rfl
@[simp] theorem setEop_rx (i : Nat) (x : Option EngOp) : (s.setEop i x).rx = s.rx := rfl
@[simp] theorem setEop_gone (i : Nat) (x : Option EngOp) : (s.setEop i x).gone = s.gone := rfl
@[simp] theorem setEop_wout (i : Nat) (x : Option EngOp) : (s.setEop i x).wout = s.wout := rfl
@[simp] theorem setEop_links (i : Nat) (x : Option EngOp) : (s.setEop i x).links = s.links := rfl
@[simp] theorem setEop_absent (i : Nat) (x : Option EngOp) : (s.setEop i x).absent = s.absent := rfl
@[simp] theorem setEop_routes (i : Nat) (x : Option EngOp) : (s.setEop i x).routes = s.routes := rfl
@[simp] theorem setEop_pktDrop (i : Nat) (x : Option EngOp) : (s.setEop i x).pktDrop = s.pktDrop := rfl
@[simp] theorem setEop_msix (i : Nat) (x : Option EngOp) : (s.setEop i x).msix = s.msix := rfl
@[simp] theorem setEop_bar0 (i : Nat) (x : Option EngOp) : (s.setEop i x).bar0 = s.bar0 := rfl
@[simp] theorem setEop_mrtail (i : Nat) (x : Option EngOp) : (s.setEop i x).mrtail = s.mrtail := rfl
@[simp] theorem setEop_mrhead (i : Nat) (x : Option EngOp) : (s.setEop i x).mrhead = s.mrhead := rfl
@[simp] theorem setEop_hostrd (i : Nat) (x : Option EngOp) : (s.setEop i x).hostrd = s.hostrd := rfl
@[simp] theorem setEop_cfgAns (i : Nat) (x : Option EngOp) : (s.setEop i x).cfgAns = s.cfgAns := rfl
@[simp] theorem setEop_bstat (i : Nat) (x : Option EngOp) : (s.setEop i x).bstat = s.bstat := rfl
@[simp] theorem setEop_booted (i : Nat) (x : Option EngOp) : (s.setEop i x).booted = s.booted := rfl
@[simp] theorem setEop_fuseKey (i : Nat) (x : Option EngOp) : (s.setEop i x).fuseKey = s.fuseKey := rfl
@[simp] theorem setEop_fuseVer (i : Nat) (x : Option EngOp) : (s.setEop i x).fuseVer = s.fuseVer := rfl
@[simp] theorem setEop_flash (i : Nat) (x : Option EngOp) : (s.setEop i x).flash = s.flash := rfl
@[simp] theorem setEop_images (i : Nat) (x : Option EngOp) : (s.setEop i x).images = s.images := rfl
@[simp] theorem setEop_pdBusy (i : Nat) (x : Option EngOp) : (s.setEop i x).pdBusy = s.pdBusy := rfl
@[simp] theorem setEop_hbeat (i : Nat) (x : Option EngOp) : (s.setEop i x).hbeat = s.hbeat := rfl
@[simp] theorem setEop_nvme (i : Nat) (x : Option EngOp) : (s.setEop i x).nvme = s.nvme := rfl
@[simp] theorem setEop_grants (i : Nat) (x : Option EngOp) : (s.setEop i x).grants = s.grants := rfl
@[simp] theorem setEop_ur (i : Nat) (x : Option EngOp) : (s.setEop i x).ur = s.ur := rfl
@[simp] theorem setEop_evst (i : Nat) (x : Option EngOp) : (s.setEop i x).evst = s.evst := rfl
@[simp] theorem setEop_evDone (i : Nat) (x : Option EngOp) : (s.setEop i x).evDone = s.evDone := rfl
@[simp] theorem setEop_evStart (i : Nat) (x : Option EngOp) : (s.setEop i x).evStart = s.evStart := rfl
@[simp] theorem setEop_ejectN (i : Nat) (x : Option EngOp) : (s.setEop i x).ejectN = s.ejectN := rfl
@[simp] theorem setEop_fru (i : Nat) (x : Option EngOp) : (s.setEop i x).fru = s.fru := rfl
@[simp] theorem setEop_fruLog (i : Nat) (x : Option EngOp) : (s.setEop i x).fruLog = s.fruLog := rfl
@[simp] theorem setEop_repl (i : Nat) (x : Option EngOp) : (s.setEop i x).repl = s.repl := rfl
@[simp] theorem setEop_nret (i : Nat) (x : Option EngOp) : (s.setEop i x).nret = s.nret := rfl

@[simp] theorem setStrm_clock (i : Nat) (x : StrmEnt) : (s.setStrm i x).clock = s.clock := rfl
@[simp] theorem setStrm_fresh (i : Nat) (x : StrmEnt) : (s.setStrm i x).fresh = s.fresh := rfl
@[simp] theorem setStrm_agenda (i : Nat) (x : StrmEnt) : (s.setStrm i x).agenda = s.agenda := rfl
@[simp] theorem setStrm_cur (i : Nat) (x : StrmEnt) : (s.setStrm i x).cur = s.cur := rfl
@[simp] theorem setStrm_mem (i : Nat) (x : StrmEnt) : (s.setStrm i x).mem = s.mem := rfl
@[simp] theorem setStrm_ue (i : Nat) (x : StrmEnt) : (s.setStrm i x).ue = s.ue := rfl
@[simp] theorem setStrm_acc (i : Nat) (x : StrmEnt) : (s.setStrm i x).acc = s.acc := rfl
@[simp] theorem setStrm_ext (i : Nat) (x : StrmEnt) : (s.setStrm i x).ext = s.ext := rfl
@[simp] theorem setStrm_streams (i : Nat) (x : StrmEnt) : (s.setStrm i x).streams = s.streams := rfl
@[simp] theorem setStrm_teams (i : Nat) (x : StrmEnt) : (s.setStrm i x).teams = s.teams := rfl
@[simp] theorem setStrm_launches (i : Nat) (x : StrmEnt) : (s.setStrm i x).launches = s.launches := rfl
@[simp] theorem setStrm_nlaunch (i : Nat) (x : StrmEnt) : (s.setStrm i x).nlaunch = s.nlaunch := rfl
@[simp] theorem setStrm_nteam (i : Nat) (x : StrmEnt) : (s.setStrm i x).nteam = s.nteam := rfl
@[simp] theorem setStrm_clusters (i : Nat) (x : StrmEnt) : (s.setStrm i x).clusters = s.clusters := rfl
@[simp] theorem setStrm_ott (i : Nat) (x : StrmEnt) : (s.setStrm i x).ott = s.ott := rfl
@[simp] theorem setStrm_ottGen (i : Nat) (x : StrmEnt) : (s.setStrm i x).ottGen = s.ottGen := rfl
@[simp] theorem setStrm_reqs (i : Nat) (x : StrmEnt) : (s.setStrm i x).reqs = s.reqs := rfl
@[simp] theorem setStrm_wire (i : Nat) (x : StrmEnt) : (s.setStrm i x).wire = s.wire := rfl
@[simp] theorem setStrm_relw (i : Nat) (x : StrmEnt) : (s.setStrm i x).relw = s.relw := rfl
@[simp] theorem setStrm_wlog (i : Nat) (x : StrmEnt) : (s.setStrm i x).wlog = s.wlog := rfl
@[simp] theorem setStrm_past (i : Nat) (x : StrmEnt) : (s.setStrm i x).past = s.past := rfl
@[simp] theorem setStrm_drains (i : Nat) (x : StrmEnt) : (s.setStrm i x).drains = s.drains := rfl
@[simp] theorem setStrm_eops (i : Nat) (x : StrmEnt) : (s.setStrm i x).eops = s.eops := rfl
@[simp] theorem setStrm_neop (i : Nat) (x : StrmEnt) : (s.setStrm i x).neop = s.neop := rfl
@[simp] theorem setStrm_parts (i : Nat) (x : StrmEnt) : (s.setStrm i x).parts = s.parts := rfl
@[simp] theorem setStrm_ctr (i : Nat) (x : StrmEnt) : (s.setStrm i x).ctr = s.ctr := rfl
@[simp] theorem setStrm_queues (i : Nat) (x : StrmEnt) : (s.setStrm i x).queues = s.queues := rfl
@[simp] theorem setStrm_aging (i : Nat) (x : StrmEnt) : (s.setStrm i x).aging = s.aging := rfl
@[simp] theorem setStrm_raised (i : Nat) (x : StrmEnt) : (s.setStrm i x).raised = s.raised := rfl
@[simp] theorem setStrm_served (i : Nat) (x : StrmEnt) : (s.setStrm i x).served = s.served := rfl
@[simp] theorem setStrm_psteps (i : Nat) (x : StrmEnt) : (s.setStrm i x).psteps = s.psteps := rfl
@[simp] theorem setStrm_pq (i : Nat) (x : StrmEnt) : (s.setStrm i x).pq = s.pq := rfl
@[simp] theorem setStrm_pwait (i : Nat) (x : StrmEnt) : (s.setStrm i x).pwait = s.pwait := rfl
@[simp] theorem setStrm_pseq (i : Nat) (x : StrmEnt) : (s.setStrm i x).pseq = s.pseq := rfl
@[simp] theorem setStrm_huok (i : Nat) (x : StrmEnt) : (s.setStrm i x).huok = s.huok := rfl
@[simp] theorem setStrm_lowClk (i : Nat) (x : StrmEnt) : (s.setStrm i x).lowClk = s.lowClk := rfl
@[simp] theorem setStrm_power (i : Nat) (x : StrmEnt) : (s.setStrm i x).power = s.power := rfl
@[simp] theorem setStrm_gated (i : Nat) (x : StrmEnt) : (s.setStrm i x).gated = s.gated := rfl
@[simp] theorem setStrm_since (i : Nat) (x : StrmEnt) : (s.setStrm i x).since = s.since := rfl
@[simp] theorem setStrm_groups (i : Nat) (x : StrmEnt) : (s.setStrm i x).groups = s.groups := rfl
@[simp] theorem setStrm_gcopy (i : Nat) (x : StrmEnt) : (s.setStrm i x).gcopy = s.gcopy := rfl
@[simp] theorem setStrm_gseq (i : Nat) (x : StrmEnt) : (s.setStrm i x).gseq = s.gseq := rfl
@[simp] theorem setStrm_sw (i : Nat) (x : StrmEnt) : (s.setStrm i x).sw = s.sw := rfl
@[simp] theorem setStrm_swClosed (i : Nat) (x : StrmEnt) : (s.setStrm i x).swClosed = s.swClosed := rfl
@[simp] theorem setStrm_swLate (i : Nat) (x : StrmEnt) : (s.setStrm i x).swLate = s.swLate := rfl
@[simp] theorem setStrm_fout (i : Nat) (x : StrmEnt) : (s.setStrm i x).fout = s.fout := rfl
@[simp] theorem setStrm_fin (i : Nat) (x : StrmEnt) : (s.setStrm i x).fin = s.fin := rfl
@[simp] theorem setStrm_rx (i : Nat) (x : StrmEnt) : (s.setStrm i x).rx = s.rx := rfl
@[simp] theorem setStrm_gone (i : Nat) (x : StrmEnt) : (s.setStrm i x).gone = s.gone := rfl
@[simp] theorem setStrm_wout (i : Nat) (x : StrmEnt) : (s.setStrm i x).wout = s.wout := rfl
@[simp] theorem setStrm_links (i : Nat) (x : StrmEnt) : (s.setStrm i x).links = s.links := rfl
@[simp] theorem setStrm_absent (i : Nat) (x : StrmEnt) : (s.setStrm i x).absent = s.absent := rfl
@[simp] theorem setStrm_routes (i : Nat) (x : StrmEnt) : (s.setStrm i x).routes = s.routes := rfl
@[simp] theorem setStrm_pktDrop (i : Nat) (x : StrmEnt) : (s.setStrm i x).pktDrop = s.pktDrop := rfl
@[simp] theorem setStrm_msix (i : Nat) (x : StrmEnt) : (s.setStrm i x).msix = s.msix := rfl
@[simp] theorem setStrm_bar0 (i : Nat) (x : StrmEnt) : (s.setStrm i x).bar0 = s.bar0 := rfl
@[simp] theorem setStrm_mrtail (i : Nat) (x : StrmEnt) : (s.setStrm i x).mrtail = s.mrtail := rfl
@[simp] theorem setStrm_mrhead (i : Nat) (x : StrmEnt) : (s.setStrm i x).mrhead = s.mrhead := rfl
@[simp] theorem setStrm_hostrd (i : Nat) (x : StrmEnt) : (s.setStrm i x).hostrd = s.hostrd := rfl
@[simp] theorem setStrm_cfgAns (i : Nat) (x : StrmEnt) : (s.setStrm i x).cfgAns = s.cfgAns := rfl
@[simp] theorem setStrm_bstat (i : Nat) (x : StrmEnt) : (s.setStrm i x).bstat = s.bstat := rfl
@[simp] theorem setStrm_booted (i : Nat) (x : StrmEnt) : (s.setStrm i x).booted = s.booted := rfl
@[simp] theorem setStrm_fuseKey (i : Nat) (x : StrmEnt) : (s.setStrm i x).fuseKey = s.fuseKey := rfl
@[simp] theorem setStrm_fuseVer (i : Nat) (x : StrmEnt) : (s.setStrm i x).fuseVer = s.fuseVer := rfl
@[simp] theorem setStrm_flash (i : Nat) (x : StrmEnt) : (s.setStrm i x).flash = s.flash := rfl
@[simp] theorem setStrm_images (i : Nat) (x : StrmEnt) : (s.setStrm i x).images = s.images := rfl
@[simp] theorem setStrm_pdBusy (i : Nat) (x : StrmEnt) : (s.setStrm i x).pdBusy = s.pdBusy := rfl
@[simp] theorem setStrm_hbeat (i : Nat) (x : StrmEnt) : (s.setStrm i x).hbeat = s.hbeat := rfl
@[simp] theorem setStrm_nvme (i : Nat) (x : StrmEnt) : (s.setStrm i x).nvme = s.nvme := rfl
@[simp] theorem setStrm_grants (i : Nat) (x : StrmEnt) : (s.setStrm i x).grants = s.grants := rfl
@[simp] theorem setStrm_ur (i : Nat) (x : StrmEnt) : (s.setStrm i x).ur = s.ur := rfl
@[simp] theorem setStrm_evst (i : Nat) (x : StrmEnt) : (s.setStrm i x).evst = s.evst := rfl
@[simp] theorem setStrm_evDone (i : Nat) (x : StrmEnt) : (s.setStrm i x).evDone = s.evDone := rfl
@[simp] theorem setStrm_evStart (i : Nat) (x : StrmEnt) : (s.setStrm i x).evStart = s.evStart := rfl
@[simp] theorem setStrm_ejectN (i : Nat) (x : StrmEnt) : (s.setStrm i x).ejectN = s.ejectN := rfl
@[simp] theorem setStrm_fru (i : Nat) (x : StrmEnt) : (s.setStrm i x).fru = s.fru := rfl
@[simp] theorem setStrm_fruLog (i : Nat) (x : StrmEnt) : (s.setStrm i x).fruLog = s.fruLog := rfl
@[simp] theorem setStrm_repl (i : Nat) (x : StrmEnt) : (s.setStrm i x).repl = s.repl := rfl
@[simp] theorem setStrm_nret (i : Nat) (x : StrmEnt) : (s.setStrm i x).nret = s.nret := rfl

@[simp] theorem setCounter_clock (i : Nat) (x : BitVec 64) : (s.setCounter i x).clock = s.clock := rfl
@[simp] theorem setCounter_fresh (i : Nat) (x : BitVec 64) : (s.setCounter i x).fresh = s.fresh := rfl
@[simp] theorem setCounter_agenda (i : Nat) (x : BitVec 64) : (s.setCounter i x).agenda = s.agenda := rfl
@[simp] theorem setCounter_cur (i : Nat) (x : BitVec 64) : (s.setCounter i x).cur = s.cur := rfl
@[simp] theorem setCounter_mem (i : Nat) (x : BitVec 64) : (s.setCounter i x).mem = s.mem := rfl
@[simp] theorem setCounter_ue (i : Nat) (x : BitVec 64) : (s.setCounter i x).ue = s.ue := rfl
@[simp] theorem setCounter_acc (i : Nat) (x : BitVec 64) : (s.setCounter i x).acc = s.acc := rfl
@[simp] theorem setCounter_ext (i : Nat) (x : BitVec 64) : (s.setCounter i x).ext = s.ext := rfl
@[simp] theorem setCounter_streams (i : Nat) (x : BitVec 64) : (s.setCounter i x).streams = s.streams := rfl
@[simp] theorem setCounter_teams (i : Nat) (x : BitVec 64) : (s.setCounter i x).teams = s.teams := rfl
@[simp] theorem setCounter_launches (i : Nat) (x : BitVec 64) : (s.setCounter i x).launches = s.launches := rfl
@[simp] theorem setCounter_nlaunch (i : Nat) (x : BitVec 64) : (s.setCounter i x).nlaunch = s.nlaunch := rfl
@[simp] theorem setCounter_nteam (i : Nat) (x : BitVec 64) : (s.setCounter i x).nteam = s.nteam := rfl
@[simp] theorem setCounter_clusters (i : Nat) (x : BitVec 64) : (s.setCounter i x).clusters = s.clusters := rfl
@[simp] theorem setCounter_strm (i : Nat) (x : BitVec 64) : (s.setCounter i x).strm = s.strm := rfl
@[simp] theorem setCounter_ott (i : Nat) (x : BitVec 64) : (s.setCounter i x).ott = s.ott := rfl
@[simp] theorem setCounter_ottGen (i : Nat) (x : BitVec 64) : (s.setCounter i x).ottGen = s.ottGen := rfl
@[simp] theorem setCounter_reqs (i : Nat) (x : BitVec 64) : (s.setCounter i x).reqs = s.reqs := rfl
@[simp] theorem setCounter_wire (i : Nat) (x : BitVec 64) : (s.setCounter i x).wire = s.wire := rfl
@[simp] theorem setCounter_relw (i : Nat) (x : BitVec 64) : (s.setCounter i x).relw = s.relw := rfl
@[simp] theorem setCounter_wlog (i : Nat) (x : BitVec 64) : (s.setCounter i x).wlog = s.wlog := rfl
@[simp] theorem setCounter_past (i : Nat) (x : BitVec 64) : (s.setCounter i x).past = s.past := rfl
@[simp] theorem setCounter_drains (i : Nat) (x : BitVec 64) : (s.setCounter i x).drains = s.drains := rfl
@[simp] theorem setCounter_eops (i : Nat) (x : BitVec 64) : (s.setCounter i x).eops = s.eops := rfl
@[simp] theorem setCounter_neop (i : Nat) (x : BitVec 64) : (s.setCounter i x).neop = s.neop := rfl
@[simp] theorem setCounter_parts (i : Nat) (x : BitVec 64) : (s.setCounter i x).parts = s.parts := rfl
@[simp] theorem setCounter_queues (i : Nat) (x : BitVec 64) : (s.setCounter i x).queues = s.queues := rfl
@[simp] theorem setCounter_aging (i : Nat) (x : BitVec 64) : (s.setCounter i x).aging = s.aging := rfl
@[simp] theorem setCounter_raised (i : Nat) (x : BitVec 64) : (s.setCounter i x).raised = s.raised := rfl
@[simp] theorem setCounter_served (i : Nat) (x : BitVec 64) : (s.setCounter i x).served = s.served := rfl
@[simp] theorem setCounter_psteps (i : Nat) (x : BitVec 64) : (s.setCounter i x).psteps = s.psteps := rfl
@[simp] theorem setCounter_pq (i : Nat) (x : BitVec 64) : (s.setCounter i x).pq = s.pq := rfl
@[simp] theorem setCounter_pwait (i : Nat) (x : BitVec 64) : (s.setCounter i x).pwait = s.pwait := rfl
@[simp] theorem setCounter_pseq (i : Nat) (x : BitVec 64) : (s.setCounter i x).pseq = s.pseq := rfl
@[simp] theorem setCounter_huok (i : Nat) (x : BitVec 64) : (s.setCounter i x).huok = s.huok := rfl
@[simp] theorem setCounter_lowClk (i : Nat) (x : BitVec 64) : (s.setCounter i x).lowClk = s.lowClk := rfl
@[simp] theorem setCounter_power (i : Nat) (x : BitVec 64) : (s.setCounter i x).power = s.power := rfl
@[simp] theorem setCounter_gated (i : Nat) (x : BitVec 64) : (s.setCounter i x).gated = s.gated := rfl
@[simp] theorem setCounter_since (i : Nat) (x : BitVec 64) : (s.setCounter i x).since = s.since := rfl
@[simp] theorem setCounter_groups (i : Nat) (x : BitVec 64) : (s.setCounter i x).groups = s.groups := rfl
@[simp] theorem setCounter_gcopy (i : Nat) (x : BitVec 64) : (s.setCounter i x).gcopy = s.gcopy := rfl
@[simp] theorem setCounter_gseq (i : Nat) (x : BitVec 64) : (s.setCounter i x).gseq = s.gseq := rfl
@[simp] theorem setCounter_sw (i : Nat) (x : BitVec 64) : (s.setCounter i x).sw = s.sw := rfl
@[simp] theorem setCounter_swClosed (i : Nat) (x : BitVec 64) : (s.setCounter i x).swClosed = s.swClosed := rfl
@[simp] theorem setCounter_swLate (i : Nat) (x : BitVec 64) : (s.setCounter i x).swLate = s.swLate := rfl
@[simp] theorem setCounter_fout (i : Nat) (x : BitVec 64) : (s.setCounter i x).fout = s.fout := rfl
@[simp] theorem setCounter_fin (i : Nat) (x : BitVec 64) : (s.setCounter i x).fin = s.fin := rfl
@[simp] theorem setCounter_rx (i : Nat) (x : BitVec 64) : (s.setCounter i x).rx = s.rx := rfl
@[simp] theorem setCounter_gone (i : Nat) (x : BitVec 64) : (s.setCounter i x).gone = s.gone := rfl
@[simp] theorem setCounter_wout (i : Nat) (x : BitVec 64) : (s.setCounter i x).wout = s.wout := rfl
@[simp] theorem setCounter_links (i : Nat) (x : BitVec 64) : (s.setCounter i x).links = s.links := rfl
@[simp] theorem setCounter_absent (i : Nat) (x : BitVec 64) : (s.setCounter i x).absent = s.absent := rfl
@[simp] theorem setCounter_routes (i : Nat) (x : BitVec 64) : (s.setCounter i x).routes = s.routes := rfl
@[simp] theorem setCounter_pktDrop (i : Nat) (x : BitVec 64) : (s.setCounter i x).pktDrop = s.pktDrop := rfl
@[simp] theorem setCounter_msix (i : Nat) (x : BitVec 64) : (s.setCounter i x).msix = s.msix := rfl
@[simp] theorem setCounter_bar0 (i : Nat) (x : BitVec 64) : (s.setCounter i x).bar0 = s.bar0 := rfl
@[simp] theorem setCounter_mrtail (i : Nat) (x : BitVec 64) : (s.setCounter i x).mrtail = s.mrtail := rfl
@[simp] theorem setCounter_mrhead (i : Nat) (x : BitVec 64) : (s.setCounter i x).mrhead = s.mrhead := rfl
@[simp] theorem setCounter_hostrd (i : Nat) (x : BitVec 64) : (s.setCounter i x).hostrd = s.hostrd := rfl
@[simp] theorem setCounter_cfgAns (i : Nat) (x : BitVec 64) : (s.setCounter i x).cfgAns = s.cfgAns := rfl
@[simp] theorem setCounter_bstat (i : Nat) (x : BitVec 64) : (s.setCounter i x).bstat = s.bstat := rfl
@[simp] theorem setCounter_booted (i : Nat) (x : BitVec 64) : (s.setCounter i x).booted = s.booted := rfl
@[simp] theorem setCounter_fuseKey (i : Nat) (x : BitVec 64) : (s.setCounter i x).fuseKey = s.fuseKey := rfl
@[simp] theorem setCounter_fuseVer (i : Nat) (x : BitVec 64) : (s.setCounter i x).fuseVer = s.fuseVer := rfl
@[simp] theorem setCounter_flash (i : Nat) (x : BitVec 64) : (s.setCounter i x).flash = s.flash := rfl
@[simp] theorem setCounter_images (i : Nat) (x : BitVec 64) : (s.setCounter i x).images = s.images := rfl
@[simp] theorem setCounter_pdBusy (i : Nat) (x : BitVec 64) : (s.setCounter i x).pdBusy = s.pdBusy := rfl
@[simp] theorem setCounter_hbeat (i : Nat) (x : BitVec 64) : (s.setCounter i x).hbeat = s.hbeat := rfl
@[simp] theorem setCounter_nvme (i : Nat) (x : BitVec 64) : (s.setCounter i x).nvme = s.nvme := rfl
@[simp] theorem setCounter_grants (i : Nat) (x : BitVec 64) : (s.setCounter i x).grants = s.grants := rfl
@[simp] theorem setCounter_ur (i : Nat) (x : BitVec 64) : (s.setCounter i x).ur = s.ur := rfl
@[simp] theorem setCounter_evst (i : Nat) (x : BitVec 64) : (s.setCounter i x).evst = s.evst := rfl
@[simp] theorem setCounter_evDone (i : Nat) (x : BitVec 64) : (s.setCounter i x).evDone = s.evDone := rfl
@[simp] theorem setCounter_evStart (i : Nat) (x : BitVec 64) : (s.setCounter i x).evStart = s.evStart := rfl
@[simp] theorem setCounter_ejectN (i : Nat) (x : BitVec 64) : (s.setCounter i x).ejectN = s.ejectN := rfl
@[simp] theorem setCounter_fru (i : Nat) (x : BitVec 64) : (s.setCounter i x).fru = s.fru := rfl
@[simp] theorem setCounter_fruLog (i : Nat) (x : BitVec 64) : (s.setCounter i x).fruLog = s.fruLog := rfl
@[simp] theorem setCounter_repl (i : Nat) (x : BitVec 64) : (s.setCounter i x).repl = s.repl := rfl
@[simp] theorem setCounter_nret (i : Nat) (x : BitVec 64) : (s.setCounter i x).nret = s.nret := rfl

@[simp] theorem writeMem_clock (i : Nat) (x : List Byte) : (s.writeMem i x).clock = s.clock := rfl
@[simp] theorem writeMem_fresh (i : Nat) (x : List Byte) : (s.writeMem i x).fresh = s.fresh := rfl
@[simp] theorem writeMem_agenda (i : Nat) (x : List Byte) : (s.writeMem i x).agenda = s.agenda := rfl
@[simp] theorem writeMem_cur (i : Nat) (x : List Byte) : (s.writeMem i x).cur = s.cur := rfl
@[simp] theorem writeMem_ue (i : Nat) (x : List Byte) : (s.writeMem i x).ue = s.ue := rfl
@[simp] theorem writeMem_acc (i : Nat) (x : List Byte) : (s.writeMem i x).acc = s.acc := rfl
@[simp] theorem writeMem_ext (i : Nat) (x : List Byte) : (s.writeMem i x).ext = s.ext := rfl
@[simp] theorem writeMem_streams (i : Nat) (x : List Byte) : (s.writeMem i x).streams = s.streams := rfl
@[simp] theorem writeMem_teams (i : Nat) (x : List Byte) : (s.writeMem i x).teams = s.teams := rfl
@[simp] theorem writeMem_launches (i : Nat) (x : List Byte) : (s.writeMem i x).launches = s.launches := rfl
@[simp] theorem writeMem_nlaunch (i : Nat) (x : List Byte) : (s.writeMem i x).nlaunch = s.nlaunch := rfl
@[simp] theorem writeMem_nteam (i : Nat) (x : List Byte) : (s.writeMem i x).nteam = s.nteam := rfl
@[simp] theorem writeMem_clusters (i : Nat) (x : List Byte) : (s.writeMem i x).clusters = s.clusters := rfl
@[simp] theorem writeMem_strm (i : Nat) (x : List Byte) : (s.writeMem i x).strm = s.strm := rfl
@[simp] theorem writeMem_ott (i : Nat) (x : List Byte) : (s.writeMem i x).ott = s.ott := rfl
@[simp] theorem writeMem_ottGen (i : Nat) (x : List Byte) : (s.writeMem i x).ottGen = s.ottGen := rfl
@[simp] theorem writeMem_reqs (i : Nat) (x : List Byte) : (s.writeMem i x).reqs = s.reqs := rfl
@[simp] theorem writeMem_wire (i : Nat) (x : List Byte) : (s.writeMem i x).wire = s.wire := rfl
@[simp] theorem writeMem_relw (i : Nat) (x : List Byte) : (s.writeMem i x).relw = s.relw := rfl
@[simp] theorem writeMem_wlog (i : Nat) (x : List Byte) : (s.writeMem i x).wlog = s.wlog := rfl
@[simp] theorem writeMem_past (i : Nat) (x : List Byte) : (s.writeMem i x).past = s.past := rfl
@[simp] theorem writeMem_drains (i : Nat) (x : List Byte) : (s.writeMem i x).drains = s.drains := rfl
@[simp] theorem writeMem_eops (i : Nat) (x : List Byte) : (s.writeMem i x).eops = s.eops := rfl
@[simp] theorem writeMem_neop (i : Nat) (x : List Byte) : (s.writeMem i x).neop = s.neop := rfl
@[simp] theorem writeMem_parts (i : Nat) (x : List Byte) : (s.writeMem i x).parts = s.parts := rfl
@[simp] theorem writeMem_ctr (i : Nat) (x : List Byte) : (s.writeMem i x).ctr = s.ctr := rfl
@[simp] theorem writeMem_queues (i : Nat) (x : List Byte) : (s.writeMem i x).queues = s.queues := rfl
@[simp] theorem writeMem_aging (i : Nat) (x : List Byte) : (s.writeMem i x).aging = s.aging := rfl
@[simp] theorem writeMem_raised (i : Nat) (x : List Byte) : (s.writeMem i x).raised = s.raised := rfl
@[simp] theorem writeMem_served (i : Nat) (x : List Byte) : (s.writeMem i x).served = s.served := rfl
@[simp] theorem writeMem_psteps (i : Nat) (x : List Byte) : (s.writeMem i x).psteps = s.psteps := rfl
@[simp] theorem writeMem_pq (i : Nat) (x : List Byte) : (s.writeMem i x).pq = s.pq := rfl
@[simp] theorem writeMem_pwait (i : Nat) (x : List Byte) : (s.writeMem i x).pwait = s.pwait := rfl
@[simp] theorem writeMem_pseq (i : Nat) (x : List Byte) : (s.writeMem i x).pseq = s.pseq := rfl
@[simp] theorem writeMem_huok (i : Nat) (x : List Byte) : (s.writeMem i x).huok = s.huok := rfl
@[simp] theorem writeMem_lowClk (i : Nat) (x : List Byte) : (s.writeMem i x).lowClk = s.lowClk := rfl
@[simp] theorem writeMem_power (i : Nat) (x : List Byte) : (s.writeMem i x).power = s.power := rfl
@[simp] theorem writeMem_gated (i : Nat) (x : List Byte) : (s.writeMem i x).gated = s.gated := rfl
@[simp] theorem writeMem_since (i : Nat) (x : List Byte) : (s.writeMem i x).since = s.since := rfl
@[simp] theorem writeMem_groups (i : Nat) (x : List Byte) : (s.writeMem i x).groups = s.groups := rfl
@[simp] theorem writeMem_gcopy (i : Nat) (x : List Byte) : (s.writeMem i x).gcopy = s.gcopy := rfl
@[simp] theorem writeMem_gseq (i : Nat) (x : List Byte) : (s.writeMem i x).gseq = s.gseq := rfl
@[simp] theorem writeMem_sw (i : Nat) (x : List Byte) : (s.writeMem i x).sw = s.sw := rfl
@[simp] theorem writeMem_swClosed (i : Nat) (x : List Byte) : (s.writeMem i x).swClosed = s.swClosed := rfl
@[simp] theorem writeMem_swLate (i : Nat) (x : List Byte) : (s.writeMem i x).swLate = s.swLate := rfl
@[simp] theorem writeMem_fout (i : Nat) (x : List Byte) : (s.writeMem i x).fout = s.fout := rfl
@[simp] theorem writeMem_fin (i : Nat) (x : List Byte) : (s.writeMem i x).fin = s.fin := rfl
@[simp] theorem writeMem_rx (i : Nat) (x : List Byte) : (s.writeMem i x).rx = s.rx := rfl
@[simp] theorem writeMem_gone (i : Nat) (x : List Byte) : (s.writeMem i x).gone = s.gone := rfl
@[simp] theorem writeMem_wout (i : Nat) (x : List Byte) : (s.writeMem i x).wout = s.wout := rfl
@[simp] theorem writeMem_links (i : Nat) (x : List Byte) : (s.writeMem i x).links = s.links := rfl
@[simp] theorem writeMem_absent (i : Nat) (x : List Byte) : (s.writeMem i x).absent = s.absent := rfl
@[simp] theorem writeMem_routes (i : Nat) (x : List Byte) : (s.writeMem i x).routes = s.routes := rfl
@[simp] theorem writeMem_pktDrop (i : Nat) (x : List Byte) : (s.writeMem i x).pktDrop = s.pktDrop := rfl
@[simp] theorem writeMem_msix (i : Nat) (x : List Byte) : (s.writeMem i x).msix = s.msix := rfl
@[simp] theorem writeMem_bar0 (i : Nat) (x : List Byte) : (s.writeMem i x).bar0 = s.bar0 := rfl
@[simp] theorem writeMem_mrtail (i : Nat) (x : List Byte) : (s.writeMem i x).mrtail = s.mrtail := rfl
@[simp] theorem writeMem_mrhead (i : Nat) (x : List Byte) : (s.writeMem i x).mrhead = s.mrhead := rfl
@[simp] theorem writeMem_hostrd (i : Nat) (x : List Byte) : (s.writeMem i x).hostrd = s.hostrd := rfl
@[simp] theorem writeMem_cfgAns (i : Nat) (x : List Byte) : (s.writeMem i x).cfgAns = s.cfgAns := rfl
@[simp] theorem writeMem_bstat (i : Nat) (x : List Byte) : (s.writeMem i x).bstat = s.bstat := rfl
@[simp] theorem writeMem_booted (i : Nat) (x : List Byte) : (s.writeMem i x).booted = s.booted := rfl
@[simp] theorem writeMem_fuseKey (i : Nat) (x : List Byte) : (s.writeMem i x).fuseKey = s.fuseKey := rfl
@[simp] theorem writeMem_fuseVer (i : Nat) (x : List Byte) : (s.writeMem i x).fuseVer = s.fuseVer := rfl
@[simp] theorem writeMem_flash (i : Nat) (x : List Byte) : (s.writeMem i x).flash = s.flash := rfl
@[simp] theorem writeMem_images (i : Nat) (x : List Byte) : (s.writeMem i x).images = s.images := rfl
@[simp] theorem writeMem_pdBusy (i : Nat) (x : List Byte) : (s.writeMem i x).pdBusy = s.pdBusy := rfl
@[simp] theorem writeMem_hbeat (i : Nat) (x : List Byte) : (s.writeMem i x).hbeat = s.hbeat := rfl
@[simp] theorem writeMem_nvme (i : Nat) (x : List Byte) : (s.writeMem i x).nvme = s.nvme := rfl
@[simp] theorem writeMem_grants (i : Nat) (x : List Byte) : (s.writeMem i x).grants = s.grants := rfl
@[simp] theorem writeMem_ur (i : Nat) (x : List Byte) : (s.writeMem i x).ur = s.ur := rfl
@[simp] theorem writeMem_evst (i : Nat) (x : List Byte) : (s.writeMem i x).evst = s.evst := rfl
@[simp] theorem writeMem_evDone (i : Nat) (x : List Byte) : (s.writeMem i x).evDone = s.evDone := rfl
@[simp] theorem writeMem_evStart (i : Nat) (x : List Byte) : (s.writeMem i x).evStart = s.evStart := rfl
@[simp] theorem writeMem_ejectN (i : Nat) (x : List Byte) : (s.writeMem i x).ejectN = s.ejectN := rfl
@[simp] theorem writeMem_fru (i : Nat) (x : List Byte) : (s.writeMem i x).fru = s.fru := rfl
@[simp] theorem writeMem_fruLog (i : Nat) (x : List Byte) : (s.writeMem i x).fruLog = s.fruLog := rfl
@[simp] theorem writeMem_repl (i : Nat) (x : List Byte) : (s.writeMem i x).repl = s.repl := rfl
@[simp] theorem writeMem_nret (i : Nat) (x : List Byte) : (s.writeMem i x).nret = s.nret := rfl

@[simp] theorem raiseMsix_clock (v : Nat) : (s.raiseMsix v).clock = s.clock := rfl
@[simp] theorem raiseMsix_fresh (v : Nat) : (s.raiseMsix v).fresh = s.fresh := rfl
@[simp] theorem raiseMsix_agenda (v : Nat) : (s.raiseMsix v).agenda = s.agenda := rfl
@[simp] theorem raiseMsix_cur (v : Nat) : (s.raiseMsix v).cur = s.cur := rfl
@[simp] theorem raiseMsix_mem (v : Nat) : (s.raiseMsix v).mem = s.mem := rfl
@[simp] theorem raiseMsix_ue (v : Nat) : (s.raiseMsix v).ue = s.ue := rfl
@[simp] theorem raiseMsix_acc (v : Nat) : (s.raiseMsix v).acc = s.acc := rfl
@[simp] theorem raiseMsix_ext (v : Nat) : (s.raiseMsix v).ext = s.ext := rfl
@[simp] theorem raiseMsix_streams (v : Nat) : (s.raiseMsix v).streams = s.streams := rfl
@[simp] theorem raiseMsix_teams (v : Nat) : (s.raiseMsix v).teams = s.teams := rfl
@[simp] theorem raiseMsix_launches (v : Nat) : (s.raiseMsix v).launches = s.launches := rfl
@[simp] theorem raiseMsix_nlaunch (v : Nat) : (s.raiseMsix v).nlaunch = s.nlaunch := rfl
@[simp] theorem raiseMsix_nteam (v : Nat) : (s.raiseMsix v).nteam = s.nteam := rfl
@[simp] theorem raiseMsix_clusters (v : Nat) : (s.raiseMsix v).clusters = s.clusters := rfl
@[simp] theorem raiseMsix_strm (v : Nat) : (s.raiseMsix v).strm = s.strm := rfl
@[simp] theorem raiseMsix_ott (v : Nat) : (s.raiseMsix v).ott = s.ott := rfl
@[simp] theorem raiseMsix_ottGen (v : Nat) : (s.raiseMsix v).ottGen = s.ottGen := rfl
@[simp] theorem raiseMsix_reqs (v : Nat) : (s.raiseMsix v).reqs = s.reqs := rfl
@[simp] theorem raiseMsix_wire (v : Nat) : (s.raiseMsix v).wire = s.wire := rfl
@[simp] theorem raiseMsix_relw (v : Nat) : (s.raiseMsix v).relw = s.relw := rfl
@[simp] theorem raiseMsix_wlog (v : Nat) : (s.raiseMsix v).wlog = s.wlog := rfl
@[simp] theorem raiseMsix_past (v : Nat) : (s.raiseMsix v).past = s.past := rfl
@[simp] theorem raiseMsix_drains (v : Nat) : (s.raiseMsix v).drains = s.drains := rfl
@[simp] theorem raiseMsix_eops (v : Nat) : (s.raiseMsix v).eops = s.eops := rfl
@[simp] theorem raiseMsix_neop (v : Nat) : (s.raiseMsix v).neop = s.neop := rfl
@[simp] theorem raiseMsix_parts (v : Nat) : (s.raiseMsix v).parts = s.parts := rfl
@[simp] theorem raiseMsix_ctr (v : Nat) : (s.raiseMsix v).ctr = s.ctr := rfl
@[simp] theorem raiseMsix_queues (v : Nat) : (s.raiseMsix v).queues = s.queues := rfl
@[simp] theorem raiseMsix_aging (v : Nat) : (s.raiseMsix v).aging = s.aging := rfl
@[simp] theorem raiseMsix_raised (v : Nat) : (s.raiseMsix v).raised = s.raised := rfl
@[simp] theorem raiseMsix_served (v : Nat) : (s.raiseMsix v).served = s.served := rfl
@[simp] theorem raiseMsix_psteps (v : Nat) : (s.raiseMsix v).psteps = s.psteps := rfl
@[simp] theorem raiseMsix_pq (v : Nat) : (s.raiseMsix v).pq = s.pq := rfl
@[simp] theorem raiseMsix_pwait (v : Nat) : (s.raiseMsix v).pwait = s.pwait := rfl
@[simp] theorem raiseMsix_pseq (v : Nat) : (s.raiseMsix v).pseq = s.pseq := rfl
@[simp] theorem raiseMsix_huok (v : Nat) : (s.raiseMsix v).huok = s.huok := rfl
@[simp] theorem raiseMsix_lowClk (v : Nat) : (s.raiseMsix v).lowClk = s.lowClk := rfl
@[simp] theorem raiseMsix_power (v : Nat) : (s.raiseMsix v).power = s.power := rfl
@[simp] theorem raiseMsix_gated (v : Nat) : (s.raiseMsix v).gated = s.gated := rfl
@[simp] theorem raiseMsix_since (v : Nat) : (s.raiseMsix v).since = s.since := rfl
@[simp] theorem raiseMsix_groups (v : Nat) : (s.raiseMsix v).groups = s.groups := rfl
@[simp] theorem raiseMsix_gcopy (v : Nat) : (s.raiseMsix v).gcopy = s.gcopy := rfl
@[simp] theorem raiseMsix_gseq (v : Nat) : (s.raiseMsix v).gseq = s.gseq := rfl
@[simp] theorem raiseMsix_sw (v : Nat) : (s.raiseMsix v).sw = s.sw := rfl
@[simp] theorem raiseMsix_swClosed (v : Nat) : (s.raiseMsix v).swClosed = s.swClosed := rfl
@[simp] theorem raiseMsix_swLate (v : Nat) : (s.raiseMsix v).swLate = s.swLate := rfl
@[simp] theorem raiseMsix_fout (v : Nat) : (s.raiseMsix v).fout = s.fout := rfl
@[simp] theorem raiseMsix_fin (v : Nat) : (s.raiseMsix v).fin = s.fin := rfl
@[simp] theorem raiseMsix_rx (v : Nat) : (s.raiseMsix v).rx = s.rx := rfl
@[simp] theorem raiseMsix_gone (v : Nat) : (s.raiseMsix v).gone = s.gone := rfl
@[simp] theorem raiseMsix_wout (v : Nat) : (s.raiseMsix v).wout = s.wout := rfl
@[simp] theorem raiseMsix_links (v : Nat) : (s.raiseMsix v).links = s.links := rfl
@[simp] theorem raiseMsix_absent (v : Nat) : (s.raiseMsix v).absent = s.absent := rfl
@[simp] theorem raiseMsix_routes (v : Nat) : (s.raiseMsix v).routes = s.routes := rfl
@[simp] theorem raiseMsix_pktDrop (v : Nat) : (s.raiseMsix v).pktDrop = s.pktDrop := rfl
@[simp] theorem raiseMsix_bar0 (v : Nat) : (s.raiseMsix v).bar0 = s.bar0 := rfl
@[simp] theorem raiseMsix_mrtail (v : Nat) : (s.raiseMsix v).mrtail = s.mrtail := rfl
@[simp] theorem raiseMsix_mrhead (v : Nat) : (s.raiseMsix v).mrhead = s.mrhead := rfl
@[simp] theorem raiseMsix_hostrd (v : Nat) : (s.raiseMsix v).hostrd = s.hostrd := rfl
@[simp] theorem raiseMsix_cfgAns (v : Nat) : (s.raiseMsix v).cfgAns = s.cfgAns := rfl
@[simp] theorem raiseMsix_bstat (v : Nat) : (s.raiseMsix v).bstat = s.bstat := rfl
@[simp] theorem raiseMsix_booted (v : Nat) : (s.raiseMsix v).booted = s.booted := rfl
@[simp] theorem raiseMsix_fuseKey (v : Nat) : (s.raiseMsix v).fuseKey = s.fuseKey := rfl
@[simp] theorem raiseMsix_fuseVer (v : Nat) : (s.raiseMsix v).fuseVer = s.fuseVer := rfl
@[simp] theorem raiseMsix_flash (v : Nat) : (s.raiseMsix v).flash = s.flash := rfl
@[simp] theorem raiseMsix_images (v : Nat) : (s.raiseMsix v).images = s.images := rfl
@[simp] theorem raiseMsix_pdBusy (v : Nat) : (s.raiseMsix v).pdBusy = s.pdBusy := rfl
@[simp] theorem raiseMsix_hbeat (v : Nat) : (s.raiseMsix v).hbeat = s.hbeat := rfl
@[simp] theorem raiseMsix_nvme (v : Nat) : (s.raiseMsix v).nvme = s.nvme := rfl
@[simp] theorem raiseMsix_grants (v : Nat) : (s.raiseMsix v).grants = s.grants := rfl
@[simp] theorem raiseMsix_ur (v : Nat) : (s.raiseMsix v).ur = s.ur := rfl
@[simp] theorem raiseMsix_evst (v : Nat) : (s.raiseMsix v).evst = s.evst := rfl
@[simp] theorem raiseMsix_evDone (v : Nat) : (s.raiseMsix v).evDone = s.evDone := rfl
@[simp] theorem raiseMsix_evStart (v : Nat) : (s.raiseMsix v).evStart = s.evStart := rfl
@[simp] theorem raiseMsix_ejectN (v : Nat) : (s.raiseMsix v).ejectN = s.ejectN := rfl
@[simp] theorem raiseMsix_fru (v : Nat) : (s.raiseMsix v).fru = s.fru := rfl
@[simp] theorem raiseMsix_fruLog (v : Nat) : (s.raiseMsix v).fruLog = s.fruLog := rfl
@[simp] theorem raiseMsix_repl (v : Nat) : (s.raiseMsix v).repl = s.repl := rfl
@[simp] theorem raiseMsix_nret (v : Nat) : (s.raiseMsix v).nret = s.nret := rfl

@[simp] theorem onWire_clock (ps : List DiePacket) : (s.onWire ps).clock = s.clock := rfl
@[simp] theorem onWire_fresh (ps : List DiePacket) : (s.onWire ps).fresh = s.fresh := rfl
@[simp] theorem onWire_agenda (ps : List DiePacket) : (s.onWire ps).agenda = s.agenda := rfl
@[simp] theorem onWire_cur (ps : List DiePacket) : (s.onWire ps).cur = s.cur := rfl
@[simp] theorem onWire_mem (ps : List DiePacket) : (s.onWire ps).mem = s.mem := rfl
@[simp] theorem onWire_ue (ps : List DiePacket) : (s.onWire ps).ue = s.ue := rfl
@[simp] theorem onWire_acc (ps : List DiePacket) : (s.onWire ps).acc = s.acc := rfl
@[simp] theorem onWire_ext (ps : List DiePacket) : (s.onWire ps).ext = s.ext := rfl
@[simp] theorem onWire_streams (ps : List DiePacket) : (s.onWire ps).streams = s.streams := rfl
@[simp] theorem onWire_teams (ps : List DiePacket) : (s.onWire ps).teams = s.teams := rfl
@[simp] theorem onWire_launches (ps : List DiePacket) : (s.onWire ps).launches = s.launches := rfl
@[simp] theorem onWire_nlaunch (ps : List DiePacket) : (s.onWire ps).nlaunch = s.nlaunch := rfl
@[simp] theorem onWire_nteam (ps : List DiePacket) : (s.onWire ps).nteam = s.nteam := rfl
@[simp] theorem onWire_clusters (ps : List DiePacket) : (s.onWire ps).clusters = s.clusters := rfl
@[simp] theorem onWire_strm (ps : List DiePacket) : (s.onWire ps).strm = s.strm := rfl
@[simp] theorem onWire_ott (ps : List DiePacket) : (s.onWire ps).ott = s.ott := rfl
@[simp] theorem onWire_ottGen (ps : List DiePacket) : (s.onWire ps).ottGen = s.ottGen := rfl
@[simp] theorem onWire_reqs (ps : List DiePacket) : (s.onWire ps).reqs = s.reqs := rfl
@[simp] theorem onWire_relw (ps : List DiePacket) : (s.onWire ps).relw = s.relw := rfl
@[simp] theorem onWire_wlog (ps : List DiePacket) : (s.onWire ps).wlog = s.wlog := rfl
@[simp] theorem onWire_past (ps : List DiePacket) : (s.onWire ps).past = s.past := rfl
@[simp] theorem onWire_drains (ps : List DiePacket) : (s.onWire ps).drains = s.drains := rfl
@[simp] theorem onWire_eops (ps : List DiePacket) : (s.onWire ps).eops = s.eops := rfl
@[simp] theorem onWire_neop (ps : List DiePacket) : (s.onWire ps).neop = s.neop := rfl
@[simp] theorem onWire_parts (ps : List DiePacket) : (s.onWire ps).parts = s.parts := rfl
@[simp] theorem onWire_ctr (ps : List DiePacket) : (s.onWire ps).ctr = s.ctr := rfl
@[simp] theorem onWire_queues (ps : List DiePacket) : (s.onWire ps).queues = s.queues := rfl
@[simp] theorem onWire_aging (ps : List DiePacket) : (s.onWire ps).aging = s.aging := rfl
@[simp] theorem onWire_raised (ps : List DiePacket) : (s.onWire ps).raised = s.raised := rfl
@[simp] theorem onWire_served (ps : List DiePacket) : (s.onWire ps).served = s.served := rfl
@[simp] theorem onWire_psteps (ps : List DiePacket) : (s.onWire ps).psteps = s.psteps := rfl
@[simp] theorem onWire_pq (ps : List DiePacket) : (s.onWire ps).pq = s.pq := rfl
@[simp] theorem onWire_pwait (ps : List DiePacket) : (s.onWire ps).pwait = s.pwait := rfl
@[simp] theorem onWire_pseq (ps : List DiePacket) : (s.onWire ps).pseq = s.pseq := rfl
@[simp] theorem onWire_huok (ps : List DiePacket) : (s.onWire ps).huok = s.huok := rfl
@[simp] theorem onWire_lowClk (ps : List DiePacket) : (s.onWire ps).lowClk = s.lowClk := rfl
@[simp] theorem onWire_power (ps : List DiePacket) : (s.onWire ps).power = s.power := rfl
@[simp] theorem onWire_gated (ps : List DiePacket) : (s.onWire ps).gated = s.gated := rfl
@[simp] theorem onWire_since (ps : List DiePacket) : (s.onWire ps).since = s.since := rfl
@[simp] theorem onWire_groups (ps : List DiePacket) : (s.onWire ps).groups = s.groups := rfl
@[simp] theorem onWire_gcopy (ps : List DiePacket) : (s.onWire ps).gcopy = s.gcopy := rfl
@[simp] theorem onWire_gseq (ps : List DiePacket) : (s.onWire ps).gseq = s.gseq := rfl
@[simp] theorem onWire_sw (ps : List DiePacket) : (s.onWire ps).sw = s.sw := rfl
@[simp] theorem onWire_swClosed (ps : List DiePacket) : (s.onWire ps).swClosed = s.swClosed := rfl
@[simp] theorem onWire_swLate (ps : List DiePacket) : (s.onWire ps).swLate = s.swLate := rfl
@[simp] theorem onWire_fout (ps : List DiePacket) : (s.onWire ps).fout = s.fout := rfl
@[simp] theorem onWire_fin (ps : List DiePacket) : (s.onWire ps).fin = s.fin := rfl
@[simp] theorem onWire_rx (ps : List DiePacket) : (s.onWire ps).rx = s.rx := rfl
@[simp] theorem onWire_gone (ps : List DiePacket) : (s.onWire ps).gone = s.gone := rfl
@[simp] theorem onWire_wout (ps : List DiePacket) : (s.onWire ps).wout = s.wout := rfl
@[simp] theorem onWire_links (ps : List DiePacket) : (s.onWire ps).links = s.links := rfl
@[simp] theorem onWire_absent (ps : List DiePacket) : (s.onWire ps).absent = s.absent := rfl
@[simp] theorem onWire_routes (ps : List DiePacket) : (s.onWire ps).routes = s.routes := rfl
@[simp] theorem onWire_pktDrop (ps : List DiePacket) : (s.onWire ps).pktDrop = s.pktDrop := rfl
@[simp] theorem onWire_msix (ps : List DiePacket) : (s.onWire ps).msix = s.msix := rfl
@[simp] theorem onWire_bar0 (ps : List DiePacket) : (s.onWire ps).bar0 = s.bar0 := rfl
@[simp] theorem onWire_mrtail (ps : List DiePacket) : (s.onWire ps).mrtail = s.mrtail := rfl
@[simp] theorem onWire_mrhead (ps : List DiePacket) : (s.onWire ps).mrhead = s.mrhead := rfl
@[simp] theorem onWire_hostrd (ps : List DiePacket) : (s.onWire ps).hostrd = s.hostrd := rfl
@[simp] theorem onWire_cfgAns (ps : List DiePacket) : (s.onWire ps).cfgAns = s.cfgAns := rfl
@[simp] theorem onWire_bstat (ps : List DiePacket) : (s.onWire ps).bstat = s.bstat := rfl
@[simp] theorem onWire_booted (ps : List DiePacket) : (s.onWire ps).booted = s.booted := rfl
@[simp] theorem onWire_fuseKey (ps : List DiePacket) : (s.onWire ps).fuseKey = s.fuseKey := rfl
@[simp] theorem onWire_fuseVer (ps : List DiePacket) : (s.onWire ps).fuseVer = s.fuseVer := rfl
@[simp] theorem onWire_flash (ps : List DiePacket) : (s.onWire ps).flash = s.flash := rfl
@[simp] theorem onWire_images (ps : List DiePacket) : (s.onWire ps).images = s.images := rfl
@[simp] theorem onWire_pdBusy (ps : List DiePacket) : (s.onWire ps).pdBusy = s.pdBusy := rfl
@[simp] theorem onWire_hbeat (ps : List DiePacket) : (s.onWire ps).hbeat = s.hbeat := rfl
@[simp] theorem onWire_nvme (ps : List DiePacket) : (s.onWire ps).nvme = s.nvme := rfl
@[simp] theorem onWire_grants (ps : List DiePacket) : (s.onWire ps).grants = s.grants := rfl
@[simp] theorem onWire_ur (ps : List DiePacket) : (s.onWire ps).ur = s.ur := rfl
@[simp] theorem onWire_evst (ps : List DiePacket) : (s.onWire ps).evst = s.evst := rfl
@[simp] theorem onWire_evDone (ps : List DiePacket) : (s.onWire ps).evDone = s.evDone := rfl
@[simp] theorem onWire_evStart (ps : List DiePacket) : (s.onWire ps).evStart = s.evStart := rfl
@[simp] theorem onWire_ejectN (ps : List DiePacket) : (s.onWire ps).ejectN = s.ejectN := rfl
@[simp] theorem onWire_fru (ps : List DiePacket) : (s.onWire ps).fru = s.fru := rfl
@[simp] theorem onWire_fruLog (ps : List DiePacket) : (s.onWire ps).fruLog = s.fruLog := rfl
@[simp] theorem onWire_repl (ps : List DiePacket) : (s.onWire ps).repl = s.repl := rfl
@[simp] theorem onWire_nret (ps : List DiePacket) : (s.onWire ps).nret = s.nret := rfl

theorem modStream_cases (i : Nat) (f : Stream → Stream) :
    s.modStream i f = s ∨ ∃ t, s.stream? i = some t ∧ s.modStream i f = s.setStream i (f t) := by
  unfold modStream
  cases h : s.stream? i with
  | none => exact .inl rfl
  | some t => exact .inr ⟨t, rfl, rfl⟩

@[simp] theorem modStream_clock (i : Nat) (f : Stream → Stream) : (s.modStream i f).clock = s.clock := by
  unfold modStream; cases s.stream? i <;> rfl
@[simp] theorem modStream_fresh (i : Nat) (f : Stream → Stream) : (s.modStream i f).fresh = s.fresh := by
  unfold modStream; cases s.stream? i <;> rfl
@[simp] theorem modStream_agenda (i : Nat) (f : Stream → Stream) : (s.modStream i f).agenda = s.agenda := by
  unfold modStream; cases s.stream? i <;> rfl
@[simp] theorem modStream_cur (i : Nat) (f : Stream → Stream) : (s.modStream i f).cur = s.cur := by
  unfold modStream; cases s.stream? i <;> rfl
@[simp] theorem modStream_mem (i : Nat) (f : Stream → Stream) : (s.modStream i f).mem = s.mem := by
  unfold modStream; cases s.stream? i <;> rfl
@[simp] theorem modStream_ue (i : Nat) (f : Stream → Stream) : (s.modStream i f).ue = s.ue := by
  unfold modStream; cases s.stream? i <;> rfl
@[simp] theorem modStream_acc (i : Nat) (f : Stream → Stream) : (s.modStream i f).acc = s.acc := by
  unfold modStream; cases s.stream? i <;> rfl
@[simp] theorem modStream_ext (i : Nat) (f : Stream → Stream) : (s.modStream i f).ext = s.ext := by
  unfold modStream; cases s.stream? i <;> rfl
@[simp] theorem modStream_teams (i : Nat) (f : Stream → Stream) : (s.modStream i f).teams = s.teams := by
  unfold modStream; cases s.stream? i <;> rfl
@[simp] theorem modStream_launches (i : Nat) (f : Stream → Stream) : (s.modStream i f).launches = s.launches := by
  unfold modStream; cases s.stream? i <;> rfl
@[simp] theorem modStream_nlaunch (i : Nat) (f : Stream → Stream) : (s.modStream i f).nlaunch = s.nlaunch := by
  unfold modStream; cases s.stream? i <;> rfl
@[simp] theorem modStream_nteam (i : Nat) (f : Stream → Stream) : (s.modStream i f).nteam = s.nteam := by
  unfold modStream; cases s.stream? i <;> rfl
@[simp] theorem modStream_clusters (i : Nat) (f : Stream → Stream) : (s.modStream i f).clusters = s.clusters := by
  unfold modStream; cases s.stream? i <;> rfl
@[simp] theorem modStream_strm (i : Nat) (f : Stream → Stream) : (s.modStream i f).strm = s.strm := by
  unfold modStream; cases s.stream? i <;> rfl
@[simp] theorem modStream_ott (i : Nat) (f : Stream → Stream) : (s.modStream i f).ott = s.ott := by
  unfold modStream; cases s.stream? i <;> rfl
@[simp] theorem modStream_ottGen (i : Nat) (f : Stream → Stream) : (s.modStream i f).ottGen = s.ottGen := by
  unfold modStream; cases s.stream? i <;> rfl
@[simp] theorem modStream_reqs (i : Nat) (f : Stream → Stream) : (s.modStream i f).reqs = s.reqs := by
  unfold modStream; cases s.stream? i <;> rfl
@[simp] theorem modStream_wire (i : Nat) (f : Stream → Stream) : (s.modStream i f).wire = s.wire := by
  unfold modStream; cases s.stream? i <;> rfl
@[simp] theorem modStream_relw (i : Nat) (f : Stream → Stream) : (s.modStream i f).relw = s.relw := by
  unfold modStream; cases s.stream? i <;> rfl
@[simp] theorem modStream_wlog (i : Nat) (f : Stream → Stream) : (s.modStream i f).wlog = s.wlog := by
  unfold modStream; cases s.stream? i <;> rfl
@[simp] theorem modStream_past (i : Nat) (f : Stream → Stream) : (s.modStream i f).past = s.past := by
  unfold modStream; cases s.stream? i <;> rfl
@[simp] theorem modStream_drains (i : Nat) (f : Stream → Stream) : (s.modStream i f).drains = s.drains := by
  unfold modStream; cases s.stream? i <;> rfl
@[simp] theorem modStream_eops (i : Nat) (f : Stream → Stream) : (s.modStream i f).eops = s.eops := by
  unfold modStream; cases s.stream? i <;> rfl
@[simp] theorem modStream_neop (i : Nat) (f : Stream → Stream) : (s.modStream i f).neop = s.neop := by
  unfold modStream; cases s.stream? i <;> rfl
@[simp] theorem modStream_parts (i : Nat) (f : Stream → Stream) : (s.modStream i f).parts = s.parts := by
  unfold modStream; cases s.stream? i <;> rfl
@[simp] theorem modStream_ctr (i : Nat) (f : Stream → Stream) : (s.modStream i f).ctr = s.ctr := by
  unfold modStream; cases s.stream? i <;> rfl
@[simp] theorem modStream_queues (i : Nat) (f : Stream → Stream) : (s.modStream i f).queues = s.queues := by
  unfold modStream; cases s.stream? i <;> rfl
@[simp] theorem modStream_aging (i : Nat) (f : Stream → Stream) : (s.modStream i f).aging = s.aging := by
  unfold modStream; cases s.stream? i <;> rfl
@[simp] theorem modStream_raised (i : Nat) (f : Stream → Stream) : (s.modStream i f).raised = s.raised := by
  unfold modStream; cases s.stream? i <;> rfl
@[simp] theorem modStream_served (i : Nat) (f : Stream → Stream) : (s.modStream i f).served = s.served := by
  unfold modStream; cases s.stream? i <;> rfl
@[simp] theorem modStream_psteps (i : Nat) (f : Stream → Stream) : (s.modStream i f).psteps = s.psteps := by
  unfold modStream; cases s.stream? i <;> rfl
@[simp] theorem modStream_pq (i : Nat) (f : Stream → Stream) : (s.modStream i f).pq = s.pq := by
  unfold modStream; cases s.stream? i <;> rfl
@[simp] theorem modStream_pwait (i : Nat) (f : Stream → Stream) : (s.modStream i f).pwait = s.pwait := by
  unfold modStream; cases s.stream? i <;> rfl
@[simp] theorem modStream_pseq (i : Nat) (f : Stream → Stream) : (s.modStream i f).pseq = s.pseq := by
  unfold modStream; cases s.stream? i <;> rfl
@[simp] theorem modStream_huok (i : Nat) (f : Stream → Stream) : (s.modStream i f).huok = s.huok := by
  unfold modStream; cases s.stream? i <;> rfl
@[simp] theorem modStream_lowClk (i : Nat) (f : Stream → Stream) : (s.modStream i f).lowClk = s.lowClk := by
  unfold modStream; cases s.stream? i <;> rfl
@[simp] theorem modStream_power (i : Nat) (f : Stream → Stream) : (s.modStream i f).power = s.power := by
  unfold modStream; cases s.stream? i <;> rfl
@[simp] theorem modStream_gated (i : Nat) (f : Stream → Stream) : (s.modStream i f).gated = s.gated := by
  unfold modStream; cases s.stream? i <;> rfl
@[simp] theorem modStream_since (i : Nat) (f : Stream → Stream) : (s.modStream i f).since = s.since := by
  unfold modStream; cases s.stream? i <;> rfl
@[simp] theorem modStream_groups (i : Nat) (f : Stream → Stream) : (s.modStream i f).groups = s.groups := by
  unfold modStream; cases s.stream? i <;> rfl
@[simp] theorem modStream_gcopy (i : Nat) (f : Stream → Stream) : (s.modStream i f).gcopy = s.gcopy := by
  unfold modStream; cases s.stream? i <;> rfl
@[simp] theorem modStream_gseq (i : Nat) (f : Stream → Stream) : (s.modStream i f).gseq = s.gseq := by
  unfold modStream; cases s.stream? i <;> rfl
@[simp] theorem modStream_sw (i : Nat) (f : Stream → Stream) : (s.modStream i f).sw = s.sw := by
  unfold modStream; cases s.stream? i <;> rfl
@[simp] theorem modStream_swClosed (i : Nat) (f : Stream → Stream) : (s.modStream i f).swClosed = s.swClosed := by
  unfold modStream; cases s.stream? i <;> rfl
@[simp] theorem modStream_swLate (i : Nat) (f : Stream → Stream) : (s.modStream i f).swLate = s.swLate := by
  unfold modStream; cases s.stream? i <;> rfl
@[simp] theorem modStream_fout (i : Nat) (f : Stream → Stream) : (s.modStream i f).fout = s.fout := by
  unfold modStream; cases s.stream? i <;> rfl
@[simp] theorem modStream_fin (i : Nat) (f : Stream → Stream) : (s.modStream i f).fin = s.fin := by
  unfold modStream; cases s.stream? i <;> rfl
@[simp] theorem modStream_rx (i : Nat) (f : Stream → Stream) : (s.modStream i f).rx = s.rx := by
  unfold modStream; cases s.stream? i <;> rfl
@[simp] theorem modStream_gone (i : Nat) (f : Stream → Stream) : (s.modStream i f).gone = s.gone := by
  unfold modStream; cases s.stream? i <;> rfl
@[simp] theorem modStream_wout (i : Nat) (f : Stream → Stream) : (s.modStream i f).wout = s.wout := by
  unfold modStream; cases s.stream? i <;> rfl
@[simp] theorem modStream_links (i : Nat) (f : Stream → Stream) : (s.modStream i f).links = s.links := by
  unfold modStream; cases s.stream? i <;> rfl
@[simp] theorem modStream_absent (i : Nat) (f : Stream → Stream) : (s.modStream i f).absent = s.absent := by
  unfold modStream; cases s.stream? i <;> rfl
@[simp] theorem modStream_routes (i : Nat) (f : Stream → Stream) : (s.modStream i f).routes = s.routes := by
  unfold modStream; cases s.stream? i <;> rfl
@[simp] theorem modStream_pktDrop (i : Nat) (f : Stream → Stream) : (s.modStream i f).pktDrop = s.pktDrop := by
  unfold modStream; cases s.stream? i <;> rfl
@[simp] theorem modStream_msix (i : Nat) (f : Stream → Stream) : (s.modStream i f).msix = s.msix := by
  unfold modStream; cases s.stream? i <;> rfl
@[simp] theorem modStream_bar0 (i : Nat) (f : Stream → Stream) : (s.modStream i f).bar0 = s.bar0 := by
  unfold modStream; cases s.stream? i <;> rfl
@[simp] theorem modStream_mrtail (i : Nat) (f : Stream → Stream) : (s.modStream i f).mrtail = s.mrtail := by
  unfold modStream; cases s.stream? i <;> rfl
@[simp] theorem modStream_mrhead (i : Nat) (f : Stream → Stream) : (s.modStream i f).mrhead = s.mrhead := by
  unfold modStream; cases s.stream? i <;> rfl
@[simp] theorem modStream_hostrd (i : Nat) (f : Stream → Stream) : (s.modStream i f).hostrd = s.hostrd := by
  unfold modStream; cases s.stream? i <;> rfl
@[simp] theorem modStream_cfgAns (i : Nat) (f : Stream → Stream) : (s.modStream i f).cfgAns = s.cfgAns := by
  unfold modStream; cases s.stream? i <;> rfl
@[simp] theorem modStream_bstat (i : Nat) (f : Stream → Stream) : (s.modStream i f).bstat = s.bstat := by
  unfold modStream; cases s.stream? i <;> rfl
@[simp] theorem modStream_booted (i : Nat) (f : Stream → Stream) : (s.modStream i f).booted = s.booted := by
  unfold modStream; cases s.stream? i <;> rfl
@[simp] theorem modStream_fuseKey (i : Nat) (f : Stream → Stream) : (s.modStream i f).fuseKey = s.fuseKey := by
  unfold modStream; cases s.stream? i <;> rfl
@[simp] theorem modStream_fuseVer (i : Nat) (f : Stream → Stream) : (s.modStream i f).fuseVer = s.fuseVer := by
  unfold modStream; cases s.stream? i <;> rfl
@[simp] theorem modStream_flash (i : Nat) (f : Stream → Stream) : (s.modStream i f).flash = s.flash := by
  unfold modStream; cases s.stream? i <;> rfl
@[simp] theorem modStream_images (i : Nat) (f : Stream → Stream) : (s.modStream i f).images = s.images := by
  unfold modStream; cases s.stream? i <;> rfl
@[simp] theorem modStream_pdBusy (i : Nat) (f : Stream → Stream) : (s.modStream i f).pdBusy = s.pdBusy := by
  unfold modStream; cases s.stream? i <;> rfl
@[simp] theorem modStream_hbeat (i : Nat) (f : Stream → Stream) : (s.modStream i f).hbeat = s.hbeat := by
  unfold modStream; cases s.stream? i <;> rfl
@[simp] theorem modStream_nvme (i : Nat) (f : Stream → Stream) : (s.modStream i f).nvme = s.nvme := by
  unfold modStream; cases s.stream? i <;> rfl
@[simp] theorem modStream_grants (i : Nat) (f : Stream → Stream) : (s.modStream i f).grants = s.grants := by
  unfold modStream; cases s.stream? i <;> rfl
@[simp] theorem modStream_ur (i : Nat) (f : Stream → Stream) : (s.modStream i f).ur = s.ur := by
  unfold modStream; cases s.stream? i <;> rfl
@[simp] theorem modStream_evst (i : Nat) (f : Stream → Stream) : (s.modStream i f).evst = s.evst := by
  unfold modStream; cases s.stream? i <;> rfl
@[simp] theorem modStream_evDone (i : Nat) (f : Stream → Stream) : (s.modStream i f).evDone = s.evDone := by
  unfold modStream; cases s.stream? i <;> rfl
@[simp] theorem modStream_evStart (i : Nat) (f : Stream → Stream) : (s.modStream i f).evStart = s.evStart := by
  unfold modStream; cases s.stream? i <;> rfl
@[simp] theorem modStream_ejectN (i : Nat) (f : Stream → Stream) : (s.modStream i f).ejectN = s.ejectN := by
  unfold modStream; cases s.stream? i <;> rfl
@[simp] theorem modStream_fru (i : Nat) (f : Stream → Stream) : (s.modStream i f).fru = s.fru := by
  unfold modStream; cases s.stream? i <;> rfl
@[simp] theorem modStream_fruLog (i : Nat) (f : Stream → Stream) : (s.modStream i f).fruLog = s.fruLog := by
  unfold modStream; cases s.stream? i <;> rfl
@[simp] theorem modStream_repl (i : Nat) (f : Stream → Stream) : (s.modStream i f).repl = s.repl := by
  unfold modStream; cases s.stream? i <;> rfl
@[simp] theorem modStream_nret (i : Nat) (f : Stream → Stream) : (s.modStream i f).nret = s.nret := by
  unfold modStream; cases s.stream? i <;> rfl

theorem stream_setStream (i j : Nat) (t : Stream) : (s.setStream i t).stream? j = if j = i then some t else s.stream? j := by simp only [stream?, setStream, Tab.get_set]
@[simp] theorem stream_setStream_same (i : Nat) (t : Stream) : (s.setStream i t).stream? i = some t := by simp [stream_setStream]
theorem stream_dropStream (i j : Nat) : (s.dropStream i).stream? j = if j = i then none else s.stream? j := by simp only [stream?, dropStream, Tab.get_set]
theorem stream_modStream (i j : Nat) (f : Stream → Stream) :
    (s.modStream i f).stream? j = if j = i then (s.stream? i).map f else s.stream? j := by
  unfold modStream
  cases h : s.stream? i with
  | none => by_cases hj : j = i <;> simp [hj, h]
  | some t => by_cases hj : j = i <;> simp [stream_setStream, hj]
theorem part_setPart (i j : Nat) (x : Part) : (s.setPart i x).part j = if j = i then x else s.part j := by simp only [part, setPart, Tab.get_set]
@[simp] theorem part_setPart_same (i : Nat) (x : Part) : (s.setPart i x).part i = x := by simp [part_setPart]
theorem part_modPart (i j : Nat) (f : Part → Part) : (s.modPart i f).part j = if j = i then f (s.part i) else s.part j := part_setPart _ _ _ _
@[simp] theorem part_modPart_same (i : Nat) (f : Part → Part) : (s.modPart i f).part i = f (s.part i) := by simp [part_modPart]
theorem cluster_setCluster (i j : Nat) (x : Cluster) : (s.setCluster i x).cluster j = if j = i then x else s.cluster j := by simp only [cluster, setCluster, Tab.get_set]
@[simp] theorem cluster_setCluster_same (i : Nat) (x : Cluster) : (s.setCluster i x).cluster i = x := by simp [cluster_setCluster]
theorem cluster_modCluster (i j : Nat) (f : Cluster → Cluster) : (s.modCluster i f).cluster j = if j = i then f (s.cluster i) else s.cluster j :=
  cluster_setCluster _ _ _ _
theorem team_setTeam (i j : Nat) (x : Option Team) : (s.setTeam i x).team? j = if j = i then x else s.team? j := by simp only [team?, setTeam, Tab.get_set]
theorem launch_setLaunch (i j : Nat) (x : Option Launch) : (s.setLaunch i x).launch? j = if j = i then x else s.launch? j := by simp only [launch?, setLaunch, Tab.get_set]
theorem queue_setQueue (i j : Nat) (x : HQ) : (s.setQueue i x).queue j = if j = i then x else s.queue j := by simp only [queue, setQueue, Tab.get_set]
theorem eop_setEop (i j : Nat) (x : Option EngOp) : (s.setEop i x).eop? j = if j = i then x else s.eop? j := by simp only [eop?, setEop, Tab.get_set]
theorem strmEnt_setStrm (i j : Nat) (x : StrmEnt) : (s.setStrm i x).strmEnt j = if j = i then x else s.strmEnt j := by simp only [strmEnt, setStrm, Tab.get_set]
theorem counter_setCounter (i j : Nat) (x : BitVec 64) : (s.setCounter i x).counter j = if j = i then x else s.counter j := by simp only [counter, setCounter, Tab.get_set]

/-- Every byte of a write is read back. -/
theorem byteAt_writeMem_in (a b : Nat) (bs : List Byte) (h : a ≤ b ∧ b < a + bs.length) : (s.writeMem a bs).byteAt b = nth emptyByte bs (b - a) := by
  unfold byteAt writeMem; rw [Tab.get_setList, if_pos h]
/-- A write leaves every byte outside it alone. -/
theorem byteAt_writeMem_out (a b : Nat) (bs : List Byte) (h : b < a ∨ a + bs.length ≤ b) : (s.writeMem a bs).byteAt b = s.byteAt b :=
  Tab.get_setList_other _ _ _ _ _ h
/-- A write keeps the memory's canonical form. -/
theorem wf_writeMem (a : Nat) (bs : List Byte) (h : Tab.wf emptyByte s.mem = true) : Tab.wf emptyByte (s.writeMem a bs).mem = true :=
  Tab.wf_setList a bs h
theorem byteAt_congr {s s' : State} (h : s'.mem = s.mem) (a : Nat) : s'.byteAt a = s.byteAt a := by unfold byteAt; rw [h]

end State

namespace Stream
variable (t : Stream)

@[simp] theorem setPath_part (k : Nat) (p : Option Path) : (t.setPath k p).part = t.part := by
  unfold setPath; split <;> rfl
@[simp] theorem setPath_team (k : Nat) (p : Option Path) : (t.setPath k p).team = t.team := by
  unfold setPath; split <;> rfl
@[simp] theorem setPath_launch (k : Nat) (p : Option Path) : (t.setPath k p).launch = t.launch := by
  unfold setPath; split <;> rfl
@[simp] theorem setPath_idx (k : Nat) (p : Option Path) : (t.setPath k p).idx = t.idx := by
  unfold setPath; split <;> rfl
@[simp] theorem setPath_alloc (k : Nat) (p : Option Path) : (t.setPath k p).alloc = t.alloc := by
  unfold setPath; split <;> rfl
@[simp] theorem setPath_rg (k : Nat) (p : Option Path) : (t.setPath k p).rg = t.rg := by
  unfold setPath; split <;> rfl
@[simp] theorem setPath_nsh (k : Nat) (p : Option Path) : (t.setPath k p).nsh = t.nsh := by
  unfold setPath; split <;> rfl
@[simp] theorem setPath_sys (k : Nat) (p : Option Path) : (t.setPath k p).sys = t.sys := by
  unfold setPath; split <;> rfl
@[simp] theorem setPath_tab (k : Nat) (p : Option Path) : (t.setPath k p).tab = t.tab := by
  unfold setPath; split <;> rfl
@[simp] theorem setPath_tabw (k : Nat) (p : Option Path) : (t.setPath k p).tabw = t.tabw := by
  unfold setPath; split <;> rfl
@[simp] theorem setPath_live (k : Nat) (p : Option Path) : (t.setPath k p).live = t.live := by
  unfold setPath; split <;> rfl
@[simp] theorem setPath_arms (k : Nat) (p : Option Path) : (t.setPath k p).arms = t.arms := by
  unfold setPath; split <;> rfl
@[simp] theorem setPath_jm (k : Nat) (p : Option Path) : (t.setPath k p).jm = t.jm := by
  unfold setPath; split <;> rfl
@[simp] theorem setPath_lr (k : Nat) (p : Option Path) : (t.setPath k p).lr = t.lr := by
  unfold setPath; split <;> rfl
@[simp] theorem setPath_rstk (k : Nat) (p : Option Path) : (t.setPath k p).rstk = t.rstk := by
  unfold setPath; split <;> rfl
@[simp] theorem setPath_lost (k : Nat) (p : Option Path) : (t.setPath k p).lost = t.lost := by
  unfold setPath; split <;> rfl
@[simp] theorem setPath_v (k : Nat) (p : Option Path) : (t.setPath k p).v = t.v := by
  unfold setPath; split <;> rfl
@[simp] theorem setPath_vp (k : Nat) (p : Option Path) : (t.setPath k p).vp = t.vp := by
  unfold setPath; split <;> rfl
@[simp] theorem setPath_s (k : Nat) (p : Option Path) : (t.setPath k p).s = t.s := by
  unfold setPath; split <;> rfl
@[simp] theorem setPath_sp (k : Nat) (p : Option Path) : (t.setPath k p).sp = t.sp := by
  unfold setPath; split <;> rfl
@[simp] theorem setPath_q (k : Nat) (p : Option Path) : (t.setPath k p).q = t.q := by
  unfold setPath; split <;> rfl
@[simp] theorem setPath_sh (k : Nat) (p : Option Path) : (t.setPath k p).sh = t.sh := by
  unfold setPath; split <;> rfl
@[simp] theorem setPath_cb (k : Nat) (p : Option Path) : (t.setPath k p).cb = t.cb := by
  unfold setPath; split <;> rfl
@[simp] theorem setPath_mode (k : Nat) (p : Option Path) : (t.setPath k p).mode = t.mode := by
  unfold setPath; split <;> rfl
@[simp] theorem setPath_fpflags (k : Nat) (p : Option Path) : (t.setPath k p).fpflags = t.fpflags := by
  unfold setPath; split <;> rfl
@[simp] theorem setPath_xconf (k : Nat) (p : Option Path) : (t.setPath k p).xconf = t.xconf := by
  unfold setPath; split <;> rfl
@[simp] theorem setPath_msgst (k : Nat) (p : Option Path) : (t.setPath k p).msgst = t.msgst := by
  unfold setPath; split <;> rfl
@[simp] theorem setPath_step (k : Nat) (p : Option Path) : (t.setPath k p).step = t.step := by
  unfold setPath; split <;> rfl
@[simp] theorem setPath_tryst (k : Nat) (p : Option Path) : (t.setPath k p).tryst = t.tryst := by
  unfold setPath; split <;> rfl
@[simp] theorem setPath_tryaddr (k : Nat) (p : Option Path) : (t.setPath k p).tryaddr = t.tryaddr := by
  unfold setPath; split <;> rfl
@[simp] theorem setPath_abortm (k : Nat) (p : Option Path) : (t.setPath k p).abortm = t.abortm := by
  unfold setPath; split <;> rfl
@[simp] theorem setPath_tr (k : Nat) (p : Option Path) : (t.setPath k p).tr = t.tr := by
  unfold setPath; split <;> rfl
@[simp] theorem setPath_abort (k : Nat) (p : Option Path) : (t.setPath k p).abort = t.abort := by
  unfold setPath; split <;> rfl
@[simp] theorem setPath_hwue (k : Nat) (p : Option Path) : (t.setPath k p).hwue = t.hwue := by
  unfold setPath; split <;> rfl
@[simp] theorem setPath_hnd (k : Nat) (p : Option Path) : (t.setPath k p).hnd = t.hnd := by
  unfold setPath; split <;> rfl
@[simp] theorem setPath_outst (k : Nat) (p : Option Path) : (t.setPath k p).outst = t.outst := by
  unfold setPath; split <;> rfl
@[simp] theorem setPath_acq (k : Nat) (p : Option Path) : (t.setPath k p).acq = t.acq := by
  unfold setPath; split <;> rfl
@[simp] theorem setPath_know (k : Nat) (p : Option Path) : (t.setPath k p).know = t.know := by
  unfold setPath; split <;> rfl
@[simp] theorem setPath_taint (k : Nat) (p : Option Path) : (t.setPath k p).taint = t.taint := by
  unfold setPath; split <;> rfl
@[simp] theorem setPath_pepoch (k : Nat) (p : Option Path) : (t.setPath k p).pepoch = t.pepoch := by
  unfold setPath; split <;> rfl
@[simp] theorem setPath_ptag (k : Nat) (p : Option Path) : (t.setPath k p).ptag = t.ptag := by
  unfold setPath; split <;> rfl
@[simp] theorem setPath_hold (k : Nat) (p : Option Path) : (t.setPath k p).hold = t.hold := by
  unfold setPath; split <;> rfl
@[simp] theorem setPath_stopped (k : Nat) (p : Option Path) : (t.setPath k p).stopped = t.stopped := by
  unfold setPath; split <;> rfl
@[simp] theorem setPath_ended (k : Nat) (p : Option Path) : (t.setPath k p).ended = t.ended := by
  unfold setPath; split <;> rfl
@[simp] theorem setPath_nid (k : Nat) (p : Option Path) : (t.setPath k p).nid = t.nid := by
  unfold setPath; split <;> rfl

@[simp] theorem setJoin_part (n : Nat) (j : Join) : (t.setJoin n j).part = t.part := rfl
@[simp] theorem setJoin_team (n : Nat) (j : Join) : (t.setJoin n j).team = t.team := rfl
@[simp] theorem setJoin_launch (n : Nat) (j : Join) : (t.setJoin n j).launch = t.launch := rfl
@[simp] theorem setJoin_idx (n : Nat) (j : Join) : (t.setJoin n j).idx = t.idx := rfl
@[simp] theorem setJoin_alloc (n : Nat) (j : Join) : (t.setJoin n j).alloc = t.alloc := rfl
@[simp] theorem setJoin_rg (n : Nat) (j : Join) : (t.setJoin n j).rg = t.rg := rfl
@[simp] theorem setJoin_nsh (n : Nat) (j : Join) : (t.setJoin n j).nsh = t.nsh := rfl
@[simp] theorem setJoin_sys (n : Nat) (j : Join) : (t.setJoin n j).sys = t.sys := rfl
@[simp] theorem setJoin_tab (n : Nat) (j : Join) : (t.setJoin n j).tab = t.tab := rfl
@[simp] theorem setJoin_tabw (n : Nat) (j : Join) : (t.setJoin n j).tabw = t.tabw := rfl
@[simp] theorem setJoin_live (n : Nat) (j : Join) : (t.setJoin n j).live = t.live := rfl
@[simp] theorem setJoin_p0 (n : Nat) (j : Join) : (t.setJoin n j).p0 = t.p0 := rfl
@[simp] theorem setJoin_p1 (n : Nat) (j : Join) : (t.setJoin n j).p1 = t.p1 := rfl
@[simp] theorem setJoin_arms (n : Nat) (j : Join) : (t.setJoin n j).arms = t.arms := rfl
@[simp] theorem setJoin_lr (n : Nat) (j : Join) : (t.setJoin n j).lr = t.lr := rfl
@[simp] theorem setJoin_rstk (n : Nat) (j : Join) : (t.setJoin n j).rstk = t.rstk := rfl
@[simp] theorem setJoin_lost (n : Nat) (j : Join) : (t.setJoin n j).lost = t.lost := rfl
@[simp] theorem setJoin_v (n : Nat) (j : Join) : (t.setJoin n j).v = t.v := rfl
@[simp] theorem setJoin_vp (n : Nat) (j : Join) : (t.setJoin n j).vp = t.vp := rfl
@[simp] theorem setJoin_s (n : Nat) (j : Join) : (t.setJoin n j).s = t.s := rfl
@[simp] theorem setJoin_sp (n : Nat) (j : Join) : (t.setJoin n j).sp = t.sp := rfl
@[simp] theorem setJoin_q (n : Nat) (j : Join) : (t.setJoin n j).q = t.q := rfl
@[simp] theorem setJoin_sh (n : Nat) (j : Join) : (t.setJoin n j).sh = t.sh := rfl
@[simp] theorem setJoin_cb (n : Nat) (j : Join) : (t.setJoin n j).cb = t.cb := rfl
@[simp] theorem setJoin_mode (n : Nat) (j : Join) : (t.setJoin n j).mode = t.mode := rfl
@[simp] theorem setJoin_fpflags (n : Nat) (j : Join) : (t.setJoin n j).fpflags = t.fpflags := rfl
@[simp] theorem setJoin_xconf (n : Nat) (j : Join) : (t.setJoin n j).xconf = t.xconf := rfl
@[simp] theorem setJoin_msgst (n : Nat) (j : Join) : (t.setJoin n j).msgst = t.msgst := rfl
@[simp] theorem setJoin_step (n : Nat) (j : Join) : (t.setJoin n j).step = t.step := rfl
@[simp] theorem setJoin_tryst (n : Nat) (j : Join) : (t.setJoin n j).tryst = t.tryst := rfl
@[simp] theorem setJoin_tryaddr (n : Nat) (j : Join) : (t.setJoin n j).tryaddr = t.tryaddr := rfl
@[simp] theorem setJoin_abortm (n : Nat) (j : Join) : (t.setJoin n j).abortm = t.abortm := rfl
@[simp] theorem setJoin_tr (n : Nat) (j : Join) : (t.setJoin n j).tr = t.tr := rfl
@[simp] theorem setJoin_abort (n : Nat) (j : Join) : (t.setJoin n j).abort = t.abort := rfl
@[simp] theorem setJoin_hwue (n : Nat) (j : Join) : (t.setJoin n j).hwue = t.hwue := rfl
@[simp] theorem setJoin_hnd (n : Nat) (j : Join) : (t.setJoin n j).hnd = t.hnd := rfl
@[simp] theorem setJoin_outst (n : Nat) (j : Join) : (t.setJoin n j).outst = t.outst := rfl
@[simp] theorem setJoin_acq (n : Nat) (j : Join) : (t.setJoin n j).acq = t.acq := rfl
@[simp] theorem setJoin_know (n : Nat) (j : Join) : (t.setJoin n j).know = t.know := rfl
@[simp] theorem setJoin_taint (n : Nat) (j : Join) : (t.setJoin n j).taint = t.taint := rfl
@[simp] theorem setJoin_pepoch (n : Nat) (j : Join) : (t.setJoin n j).pepoch = t.pepoch := rfl
@[simp] theorem setJoin_ptag (n : Nat) (j : Join) : (t.setJoin n j).ptag = t.ptag := rfl
@[simp] theorem setJoin_hold (n : Nat) (j : Join) : (t.setJoin n j).hold = t.hold := rfl
@[simp] theorem setJoin_stopped (n : Nat) (j : Join) : (t.setJoin n j).stopped = t.stopped := rfl
@[simp] theorem setJoin_ended (n : Nat) (j : Join) : (t.setJoin n j).ended = t.ended := rfl
@[simp] theorem setJoin_nid (n : Nat) (j : Join) : (t.setJoin n j).nid = t.nid := rfl

@[simp] theorem putV_part (r l : Nat) (w : Word) : (t.putV r l w).part = t.part := rfl
@[simp] theorem putV_team (r l : Nat) (w : Word) : (t.putV r l w).team = t.team := rfl
@[simp] theorem putV_launch (r l : Nat) (w : Word) : (t.putV r l w).launch = t.launch := rfl
@[simp] theorem putV_idx (r l : Nat) (w : Word) : (t.putV r l w).idx = t.idx := rfl
@[simp] theorem putV_alloc (r l : Nat) (w : Word) : (t.putV r l w).alloc = t.alloc := rfl
@[simp] theorem putV_rg (r l : Nat) (w : Word) : (t.putV r l w).rg = t.rg := rfl
@[simp] theorem putV_nsh (r l : Nat) (w : Word) : (t.putV r l w).nsh = t.nsh := rfl
@[simp] theorem putV_sys (r l : Nat) (w : Word) : (t.putV r l w).sys = t.sys := rfl
@[simp] theorem putV_tab (r l : Nat) (w : Word) : (t.putV r l w).tab = t.tab := rfl
@[simp] theorem putV_tabw (r l : Nat) (w : Word) : (t.putV r l w).tabw = t.tabw := rfl
@[simp] theorem putV_live (r l : Nat) (w : Word) : (t.putV r l w).live = t.live := rfl
@[simp] theorem putV_p0 (r l : Nat) (w : Word) : (t.putV r l w).p0 = t.p0 := rfl
@[simp] theorem putV_p1 (r l : Nat) (w : Word) : (t.putV r l w).p1 = t.p1 := rfl
@[simp] theorem putV_arms (r l : Nat) (w : Word) : (t.putV r l w).arms = t.arms := rfl
@[simp] theorem putV_jm (r l : Nat) (w : Word) : (t.putV r l w).jm = t.jm := rfl
@[simp] theorem putV_lr (r l : Nat) (w : Word) : (t.putV r l w).lr = t.lr := rfl
@[simp] theorem putV_rstk (r l : Nat) (w : Word) : (t.putV r l w).rstk = t.rstk := rfl
@[simp] theorem putV_lost (r l : Nat) (w : Word) : (t.putV r l w).lost = t.lost := rfl
@[simp] theorem putV_s (r l : Nat) (w : Word) : (t.putV r l w).s = t.s := rfl
@[simp] theorem putV_sp (r l : Nat) (w : Word) : (t.putV r l w).sp = t.sp := rfl
@[simp] theorem putV_q (r l : Nat) (w : Word) : (t.putV r l w).q = t.q := rfl
@[simp] theorem putV_sh (r l : Nat) (w : Word) : (t.putV r l w).sh = t.sh := rfl
@[simp] theorem putV_cb (r l : Nat) (w : Word) : (t.putV r l w).cb = t.cb := rfl
@[simp] theorem putV_mode (r l : Nat) (w : Word) : (t.putV r l w).mode = t.mode := rfl
@[simp] theorem putV_fpflags (r l : Nat) (w : Word) : (t.putV r l w).fpflags = t.fpflags := rfl
@[simp] theorem putV_xconf (r l : Nat) (w : Word) : (t.putV r l w).xconf = t.xconf := rfl
@[simp] theorem putV_msgst (r l : Nat) (w : Word) : (t.putV r l w).msgst = t.msgst := rfl
@[simp] theorem putV_step (r l : Nat) (w : Word) : (t.putV r l w).step = t.step := rfl
@[simp] theorem putV_tryst (r l : Nat) (w : Word) : (t.putV r l w).tryst = t.tryst := rfl
@[simp] theorem putV_tryaddr (r l : Nat) (w : Word) : (t.putV r l w).tryaddr = t.tryaddr := rfl
@[simp] theorem putV_abortm (r l : Nat) (w : Word) : (t.putV r l w).abortm = t.abortm := rfl
@[simp] theorem putV_tr (r l : Nat) (w : Word) : (t.putV r l w).tr = t.tr := rfl
@[simp] theorem putV_abort (r l : Nat) (w : Word) : (t.putV r l w).abort = t.abort := rfl
@[simp] theorem putV_hwue (r l : Nat) (w : Word) : (t.putV r l w).hwue = t.hwue := rfl
@[simp] theorem putV_hnd (r l : Nat) (w : Word) : (t.putV r l w).hnd = t.hnd := rfl
@[simp] theorem putV_outst (r l : Nat) (w : Word) : (t.putV r l w).outst = t.outst := rfl
@[simp] theorem putV_acq (r l : Nat) (w : Word) : (t.putV r l w).acq = t.acq := rfl
@[simp] theorem putV_know (r l : Nat) (w : Word) : (t.putV r l w).know = t.know := rfl
@[simp] theorem putV_taint (r l : Nat) (w : Word) : (t.putV r l w).taint = t.taint := rfl
@[simp] theorem putV_pepoch (r l : Nat) (w : Word) : (t.putV r l w).pepoch = t.pepoch := rfl
@[simp] theorem putV_ptag (r l : Nat) (w : Word) : (t.putV r l w).ptag = t.ptag := rfl
@[simp] theorem putV_hold (r l : Nat) (w : Word) : (t.putV r l w).hold = t.hold := rfl
@[simp] theorem putV_stopped (r l : Nat) (w : Word) : (t.putV r l w).stopped = t.stopped := rfl
@[simp] theorem putV_ended (r l : Nat) (w : Word) : (t.putV r l w).ended = t.ended := rfl
@[simp] theorem putV_nid (r l : Nat) (w : Word) : (t.putV r l w).nid = t.nid := rfl

@[simp] theorem putS_part (q : Bool) (k n : Nat) (w : Word) : (t.putS q k n w).part = t.part := by
  unfold putS; repeat (first | split | rfl | exact setPath_part _ _ _)
@[simp] theorem putS_team (q : Bool) (k n : Nat) (w : Word) : (t.putS q k n w).team = t.team := by
  unfold putS; repeat (first | split | rfl | exact setPath_team _ _ _)
@[simp] theorem putS_launch (q : Bool) (k n : Nat) (w : Word) : (t.putS q k n w).launch = t.launch := by
  unfold putS; repeat (first | split | rfl | exact setPath_launch _ _ _)
@[simp] theorem putS_idx (q : Bool) (k n : Nat) (w : Word) : (t.putS q k n w).idx = t.idx := by
  unfold putS; repeat (first | split | rfl | exact setPath_idx _ _ _)
@[simp] theorem putS_alloc (q : Bool) (k n : Nat) (w : Word) : (t.putS q k n w).alloc = t.alloc := by
  unfold putS; repeat (first | split | rfl | exact setPath_alloc _ _ _)
@[simp] theorem putS_rg (q : Bool) (k n : Nat) (w : Word) : (t.putS q k n w).rg = t.rg := by
  unfold putS; repeat (first | split | rfl | exact setPath_rg _ _ _)
@[simp] theorem putS_nsh (q : Bool) (k n : Nat) (w : Word) : (t.putS q k n w).nsh = t.nsh := by
  unfold putS; repeat (first | split | rfl | exact setPath_nsh _ _ _)
@[simp] theorem putS_sys (q : Bool) (k n : Nat) (w : Word) : (t.putS q k n w).sys = t.sys := by
  unfold putS; repeat (first | split | rfl | exact setPath_sys _ _ _)
@[simp] theorem putS_tab (q : Bool) (k n : Nat) (w : Word) : (t.putS q k n w).tab = t.tab := by
  unfold putS; repeat (first | split | rfl | exact setPath_tab _ _ _)
@[simp] theorem putS_tabw (q : Bool) (k n : Nat) (w : Word) : (t.putS q k n w).tabw = t.tabw := by
  unfold putS; repeat (first | split | rfl | exact setPath_tabw _ _ _)
@[simp] theorem putS_live (q : Bool) (k n : Nat) (w : Word) : (t.putS q k n w).live = t.live := by
  unfold putS; repeat (first | split | rfl | exact setPath_live _ _ _)
@[simp] theorem putS_arms (q : Bool) (k n : Nat) (w : Word) : (t.putS q k n w).arms = t.arms := by
  unfold putS; repeat (first | split | rfl | exact setPath_arms _ _ _)
@[simp] theorem putS_jm (q : Bool) (k n : Nat) (w : Word) : (t.putS q k n w).jm = t.jm := by
  unfold putS; repeat (first | split | rfl | exact setPath_jm _ _ _)
@[simp] theorem putS_lr (q : Bool) (k n : Nat) (w : Word) : (t.putS q k n w).lr = t.lr := by
  unfold putS; repeat (first | split | rfl | exact setPath_lr _ _ _)
@[simp] theorem putS_rstk (q : Bool) (k n : Nat) (w : Word) : (t.putS q k n w).rstk = t.rstk := by
  unfold putS; repeat (first | split | rfl | exact setPath_rstk _ _ _)
@[simp] theorem putS_lost (q : Bool) (k n : Nat) (w : Word) : (t.putS q k n w).lost = t.lost := by
  unfold putS; repeat (first | split | rfl | exact setPath_lost _ _ _)
@[simp] theorem putS_v (q : Bool) (k n : Nat) (w : Word) : (t.putS q k n w).v = t.v := by
  unfold putS; repeat (first | split | rfl | exact setPath_v _ _ _)
@[simp] theorem putS_vp (q : Bool) (k n : Nat) (w : Word) : (t.putS q k n w).vp = t.vp := by
  unfold putS; repeat (first | split | rfl | exact setPath_vp _ _ _)
@[simp] theorem putS_q (q : Bool) (k n : Nat) (w : Word) : (t.putS q k n w).q = t.q := by
  unfold putS; repeat (first | split | rfl | exact setPath_q _ _ _)
@[simp] theorem putS_sh (q : Bool) (k n : Nat) (w : Word) : (t.putS q k n w).sh = t.sh := by
  unfold putS; repeat (first | split | rfl | exact setPath_sh _ _ _)
@[simp] theorem putS_cb (q : Bool) (k n : Nat) (w : Word) : (t.putS q k n w).cb = t.cb := by
  unfold putS; repeat (first | split | rfl | exact setPath_cb _ _ _)
@[simp] theorem putS_mode (q : Bool) (k n : Nat) (w : Word) : (t.putS q k n w).mode = t.mode := by
  unfold putS; repeat (first | split | rfl | exact setPath_mode _ _ _)
@[simp] theorem putS_fpflags (q : Bool) (k n : Nat) (w : Word) : (t.putS q k n w).fpflags = t.fpflags := by
  unfold putS; repeat (first | split | rfl | exact setPath_fpflags _ _ _)
@[simp] theorem putS_xconf (q : Bool) (k n : Nat) (w : Word) : (t.putS q k n w).xconf = t.xconf := by
  unfold putS; repeat (first | split | rfl | exact setPath_xconf _ _ _)
@[simp] theorem putS_msgst (q : Bool) (k n : Nat) (w : Word) : (t.putS q k n w).msgst = t.msgst := by
  unfold putS; repeat (first | split | rfl | exact setPath_msgst _ _ _)
@[simp] theorem putS_step (q : Bool) (k n : Nat) (w : Word) : (t.putS q k n w).step = t.step := by
  unfold putS; repeat (first | split | rfl | exact setPath_step _ _ _)
@[simp] theorem putS_tryst (q : Bool) (k n : Nat) (w : Word) : (t.putS q k n w).tryst = t.tryst := by
  unfold putS; repeat (first | split | rfl | exact setPath_tryst _ _ _)
@[simp] theorem putS_tryaddr (q : Bool) (k n : Nat) (w : Word) : (t.putS q k n w).tryaddr = t.tryaddr := by
  unfold putS; repeat (first | split | rfl | exact setPath_tryaddr _ _ _)
@[simp] theorem putS_abortm (q : Bool) (k n : Nat) (w : Word) : (t.putS q k n w).abortm = t.abortm := by
  unfold putS; repeat (first | split | rfl | exact setPath_abortm _ _ _)
@[simp] theorem putS_tr (q : Bool) (k n : Nat) (w : Word) : (t.putS q k n w).tr = t.tr := by
  unfold putS; repeat (first | split | rfl | exact setPath_tr _ _ _)
@[simp] theorem putS_abort (q : Bool) (k n : Nat) (w : Word) : (t.putS q k n w).abort = t.abort := by
  unfold putS; repeat (first | split | rfl | exact setPath_abort _ _ _)
@[simp] theorem putS_hwue (q : Bool) (k n : Nat) (w : Word) : (t.putS q k n w).hwue = t.hwue := by
  unfold putS; repeat (first | split | rfl | exact setPath_hwue _ _ _)
@[simp] theorem putS_hnd (q : Bool) (k n : Nat) (w : Word) : (t.putS q k n w).hnd = t.hnd := by
  unfold putS; repeat (first | split | rfl | exact setPath_hnd _ _ _)
@[simp] theorem putS_outst (q : Bool) (k n : Nat) (w : Word) : (t.putS q k n w).outst = t.outst := by
  unfold putS; repeat (first | split | rfl | exact setPath_outst _ _ _)
@[simp] theorem putS_acq (q : Bool) (k n : Nat) (w : Word) : (t.putS q k n w).acq = t.acq := by
  unfold putS; repeat (first | split | rfl | exact setPath_acq _ _ _)
@[simp] theorem putS_know (q : Bool) (k n : Nat) (w : Word) : (t.putS q k n w).know = t.know := by
  unfold putS; repeat (first | split | rfl | exact setPath_know _ _ _)
@[simp] theorem putS_taint (q : Bool) (k n : Nat) (w : Word) : (t.putS q k n w).taint = t.taint := by
  unfold putS; repeat (first | split | rfl | exact setPath_taint _ _ _)
@[simp] theorem putS_pepoch (q : Bool) (k n : Nat) (w : Word) : (t.putS q k n w).pepoch = t.pepoch := by
  unfold putS; repeat (first | split | rfl | exact setPath_pepoch _ _ _)
@[simp] theorem putS_ptag (q : Bool) (k n : Nat) (w : Word) : (t.putS q k n w).ptag = t.ptag := by
  unfold putS; repeat (first | split | rfl | exact setPath_ptag _ _ _)
@[simp] theorem putS_hold (q : Bool) (k n : Nat) (w : Word) : (t.putS q k n w).hold = t.hold := by
  unfold putS; repeat (first | split | rfl | exact setPath_hold _ _ _)
@[simp] theorem putS_stopped (q : Bool) (k n : Nat) (w : Word) : (t.putS q k n w).stopped = t.stopped := by
  unfold putS; repeat (first | split | rfl | exact setPath_stopped _ _ _)
@[simp] theorem putS_ended (q : Bool) (k n : Nat) (w : Word) : (t.putS q k n w).ended = t.ended := by
  unfold putS; repeat (first | split | rfl | exact setPath_ended _ _ _)
@[simp] theorem putS_nid (q : Bool) (k n : Nat) (w : Word) : (t.putS q k n w).nid = t.nid := by
  unfold putS; repeat (first | split | rfl | exact setPath_nid _ _ _)

@[simp] theorem put_part (q : Bool) (k : Nat) (w : Wr) : (t.put q k w).part = t.part := by
  cases w with
  | v r l w => rfl
  | s n w => exact putS_part t q k n w
@[simp] theorem put_team (q : Bool) (k : Nat) (w : Wr) : (t.put q k w).team = t.team := by
  cases w with
  | v r l w => rfl
  | s n w => exact putS_team t q k n w
@[simp] theorem put_launch (q : Bool) (k : Nat) (w : Wr) : (t.put q k w).launch = t.launch := by
  cases w with
  | v r l w => rfl
  | s n w => exact putS_launch t q k n w
@[simp] theorem put_idx (q : Bool) (k : Nat) (w : Wr) : (t.put q k w).idx = t.idx := by
  cases w with
  | v r l w => rfl
  | s n w => exact putS_idx t q k n w
@[simp] theorem put_alloc (q : Bool) (k : Nat) (w : Wr) : (t.put q k w).alloc = t.alloc := by
  cases w with
  | v r l w => rfl
  | s n w => exact putS_alloc t q k n w
@[simp] theorem put_rg (q : Bool) (k : Nat) (w : Wr) : (t.put q k w).rg = t.rg := by
  cases w with
  | v r l w => rfl
  | s n w => exact putS_rg t q k n w
@[simp] theorem put_nsh (q : Bool) (k : Nat) (w : Wr) : (t.put q k w).nsh = t.nsh := by
  cases w with
  | v r l w => rfl
  | s n w => exact putS_nsh t q k n w
@[simp] theorem put_sys (q : Bool) (k : Nat) (w : Wr) : (t.put q k w).sys = t.sys := by
  cases w with
  | v r l w => rfl
  | s n w => exact putS_sys t q k n w
@[simp] theorem put_tab (q : Bool) (k : Nat) (w : Wr) : (t.put q k w).tab = t.tab := by
  cases w with
  | v r l w => rfl
  | s n w => exact putS_tab t q k n w
@[simp] theorem put_tabw (q : Bool) (k : Nat) (w : Wr) : (t.put q k w).tabw = t.tabw := by
  cases w with
  | v r l w => rfl
  | s n w => exact putS_tabw t q k n w
@[simp] theorem put_live (q : Bool) (k : Nat) (w : Wr) : (t.put q k w).live = t.live := by
  cases w with
  | v r l w => rfl
  | s n w => exact putS_live t q k n w
@[simp] theorem put_arms (q : Bool) (k : Nat) (w : Wr) : (t.put q k w).arms = t.arms := by
  cases w with
  | v r l w => rfl
  | s n w => exact putS_arms t q k n w
@[simp] theorem put_jm (q : Bool) (k : Nat) (w : Wr) : (t.put q k w).jm = t.jm := by
  cases w with
  | v r l w => rfl
  | s n w => exact putS_jm t q k n w
@[simp] theorem put_lr (q : Bool) (k : Nat) (w : Wr) : (t.put q k w).lr = t.lr := by
  cases w with
  | v r l w => rfl
  | s n w => exact putS_lr t q k n w
@[simp] theorem put_rstk (q : Bool) (k : Nat) (w : Wr) : (t.put q k w).rstk = t.rstk := by
  cases w with
  | v r l w => rfl
  | s n w => exact putS_rstk t q k n w
@[simp] theorem put_lost (q : Bool) (k : Nat) (w : Wr) : (t.put q k w).lost = t.lost := by
  cases w with
  | v r l w => rfl
  | s n w => exact putS_lost t q k n w
@[simp] theorem put_q (q : Bool) (k : Nat) (w : Wr) : (t.put q k w).q = t.q := by
  cases w with
  | v r l w => rfl
  | s n w => exact putS_q t q k n w
@[simp] theorem put_sh (q : Bool) (k : Nat) (w : Wr) : (t.put q k w).sh = t.sh := by
  cases w with
  | v r l w => rfl
  | s n w => exact putS_sh t q k n w
@[simp] theorem put_cb (q : Bool) (k : Nat) (w : Wr) : (t.put q k w).cb = t.cb := by
  cases w with
  | v r l w => rfl
  | s n w => exact putS_cb t q k n w
@[simp] theorem put_mode (q : Bool) (k : Nat) (w : Wr) : (t.put q k w).mode = t.mode := by
  cases w with
  | v r l w => rfl
  | s n w => exact putS_mode t q k n w
@[simp] theorem put_fpflags (q : Bool) (k : Nat) (w : Wr) : (t.put q k w).fpflags = t.fpflags := by
  cases w with
  | v r l w => rfl
  | s n w => exact putS_fpflags t q k n w
@[simp] theorem put_xconf (q : Bool) (k : Nat) (w : Wr) : (t.put q k w).xconf = t.xconf := by
  cases w with
  | v r l w => rfl
  | s n w => exact putS_xconf t q k n w
@[simp] theorem put_msgst (q : Bool) (k : Nat) (w : Wr) : (t.put q k w).msgst = t.msgst := by
  cases w with
  | v r l w => rfl
  | s n w => exact putS_msgst t q k n w
@[simp] theorem put_step (q : Bool) (k : Nat) (w : Wr) : (t.put q k w).step = t.step := by
  cases w with
  | v r l w => rfl
  | s n w => exact putS_step t q k n w
@[simp] theorem put_tryst (q : Bool) (k : Nat) (w : Wr) : (t.put q k w).tryst = t.tryst := by
  cases w with
  | v r l w => rfl
  | s n w => exact putS_tryst t q k n w
@[simp] theorem put_tryaddr (q : Bool) (k : Nat) (w : Wr) : (t.put q k w).tryaddr = t.tryaddr := by
  cases w with
  | v r l w => rfl
  | s n w => exact putS_tryaddr t q k n w
@[simp] theorem put_abortm (q : Bool) (k : Nat) (w : Wr) : (t.put q k w).abortm = t.abortm := by
  cases w with
  | v r l w => rfl
  | s n w => exact putS_abortm t q k n w
@[simp] theorem put_tr (q : Bool) (k : Nat) (w : Wr) : (t.put q k w).tr = t.tr := by
  cases w with
  | v r l w => rfl
  | s n w => exact putS_tr t q k n w
@[simp] theorem put_abort (q : Bool) (k : Nat) (w : Wr) : (t.put q k w).abort = t.abort := by
  cases w with
  | v r l w => rfl
  | s n w => exact putS_abort t q k n w
@[simp] theorem put_hwue (q : Bool) (k : Nat) (w : Wr) : (t.put q k w).hwue = t.hwue := by
  cases w with
  | v r l w => rfl
  | s n w => exact putS_hwue t q k n w
@[simp] theorem put_hnd (q : Bool) (k : Nat) (w : Wr) : (t.put q k w).hnd = t.hnd := by
  cases w with
  | v r l w => rfl
  | s n w => exact putS_hnd t q k n w
@[simp] theorem put_outst (q : Bool) (k : Nat) (w : Wr) : (t.put q k w).outst = t.outst := by
  cases w with
  | v r l w => rfl
  | s n w => exact putS_outst t q k n w
@[simp] theorem put_acq (q : Bool) (k : Nat) (w : Wr) : (t.put q k w).acq = t.acq := by
  cases w with
  | v r l w => rfl
  | s n w => exact putS_acq t q k n w
@[simp] theorem put_know (q : Bool) (k : Nat) (w : Wr) : (t.put q k w).know = t.know := by
  cases w with
  | v r l w => rfl
  | s n w => exact putS_know t q k n w
@[simp] theorem put_taint (q : Bool) (k : Nat) (w : Wr) : (t.put q k w).taint = t.taint := by
  cases w with
  | v r l w => rfl
  | s n w => exact putS_taint t q k n w
@[simp] theorem put_pepoch (q : Bool) (k : Nat) (w : Wr) : (t.put q k w).pepoch = t.pepoch := by
  cases w with
  | v r l w => rfl
  | s n w => exact putS_pepoch t q k n w
@[simp] theorem put_ptag (q : Bool) (k : Nat) (w : Wr) : (t.put q k w).ptag = t.ptag := by
  cases w with
  | v r l w => rfl
  | s n w => exact putS_ptag t q k n w
@[simp] theorem put_hold (q : Bool) (k : Nat) (w : Wr) : (t.put q k w).hold = t.hold := by
  cases w with
  | v r l w => rfl
  | s n w => exact putS_hold t q k n w
@[simp] theorem put_stopped (q : Bool) (k : Nat) (w : Wr) : (t.put q k w).stopped = t.stopped := by
  cases w with
  | v r l w => rfl
  | s n w => exact putS_stopped t q k n w
@[simp] theorem put_ended (q : Bool) (k : Nat) (w : Wr) : (t.put q k w).ended = t.ended := by
  cases w with
  | v r l w => rfl
  | s n w => exact putS_ended t q k n w
@[simp] theorem put_nid (q : Bool) (k : Nat) (w : Wr) : (t.put q k w).nid = t.nid := by
  cases w with
  | v r l w => rfl
  | s n w => exact putS_nid t q k n w

@[simp] theorem putAll_part (q : Bool) (k : Nat) (ws : List Wr) : (t.putAll q k ws).part = t.part := by
  unfold putAll
  induction ws generalizing t with
  | nil => rfl
  | cons w ws ih => rw [List.foldl_cons, ih, put_part]
@[simp] theorem putAll_team (q : Bool) (k : Nat) (ws : List Wr) : (t.putAll q k ws).team = t.team := by
  unfold putAll
  induction ws generalizing t with
  | nil => rfl
  | cons w ws ih => rw [List.foldl_cons, ih, put_team]
@[simp] theorem putAll_launch (q : Bool) (k : Nat) (ws : List Wr) : (t.putAll q k ws).launch = t.launch := by
  unfold putAll
  induction ws generalizing t with
  | nil => rfl
  | cons w ws ih => rw [List.foldl_cons, ih, put_launch]
@[simp] theorem putAll_idx (q : Bool) (k : Nat) (ws : List Wr) : (t.putAll q k ws).idx = t.idx := by
  unfold putAll
  induction ws generalizing t with
  | nil => rfl
  | cons w ws ih => rw [List.foldl_cons, ih, put_idx]
@[simp] theorem putAll_alloc (q : Bool) (k : Nat) (ws : List Wr) : (t.putAll q k ws).alloc = t.alloc := by
  unfold putAll
  induction ws generalizing t with
  | nil => rfl
  | cons w ws ih => rw [List.foldl_cons, ih, put_alloc]
@[simp] theorem putAll_rg (q : Bool) (k : Nat) (ws : List Wr) : (t.putAll q k ws).rg = t.rg := by
  unfold putAll
  induction ws generalizing t with
  | nil => rfl
  | cons w ws ih => rw [List.foldl_cons, ih, put_rg]
@[simp] theorem putAll_nsh (q : Bool) (k : Nat) (ws : List Wr) : (t.putAll q k ws).nsh = t.nsh := by
  unfold putAll
  induction ws generalizing t with
  | nil => rfl
  | cons w ws ih => rw [List.foldl_cons, ih, put_nsh]
@[simp] theorem putAll_sys (q : Bool) (k : Nat) (ws : List Wr) : (t.putAll q k ws).sys = t.sys := by
  unfold putAll
  induction ws generalizing t with
  | nil => rfl
  | cons w ws ih => rw [List.foldl_cons, ih, put_sys]
@[simp] theorem putAll_tab (q : Bool) (k : Nat) (ws : List Wr) : (t.putAll q k ws).tab = t.tab := by
  unfold putAll
  induction ws generalizing t with
  | nil => rfl
  | cons w ws ih => rw [List.foldl_cons, ih, put_tab]
@[simp] theorem putAll_tabw (q : Bool) (k : Nat) (ws : List Wr) : (t.putAll q k ws).tabw = t.tabw := by
  unfold putAll
  induction ws generalizing t with
  | nil => rfl
  | cons w ws ih => rw [List.foldl_cons, ih, put_tabw]
@[simp] theorem putAll_live (q : Bool) (k : Nat) (ws : List Wr) : (t.putAll q k ws).live = t.live := by
  unfold putAll
  induction ws generalizing t with
  | nil => rfl
  | cons w ws ih => rw [List.foldl_cons, ih, put_live]
@[simp] theorem putAll_arms (q : Bool) (k : Nat) (ws : List Wr) : (t.putAll q k ws).arms = t.arms := by
  unfold putAll
  induction ws generalizing t with
  | nil => rfl
  | cons w ws ih => rw [List.foldl_cons, ih, put_arms]
@[simp] theorem putAll_jm (q : Bool) (k : Nat) (ws : List Wr) : (t.putAll q k ws).jm = t.jm := by
  unfold putAll
  induction ws generalizing t with
  | nil => rfl
  | cons w ws ih => rw [List.foldl_cons, ih, put_jm]
@[simp] theorem putAll_lr (q : Bool) (k : Nat) (ws : List Wr) : (t.putAll q k ws).lr = t.lr := by
  unfold putAll
  induction ws generalizing t with
  | nil => rfl
  | cons w ws ih => rw [List.foldl_cons, ih, put_lr]
@[simp] theorem putAll_rstk (q : Bool) (k : Nat) (ws : List Wr) : (t.putAll q k ws).rstk = t.rstk := by
  unfold putAll
  induction ws generalizing t with
  | nil => rfl
  | cons w ws ih => rw [List.foldl_cons, ih, put_rstk]
@[simp] theorem putAll_lost (q : Bool) (k : Nat) (ws : List Wr) : (t.putAll q k ws).lost = t.lost := by
  unfold putAll
  induction ws generalizing t with
  | nil => rfl
  | cons w ws ih => rw [List.foldl_cons, ih, put_lost]
@[simp] theorem putAll_q (q : Bool) (k : Nat) (ws : List Wr) : (t.putAll q k ws).q = t.q := by
  unfold putAll
  induction ws generalizing t with
  | nil => rfl
  | cons w ws ih => rw [List.foldl_cons, ih, put_q]
@[simp] theorem putAll_sh (q : Bool) (k : Nat) (ws : List Wr) : (t.putAll q k ws).sh = t.sh := by
  unfold putAll
  induction ws generalizing t with
  | nil => rfl
  | cons w ws ih => rw [List.foldl_cons, ih, put_sh]
@[simp] theorem putAll_cb (q : Bool) (k : Nat) (ws : List Wr) : (t.putAll q k ws).cb = t.cb := by
  unfold putAll
  induction ws generalizing t with
  | nil => rfl
  | cons w ws ih => rw [List.foldl_cons, ih, put_cb]
@[simp] theorem putAll_mode (q : Bool) (k : Nat) (ws : List Wr) : (t.putAll q k ws).mode = t.mode := by
  unfold putAll
  induction ws generalizing t with
  | nil => rfl
  | cons w ws ih => rw [List.foldl_cons, ih, put_mode]
@[simp] theorem putAll_fpflags (q : Bool) (k : Nat) (ws : List Wr) : (t.putAll q k ws).fpflags = t.fpflags := by
  unfold putAll
  induction ws generalizing t with
  | nil => rfl
  | cons w ws ih => rw [List.foldl_cons, ih, put_fpflags]
@[simp] theorem putAll_xconf (q : Bool) (k : Nat) (ws : List Wr) : (t.putAll q k ws).xconf = t.xconf := by
  unfold putAll
  induction ws generalizing t with
  | nil => rfl
  | cons w ws ih => rw [List.foldl_cons, ih, put_xconf]
@[simp] theorem putAll_msgst (q : Bool) (k : Nat) (ws : List Wr) : (t.putAll q k ws).msgst = t.msgst := by
  unfold putAll
  induction ws generalizing t with
  | nil => rfl
  | cons w ws ih => rw [List.foldl_cons, ih, put_msgst]
@[simp] theorem putAll_step (q : Bool) (k : Nat) (ws : List Wr) : (t.putAll q k ws).step = t.step := by
  unfold putAll
  induction ws generalizing t with
  | nil => rfl
  | cons w ws ih => rw [List.foldl_cons, ih, put_step]
@[simp] theorem putAll_tryst (q : Bool) (k : Nat) (ws : List Wr) : (t.putAll q k ws).tryst = t.tryst := by
  unfold putAll
  induction ws generalizing t with
  | nil => rfl
  | cons w ws ih => rw [List.foldl_cons, ih, put_tryst]
@[simp] theorem putAll_tryaddr (q : Bool) (k : Nat) (ws : List Wr) : (t.putAll q k ws).tryaddr = t.tryaddr := by
  unfold putAll
  induction ws generalizing t with
  | nil => rfl
  | cons w ws ih => rw [List.foldl_cons, ih, put_tryaddr]
@[simp] theorem putAll_abortm (q : Bool) (k : Nat) (ws : List Wr) : (t.putAll q k ws).abortm = t.abortm := by
  unfold putAll
  induction ws generalizing t with
  | nil => rfl
  | cons w ws ih => rw [List.foldl_cons, ih, put_abortm]
@[simp] theorem putAll_tr (q : Bool) (k : Nat) (ws : List Wr) : (t.putAll q k ws).tr = t.tr := by
  unfold putAll
  induction ws generalizing t with
  | nil => rfl
  | cons w ws ih => rw [List.foldl_cons, ih, put_tr]
@[simp] theorem putAll_abort (q : Bool) (k : Nat) (ws : List Wr) : (t.putAll q k ws).abort = t.abort := by
  unfold putAll
  induction ws generalizing t with
  | nil => rfl
  | cons w ws ih => rw [List.foldl_cons, ih, put_abort]
@[simp] theorem putAll_hwue (q : Bool) (k : Nat) (ws : List Wr) : (t.putAll q k ws).hwue = t.hwue := by
  unfold putAll
  induction ws generalizing t with
  | nil => rfl
  | cons w ws ih => rw [List.foldl_cons, ih, put_hwue]
@[simp] theorem putAll_hnd (q : Bool) (k : Nat) (ws : List Wr) : (t.putAll q k ws).hnd = t.hnd := by
  unfold putAll
  induction ws generalizing t with
  | nil => rfl
  | cons w ws ih => rw [List.foldl_cons, ih, put_hnd]
@[simp] theorem putAll_outst (q : Bool) (k : Nat) (ws : List Wr) : (t.putAll q k ws).outst = t.outst := by
  unfold putAll
  induction ws generalizing t with
  | nil => rfl
  | cons w ws ih => rw [List.foldl_cons, ih, put_outst]
@[simp] theorem putAll_acq (q : Bool) (k : Nat) (ws : List Wr) : (t.putAll q k ws).acq = t.acq := by
  unfold putAll
  induction ws generalizing t with
  | nil => rfl
  | cons w ws ih => rw [List.foldl_cons, ih, put_acq]
@[simp] theorem putAll_know (q : Bool) (k : Nat) (ws : List Wr) : (t.putAll q k ws).know = t.know := by
  unfold putAll
  induction ws generalizing t with
  | nil => rfl
  | cons w ws ih => rw [List.foldl_cons, ih, put_know]
@[simp] theorem putAll_taint (q : Bool) (k : Nat) (ws : List Wr) : (t.putAll q k ws).taint = t.taint := by
  unfold putAll
  induction ws generalizing t with
  | nil => rfl
  | cons w ws ih => rw [List.foldl_cons, ih, put_taint]
@[simp] theorem putAll_pepoch (q : Bool) (k : Nat) (ws : List Wr) : (t.putAll q k ws).pepoch = t.pepoch := by
  unfold putAll
  induction ws generalizing t with
  | nil => rfl
  | cons w ws ih => rw [List.foldl_cons, ih, put_pepoch]
@[simp] theorem putAll_ptag (q : Bool) (k : Nat) (ws : List Wr) : (t.putAll q k ws).ptag = t.ptag := by
  unfold putAll
  induction ws generalizing t with
  | nil => rfl
  | cons w ws ih => rw [List.foldl_cons, ih, put_ptag]
@[simp] theorem putAll_hold (q : Bool) (k : Nat) (ws : List Wr) : (t.putAll q k ws).hold = t.hold := by
  unfold putAll
  induction ws generalizing t with
  | nil => rfl
  | cons w ws ih => rw [List.foldl_cons, ih, put_hold]
@[simp] theorem putAll_stopped (q : Bool) (k : Nat) (ws : List Wr) : (t.putAll q k ws).stopped = t.stopped := by
  unfold putAll
  induction ws generalizing t with
  | nil => rfl
  | cons w ws ih => rw [List.foldl_cons, ih, put_stopped]
@[simp] theorem putAll_ended (q : Bool) (k : Nat) (ws : List Wr) : (t.putAll q k ws).ended = t.ended := by
  unfold putAll
  induction ws generalizing t with
  | nil => rfl
  | cons w ws ih => rw [List.foldl_cons, ih, put_ended]
@[simp] theorem putAll_nid (q : Bool) (k : Nat) (ws : List Wr) : (t.putAll q k ws).nid = t.nid := by
  unfold putAll
  induction ws generalizing t with
  | nil => rfl
  | cons w ws ih => rw [List.foldl_cons, ih, put_nid]

@[simp] theorem setPath_path_same (k : Nat) (p : Option Path) : (t.setPath k p).path? k = p := by
  unfold setPath path?; split <;> rfl
theorem setPath_path_other {k j : Nat} (p : Option Path) (h : (j = 0) ≠ (k = 0)) : (t.setPath k p).path? j = t.path? j := by
  unfold setPath path?
  by_cases hk : k = 0 <;> by_cases hj : j = 0 <;> simp_all
@[simp] theorem setPath_vAt (k : Nat) (p : Option Path) : (t.setPath k p).vAt = t.vAt := by
  funext r l; unfold vAt; rw [setPath_v]


theorem putV_vAt (r l r' l' : Nat) (w : Word) (hl : l < 96) (hl' : l' < 96) :
    (t.putV r l w).vAt r' l' = if r' = r ∧ l' = l then w else t.vAt r' l' := by
  unfold putV vAt
  simp only [Tab.get_set]
  by_cases h : r' = r ∧ l' = l
  · obtain ⟨rfl, rfl⟩ := h; simp
  · rw [if_neg h, if_neg (by omega)]
/-- Register 0 keeps reading as zero whatever is written (R17). -/
@[simp] theorem sAt_zero : t.sAt 0 = 0 := rfl
theorem putS_sAt (q : Bool) (k n m : Nat) (w : Word) (h : n ≠ 0) (hm : q = true ∨ n < 61) :
    (t.putS q k n w).sAt m = if m = n then w else t.sAt m := by
  unfold putS
  rw [if_neg h, if_neg (by rcases hm with rfl | hm <;> simp; omega)]
  unfold sAt
  simp only [Tab.get_set]
  by_cases hz : m = 0
  · subst hz; simp [Ne.symm h]
  · simp [hz]
/-- A write to register 0 is discarded (R17). -/
@[simp] theorem putS_zero (q : Bool) (k : Nat) (w : Word) : t.putS q k 0 w = t := rfl

end Stream

end Sys2Proof.Machine
end

