-- ==== Sys2Proof/Laws/Issue.lean ====
section
/-! SUPPORT. What the issue of an instruction and its end come to. -/
namespace Sys2Proof.Machine

/-- An instruction that passes the checks carries out its meaning. -/
theorem issue_go {op : Nat} {o : Opnds} {s : State} {c : Ctx} (body : Ctx → Eff) (h : gate op o s = .go c) :
    issue op o s body = .next (finish c s (body c)) := by
  unfold issue; rw [h]

/-- An instruction that waits, traps or aborts at a check leaves the state the check gives. -/
theorem issue_stay {op : Nat} {o : Opnds} {s s' : State} (body : Ctx → Eff) (h : gate op o s = .stay s') :
    issue op o s body = .next s' := by
  unfold issue; rw [h]

/-- Without an issuing path the word faults. -/
theorem issue_nobody {op : Nat} {o : Opnds} {s : State} (body : Ctx → Eff) (h : gate op o s = .nobody) :
    issue op o s body = .fault .noIssuer := by
  unfold issue; rw [h]

/-- A meaning that completes. -/
theorem issue_ok {op : Nat} {o : Opnds} {s s' : State} {c : Ctx} {ws : List Wr} {body : Ctx → Eff} (h : gate op o s = .go c)
    (hb : body c = .ok s' ws) : issue op o s body = .next (retire c s' ws) := by
  rw [issue_go body h, hb]; rfl

/-- A meaning that transfers control. -/
theorem issue_jump {op : Nat} {o : Opnds} {s s' : State} {c : Ctx} {body : Ctx → Eff} (h : gate op o s = .go c)
    (hb : body c = .jump s') : issue op o s body = .next s' := by
  rw [issue_go body h, hb]; rfl

/-- A meaning that traps. -/
theorem issue_trap {op : Nat} {o : Opnds} {s : State} {c : Ctx} {cause : Nat} {addr : Addr} {aux : Word} {body : Ctx → Eff}
    (h : gate op o s = .go c) (hb : body c = .trap cause addr aux) : issue op o s body = .next (takeTrap s c.sid c.k cause addr aux) := by
  rw [issue_go body h, hb]; rfl

/-- A meaning that waits changes nothing. -/
theorem issue_wait {op : Nat} {o : Opnds} {s : State} {c : Ctx} {body : Ctx → Eff} (h : gate op o s = .go c) (hb : body c = .wait) :
    issue op o s body = .next s := by
  rw [issue_go body h, hb]; rfl

-- Register writes

/-- Every vector write of a list is of a lane below 96. -/
def lanesOk (ws : List Wr) : Prop := ∀ r l w, Wr.v r l w ∈ ws → l < 96

theorem lanesOk_cons {w : Wr} {ws : List Wr} : lanesOk (w :: ws) ↔ lanesOk [w] ∧ lanesOk ws := by
  unfold lanesOk
  constructor
  · intro h; exact ⟨fun r l x hx => h r l x (by simp at hx; simp [hx]), fun r l x hx => h r l x (by simp [hx])⟩
  · rintro ⟨h1, h2⟩ r l x hx
    rcases List.mem_cons.1 hx with rfl | hx
    · exact h1 r l x (by simp)
    · exact h2 r l x hx

theorem lanesOk_filter {ws : List Wr} (f : Wr → Bool) (h : lanesOk ws) : lanesOk (ws.filter f) :=
  fun r l w hw => h r l w (List.mem_filter.1 hw).1

theorem lanes_list_lt {m : Lanes} {l : Nat} (h : l ∈ m.list) : l < 96 := by
  unfold Lanes.list at h; simp at h; exact h.1

theorem mem_lanes_list {m : Lanes} {l : Nat} : l ∈ m.list ↔ l < 96 ∧ m.getLsbD l = true := by
  unfold Lanes.list; simp

theorem lanesOk_wrVec (r : Nat) (m : Lanes) (f : Nat → Word) : lanesOk (wrVec r m f) := by
  intro r' l w h
  unfold wrVec at h
  obtain ⟨i, hi, he⟩ := List.mem_map.1 h
  cases he; exact lanes_list_lt hi

theorem lanesOk_res (c : Ctx) (f : Nat → Word) : lanesOk (c.res f) := by
  unfold Ctx.res
  split
  · intro r l w h; simp at h
  · split
    · exact lanesOk_wrVec _ _ _
    · intro r l w h; simp at h

namespace Stream

theorem putS_vAt (t : Stream) (q : Bool) (k n r l : Nat) (w : Word) : (t.putS q k n w).vAt r l = t.vAt r l := by
  unfold vAt; rw [putS_v]

theorem putV_sAt (t : Stream) (r l n : Nat) (w : Word) : (t.putV r l w).sAt n = t.sAt n := rfl

/-- A vector lane that no write names keeps its value. -/
theorem putAll_vAt_other (t : Stream) (q : Bool) (k r l : Nat) (ws : List Wr) (hl : l < 96) (hw : lanesOk ws)
    (h : ∀ w, Wr.v r l w ∉ ws) : (t.putAll q k ws).vAt r l = t.vAt r l := by
  unfold putAll
  induction ws generalizing t with
  | nil => rfl
  | cons x ws ih =>
    rw [List.foldl_cons, ih _ (lanesOk_cons.1 hw).2 (fun w hx => h w (by simp [hx]))]
    cases x with
    | v r' l' w' =>
      show (t.putV r' l' w').vAt r l = _
      rw [putV_vAt _ _ _ _ _ _ (hw r' l' w' (by simp)) hl, if_neg]
      rintro ⟨rfl, rfl⟩; exact h w' (by simp)
    | s n w' => exact putS_vAt ..

/-- A scalar that no write names keeps its value. -/
theorem putAll_sAt_other (t : Stream) (q : Bool) (k n : Nat) (ws : List Wr) (h : ∀ w, Wr.s n w ∉ ws) :
    (t.putAll q k ws).sAt n = t.sAt n := by
  unfold putAll
  induction ws generalizing t with
  | nil => rfl
  | cons x ws ih =>
    rw [List.foldl_cons, ih _ (fun w hx => h w (by simp [hx]))]
    cases x with
    | v r' l' w' => rfl
    | s m w' =>
      show (t.putS q k m w').sAt n = _
      have hm : n ≠ m := fun hh => h w' (by simp [hh])
      unfold putS
      split
      · rfl
      · split
        · split
          · unfold sAt; rw [setPath_s]
          · rfl
        · unfold sAt; simp only [Tab.get_set_other _ _ _ hm]

/-- The last write of a vector lane stands. -/
theorem putAll_vAt_last (t : Stream) (q : Bool) (k r l : Nat) (w : Word) (xs ys : List Wr) (hl : l < 96) (hw : lanesOk ys)
    (h : ∀ w', Wr.v r l w' ∉ ys) : (t.putAll q k (xs ++ Wr.v r l w :: ys)).vAt r l = w := by
  have : t.putAll q k (xs ++ Wr.v r l w :: ys) = ((t.putAll q k xs).putV r l w).putAll q k ys := by
    unfold putAll; rw [List.foldl_append, List.foldl_cons]; rfl
  rw [this, putAll_vAt_other _ _ _ _ _ _ hl hw h, putV_vAt _ _ _ _ _ _ hl hl]; simp

/-- The last write of a scalar stands; a course's mask words go to its path (R17, R97). -/
theorem putAll_sAt_last (t : Stream) (q : Bool) (k n : Nat) (w : Word) (xs ys : List Wr) (hn : n ≠ 0) (hq : q = true ∨ n < 61)
    (h : ∀ w', Wr.s n w' ∉ ys) : (t.putAll q k (xs ++ Wr.s n w :: ys)).sAt n = w := by
  have : t.putAll q k (xs ++ Wr.s n w :: ys) = ((t.putAll q k xs).putS q k n w).putAll q k ys := by
    unfold putAll; rw [List.foldl_append, List.foldl_cons]; rfl
  rw [this, putAll_sAt_other _ _ _ _ _ h, putS_sAt _ _ _ _ _ _ hn hq]; simp

/-- The path in the other slot keeps all. -/
theorem putAll_path_other (t : Stream) (q : Bool) (k : Nat) (ws : List Wr) : (t.putAll q k ws).path? (1 - k) = t.path? (1 - k) := by
  unfold putAll
  induction ws generalizing t with
  | nil => rfl
  | cons x ws ih =>
    rw [List.foldl_cons, ih]
    cases x with
    | v r l w => rfl
    | s n w =>
      show (t.putS q k n w).path? (1 - k) = _
      unfold putS
      split
      · rfl
      · split
        · split
          · apply setPath_path_other
            by_cases hk : k = 0
            · subst hk; simp
            · have : 1 - k = 0 := by omega
              simp [hk, this]
          · rfl
        · rfl

/-- The issuing path keeps all but its mask and the mask's poison. -/
theorem putAll_path_same (t : Stream) (q : Bool) (k : Nat) (ws : List Wr) (p : Path) (hp : t.path? k = some p) :
    ∃ m e, (t.putAll q k ws).path? k = some { p with em := m, emp := e } ∧
      ((q = true ∨ ∀ n w, Wr.s n w ∈ ws → n < 61) → m = p.em ∧ e = p.emp) := by
  unfold putAll
  induction ws generalizing t p with
  | nil => exact ⟨p.em, p.emp, hp, fun _ => ⟨rfl, rfl⟩⟩
  | cons x ws ih =>
    rw [List.foldl_cons]
    cases x with
    | v r l w =>
      obtain ⟨m, e, h1, h2⟩ := ih (t.put q k (.v r l w)) p (by show (t.putV r l w).path? k = _; exact hp)
      exact ⟨m, e, h1, fun h => h2 (h.imp id (fun h n w hw => h n w (by simp [hw])))⟩
    | s n w =>
      have key : (t.put q k (.s n w)).path? k = some p ∨
          (q = false ∧ 61 ≤ n ∧ (t.put q k (.s n w)).path? k
            = some { p with em := emWrite t p (n - 61) w, emp := p.emp.filter (fun i => i ≠ n) }) := by
        show (t.putS q k n w).path? k = _ ∨ (_ ∧ _ ∧ (t.putS q k n w).path? k = _)
        unfold putS
        split
        · exact .inl hp
        · split
          · rename_i h; simp at h
            rw [hp]
            exact .inr ⟨h.1, h.2, setPath_path_same _ _ _⟩
          · exact .inl hp
      rcases key with h | ⟨hq, hn, h⟩
      · obtain ⟨m, e, h1, h2⟩ := ih _ p h
        exact ⟨m, e, h1, fun h => h2 (h.imp id (fun h n w hw => h n w (by simp [hw])))⟩
      · obtain ⟨m, e, h1, h2⟩ := ih _ _ h
        refine ⟨m, e, h1, fun h => ?_⟩
        rcases h with h | h
        · rw [h] at hq; cases hq
        · have := h n w (by simp); omega

end Stream

/-- A stream after an instruction of it has completed inside its block. -/
def afterInstr (c : Ctx) (t : Stream) (p : Path) (ws : List Wr) : Stream :=
  let lost := c.lost c.written
  let kept := c.written.filter (fun r => !lost.contains r && !c.t.bound r)
  ((({ t with hwue := t.hwue.filter (fun r => !(c.written.contains r && c.whole ws r)) }.setPath c.k
      (some (advance c t p kept))).overtake c.k kept).putAll c.seq c.k
    (ws.filter (fun w => !lost.contains w.reg && !c.t.bound w.reg)))

/-- The instruction is not the last of the path's block. -/
def midBlock (c : Ctx) (p : Path) : Prop := c.nextPc.toNat ≠ p.hdr.toNat + 4 * p.blk.length

/-- An instruction inside its block that writes no bound register changes its own stream alone (R82, R85). -/
theorem retire_mid {c : Ctx} {s : State} {t : Stream} {p : Path} (ws : List Wr) (ht : s.stream? c.sid = some t) (hp : t.path? c.k = some p)
    (hb : replies c.op = true ∨ boundRegs c.t c.written = []) (hm : midBlock c p) :
    retire c s ws = s.setStream c.sid (afterInstr c t p ws) := by
  unfold midBlock at hm
  unfold retire
  rw [ht]; simp only [hp]
  rw [if_neg (by show ¬(c.nextPc.toNat = p.hdr.toNat + 4 * p.blk.length); exact hm)]
  rcases hb with h | h
  · rw [if_pos h]; rfl
  · split
    · rfl
    · rw [h]; rfl

-- The checks

/-- Popping queues changes the cluster's queues and what the instruction sees, nothing else. -/
theorem popQueues_nil (s : State) (cl : Nat) (t : Stream) : popQueues s cl t [] = some (s, t) := rfl

theorem popQueues_streams {s s' : State} {cl : Nat} {t t' : Stream} {rq : List (Nat × Nat)} (h : popQueues s cl t rq = some (s', t')) :
    s' = { s with clusters := s'.clusters } := by
  induction rq generalizing s t with
  | nil => simp only [popQueues, Option.some.injEq, Prod.mk.injEq] at h; rw [← h.1]
  | cons r rest ih =>
    obtain ⟨n, hq⟩ := r
    simp only [popQueues] at h
    split at h
    · split at h
      · have := ih h
        rw [this]; rfl
      · cases h
    · cases h

theorem boundTo_nil {t : Stream} (h : t.q = []) (n : Nat) : t.boundTo n = none := by
  unfold Stream.boundTo Stream.qAt
  rw [h]; simp [Tab.get, List.findSome?_eq_none_iff]

theorem bound_nil {t : Stream} (h : t.q = []) (r : Reg) : t.bound r = false := by
  cases r <;> simp [Stream.bound, boundTo_nil h]

/-- No binding, no bound register. -/
theorem boundRegs_nil {t : Stream} (h : t.q = []) (rs : List Reg) : boundRegs t rs = [] := by
  unfold boundRegs
  suffices ∀ acc : List (Nat × Nat), rs.foldl (fun acc r => match r with
    | .v n => (match t.boundTo n with
      | some b => if acc.contains (n, b.hq) then acc else acc ++ [(n, b.hq)]
      | none => acc)
    | _ => acc) acc = acc from this []
  intro acc
  induction rs generalizing acc with
  | nil => rfl
  | cons r rs ih =>
    rw [List.foldl_cons]
    have e : (match r with
        | .v n => (match t.boundTo n with
          | some b => if acc.contains (n, b.hq) then acc else acc ++ [(n, b.hq)]
          | none => acc)
        | _ => acc) = acc := by
      cases r with
      | v n => simp only [boundTo_nil h]
      | s n => rfl
      | sh n => rfl
    rw [e]; exact ih acc

theorem ite_go {p : Prop} [Decidable p] {a b : Gate} {c : Ctx} (h : (if p then a else b) = .go c) (ha : a ≠ .go c) : b = .go c := by
  by_cases hp : p
  · rw [if_pos hp] at h; exact absurd h ha
  · rwa [if_neg hp] at h

/-- What an instruction that passes every check of R94 finds: the issuing stream and path, its row, and the state with its queue entries
popped. -/
theorem gate_go {op : Nat} {o : Opnds} {s : State} {c : Ctx} (h : gate op o s = .go c) :
    c.sid = s.cur.1 ∧ c.k = s.cur.2 ∧ c.op = op ∧ c.o = o ∧ s.stream? c.sid = some c.t ∧
    row (unitOf c.sid) op o.mod = some c.row ∧ preIssue s c.sid c.k c.t = none ∧
    c.t.path? c.k = some c.p ∧
    c.s = { s with clusters := c.s.clusters } ∧ (c.t.q = [] → c.s = s) := by
  unfold gate at h
  dsimp only at h
  split at h
  · cases h
  · rename_i t ht
    split at h
    · rename_i p0 r hp hr
      split at h
      · cases h
      · rename_i hpre
        generalize (if (!isSeq s.cur.fst) = true then
          match t.path? (1 - s.cur.snd) with
            | some q => (crossing s.fresh q.pend t).withMask p0.em
            | none => t.withMask p0.em
          else t) = tm at h
        iterate 12 replace h := ite_go h (fun h => nomatch h)
        split at h
        · cases h
        rename_i s' tv hpop
        cases h
        refine ⟨rfl, rfl, rfl, rfl, ht, hr, hpre, hp, popQueues_streams hpop, ?_⟩
        intro hq
        rw [boundRegs_nil hq] at hpop
        simp only [popQueues, Option.some.injEq, Prod.mk.injEq] at hpop
        exact hpop.1.symm
    · cases h

/-- The issuing stream is the same in the state the meaning starts from. -/
theorem gate_go_stream {op : Nat} {o : Opnds} {s : State} {c : Ctx} (h : gate op o s = .go c) : c.s.stream? c.sid = some c.t := by
  obtain ⟨_, _, _, _, ht, _, _, _, hs, _⟩ := gate_go h
  rw [hs]; exact ht

end Sys2Proof.Machine
end

