-- ==== Sys2Proof/Laws/Frame.lean ====
section
/-! SUPPORT. What an instruction that completes leaves alone. -/
namespace Sys2Proof.Machine

theorem reg_of_mem {ws : List Wr} {rs : List Reg} (h : ∀ w ∈ ws, w.reg ∈ rs) :
    (∀ r l x, Wr.v r l x ∈ ws → Reg.v r ∈ rs) ∧ (∀ n x, Wr.s n x ∈ ws → Reg.s n ∈ rs) :=
  ⟨fun r l x hx => h (.v r l x) hx, fun n x hx => h (.s n x) hx⟩

theorem other_slot (k : Nat) : (1 - k = 0) ≠ (k = 0) := by
  by_cases h : k = 0
  · rw [h]; simp
  · have : 1 - k = 0 := by omega
    simp [h, this]

/-- The registers that an instruction does not write, the other path and the special registers stay (R82, R85, R98). -/
theorem afterInstr_keeps {c : Ctx} {t : Stream} {p : Path} {ws : List Wr} (hp : t.path? c.k = some p) (hl : lanesOk ws)
    (hw : ∀ w ∈ ws, w.reg ∈ c.written) : KeepsOthers c c.written t (afterInstr c t p ws) := by
  obtain ⟨hv, hs⟩ := reg_of_mem hw
  unfold afterInstr
  dsimp only
  generalize hf : ws.filter (fun w => !(c.lost c.written).contains w.reg && !c.t.bound w.reg) = fs
  have hsub : ∀ w, w ∈ fs → w ∈ ws := by intro w h; rw [← hf] at h; exact (List.mem_filter.1 h).1
  have hlf : lanesOk fs := fun r l w h => hl r l w (hsub _ h)
  generalize ha : advance c t p _ = a
  have hadv : ∃ pc slot pend fl, a = { p with pc := pc, slot := slot, pend := pend, fl := fl, wait := none, held := false } := by
    rw [← ha]; exact ⟨_, _, _, _, rfl⟩
  obtain ⟨pc, slot, pend, fl, rfl⟩ := hadv
  constructor
  · intro r l hlt hr
    rw [Stream.putAll_vAt_other _ _ _ _ _ _ hlt hlf (fun w h => hr (hv r l w (hsub _ h)))]
    unfold Stream.vAt Stream.overtake; rw [Stream.setPath_v, Stream.setPath_v]
  · intro n hn
    rw [Stream.putAll_sAt_other _ _ _ _ _ (fun w h => hn (hs n w (hsub _ h)))]
    unfold Stream.sAt Stream.overtake; rw [Stream.setPath_s, Stream.setPath_s]
  · rw [Stream.putAll_path_other]
    unfold Stream.overtake
    rw [Stream.setPath_path_same, Stream.setPath_path_other _ _ (other_slot c.k)]
    show ∃ pend fl, (t.path? (1 - c.k)).map _ = (t.path? (1 - c.k)).map _
    cases t.path? (1 - c.k) with
    | none => exact ⟨[], [], rfl⟩
    | some q => exact ⟨_, q.fl, rfl⟩
  · intro q hq
    rw [hp] at hq; cases hq
    obtain ⟨m, e, h1, h2⟩ := Stream.putAll_path_same _ c.seq c.k fs _ ((Stream.setPath_path_other _ _ (Ne.symm (other_slot c.k))).trans
      (Stream.setPath_path_same _ c.k (some { p with pc := pc, slot := slot, pend := pend, fl := fl, wait := none, held := false })))
    refine ⟨pc, m, e, slot, pend, fl, h1, fun h => h2 (h.imp id (fun h n w hw => ?_))⟩
    by_cases hlt : n < 61
    · exact hlt
    · exact absurd (hs n w (hsub _ hw)) (h n (by omega))

theorem Stream.setPath_rest (t : Stream) (k : Nat) (p : Option Path) : ∃ a b, t.setPath k p = { t with p0 := a, p1 := b } := by
  unfold setPath; split
  · exact ⟨p, t.p1, rfl⟩
  · exact ⟨t.p0, p, rfl⟩

theorem Stream.put_rest (t : Stream) (q : Bool) (k : Nat) (w : Wr) :
    ∃ v vp s sp a b, t.put q k w = { t with v := v, vp := vp, s := s, sp := sp, p0 := a, p1 := b } := by
  cases w with
  | v r l x => exact ⟨_, _, _, _, _, _, rfl⟩
  | s n x =>
    show ∃ v vp s sp a b, t.putS q k n x = _
    unfold putS
    split
    · exact ⟨t.v, t.vp, t.s, t.sp, t.p0, t.p1, rfl⟩
    · split
      · split
        · obtain ⟨a, b, h⟩ := t.setPath_rest k (some { (‹Path› : Path) with
          em := emWrite t ‹Path› (n - 61) x, emp := (‹Path› : Path).emp.filter (fun i => i ≠ n) })
          exact ⟨t.v, t.vp, t.s, t.sp, a, b, h⟩
        · exact ⟨t.v, t.vp, t.s, t.sp, t.p0, t.p1, rfl⟩
      · exact ⟨_, _, _, _, _, _, rfl⟩

/-- Register writes change registers, poison and paths, nothing else of the stream. -/
theorem Stream.putAll_rest (t : Stream) (q : Bool) (k : Nat) (ws : List Wr) :
    ∃ v vp s sp a b, t.putAll q k ws = { t with v := v, vp := vp, s := s, sp := sp, p0 := a, p1 := b } := by
  unfold putAll
  induction ws generalizing t with
  | nil => exact ⟨t.v, t.vp, t.s, t.sp, t.p0, t.p1, rfl⟩
  | cons w ws ih =>
    obtain ⟨v, vp, s, sp, a, b, h⟩ := t.put_rest q k w
    rw [List.foldl_cons, h]
    obtain ⟨v', vp', s', sp', a', b', h'⟩ := ih { t with v := v, vp := vp, s := s, sp := sp, p0 := a, p1 := b }
    exact ⟨v', vp', s', sp', a', b', h'⟩

/-- Of an instruction's stream only registers, poison, paths and ended register errors change. -/
theorem afterInstr_rest (c : Ctx) (t : Stream) (p : Path) (ws : List Wr) :
    ∃ v vp s sp a b e, afterInstr c t p ws = { t with v := v, vp := vp, s := s, sp := sp, p0 := a, p1 := b, hwue := e } := by
  unfold afterInstr
  dsimp only
  generalize c.written.filter _ = kept
  unfold Stream.overtake
  generalize Option.map _ _ = other
  obtain ⟨a, b, h⟩ := Stream.setPath_rest { t with hwue := t.hwue.filter (fun r => !(c.written.contains r && c.whole ws r)) } c.k
    (some (advance c t p kept))
  rw [h]
  obtain ⟨a, b, h⟩ := Stream.setPath_rest { t with
    hwue := t.hwue.filter (fun r => !(c.written.contains r && c.whole ws r)), p0 := a, p1 := b } (1 - c.k) other
  rw [h]
  obtain ⟨v, vp, s, sp, a, b, h⟩ := Stream.putAll_rest { t with
    hwue := t.hwue.filter (fun r => !(c.written.contains r && c.whole ws r)), p0 := a, p1 := b } c.seq c.k
    (ws.filter (fun w => !(c.lost c.written).contains w.reg && !c.t.bound w.reg))
  rw [h]
  exact ⟨v, vp, s, sp, a, b, _, rfl⟩

/-- An instruction that only writes registers it names keeps the register frame. -/
theorem retire_frame {op : Nat} {o : Opnds} {s : State} {c : Ctx} {ws : List Wr} (h : gate op o s = .go c) (hq : c.unbound) (hm : c.inside)
    (hl : lanesOk ws) (hw : ∀ w ∈ ws, w.reg ∈ c.written) : RegisterFrame c s (retire c c.s ws) := by
  obtain ⟨_, _, _, _, ht, _, _, hp, _, hs⟩ := gate_go h
  have hs := hs hq
  rw [hs]
  rw [retire_mid ws ht hp (.inr (boundRegs_nil hq _)) hm]
  obtain ⟨v, vp, x, sp, a, b, e, he⟩ := afterInstr_rest c c.t c.p ws
  refine ⟨afterInstr c c.t c.p ws, afterInstr_keeps hp hl hw, ?_⟩
  rw [he]

end Sys2Proof.Machine
end

