-- ==== Sys2Proof/Laws/Memory.lean ====
section
/-! SUPPORT. Reading after a write, and that every memory operation keeps the canonical form (log 2). -/
namespace Sys2Proof.Machine

theorem memWf_reset : State.reset.memWf = true := by decide

/-- A byte after a write is the byte written, or the byte before outside the run. -/
theorem byteAt_writeMem (s : State) (a m : Nat) (bs : List Byte) :
    (s.writeMem a bs).byteAt m = if a ≤ m ∧ m < a + bs.length then nth 0 bs (m - a) else s.byteAt m := by
  unfold State.byteAt State.writeMem
  exact Tab.get_setList _ _ _ _ _

theorem byteAt_writeMem_other (s : State) (a m : Nat) (bs : List Byte) (h : m < a ∨ a + bs.length ≤ m) :
    (s.writeMem a bs).byteAt m = s.byteAt m := Tab.get_setList_other _ _ _ _ _ h

theorem memWf_of_mem {s t : State} (h : s.memWf = true) (e : t.mem = s.mem) : t.memWf = true := by
  unfold State.memWf at *; rw [e]; exact h

theorem memWf_writeMem {s : State} (a : Nat) (bs : List Byte) (h : s.memWf = true) : (s.writeMem a bs).memWf = true :=
  Tab.wf_setList a bs h

/-- A fold of operations each of which keeps the canonical form keeps it. -/
theorem memWf_foldl {α : Type} {f : State → α → State} (hf : ∀ s x, s.memWf = true → (f s x).memWf = true) (l : List α) {s : State}
    (h : s.memWf = true) : (l.foldl f s).memWf = true := by
  induction l generalizing s with
  | nil => exact h
  | cons x xs ih => exact ih (hf s x h)

theorem memWf_writeRuns (rs : List (Nat × Nat)) (bs : List Byte) {s : State} (h : s.memWf = true) : (writeRuns s rs bs).memWf = true := by
  induction rs generalizing s bs with
  | nil => exact h
  | cons r rs ih => exact ih _ (memWf_writeMem _ _ h)

theorem memWf_writeVa (w : Who) (acc : Acc) (va : Nat) (bs : List Byte) {s : State} (h : s.memWf = true) :
    (writeVa s w acc va bs).memWf = true := memWf_writeRuns _ _ h

theorem memWf_writeSegs (w : Who) (acc : Acc) (rs : List (Nat × Nat)) (bs : List Byte) {s : State} (h : s.memWf = true) :
    (writeSegs s w acc rs bs).memWf = true := by
  induction rs generalizing s bs with
  | nil => exact h
  | cons r rs ih => exact ih _ (memWf_writeVa w acc _ _ h)

theorem memWf_writeSpas (as : List Nat) (bs : List Byte) {s : State} (h : s.memWf = true) : (writeSpas s as bs).memWf = true :=
  memWf_foldl (fun _ _ h => memWf_writeMem _ _ h) _ h

theorem memWf_putItems (spa : Nat) (payload : List Byte) {s : State} (h : s.memWf = true) : (putItems s spa payload).memWf = true :=
  memWf_foldl (fun _ _ h => memWf_writeMem _ _ h) _ h

theorem memWf_modPart (p : Nat) (f : Part → Part) {s : State} (h : s.memWf = true) : (s.modPart p f).memWf = true := h

theorem memWf_modStream (sid : Nat) (f : Stream → Stream) {s : State} (h : s.memWf = true) : (s.modStream sid f).memWf = true := by
  unfold State.modStream; split
  · exact h
  · exact h

theorem memWf_liveWrite (e : PEnt) {s : State} (h : s.memWf = true) : (liveWrite s e).memWf = true := by
  unfold liveWrite
  have h1 : (e.bytes.foldl (fun (s : State) (b : Nat × Byte) => s.writeMem b.1 [b.2]) s).memWf = true := memWf_foldl (fun _ _ h => memWf_writeMem _ _ h) _ h
  dsimp only
  split
  · exact h1
  · exact h1

theorem memWf_ite (c : Prop) [Decidable c] {s t : State} (hs : s.memWf = true) (ht : t.memWf = true) : (if c then s else t).memWf = true := by
  split
  · exact hs
  · exact ht

/-- A piece performed keeps the canonical form, whatever it does (R196). -/
theorem memWf_performPiece (p : Piece) {s : State} (h : s.memWf = true) : (performPiece s p).1.memWf = true := by
  obtain ⟨_, _, spa, op, _, _⟩ := p
  cases op with
  | read n => exact h
  | write bs => exact memWf_writeMem _ _ h
  | atom op x mode =>
    simp only [performPiece]
    split
    · exact h
    · exact memWf_writeMem _ _ h
  | cas e x =>
    simp only [performPiece]
    split
    · exact h
    · dsimp only
      split
      · exact memWf_writeMem _ _ h
      · exact h
  | cas64 e x =>
    simp only [performPiece]
    split
    · exact h
    · dsimp only
      split
      · exact memWf_writeMem _ _ h
      · exact h

theorem memWf_performPieces (ps : List Piece) {s : State} (h : s.memWf = true) : (performPieces s ps).1.memWf = true := by
  induction ps generalizing s with
  | nil => exact h
  | cons p ps ih => exact ih (memWf_performPiece p h)

theorem memWf_notice (p frame : Nat) {s : State} (h : s.memWf = true) : (notice s p frame).memWf = true := by
  unfold notice
  dsimp only
  split
  · exact h
  · exact memWf_writeMem _ _ (memWf_writeMem _ _ h)

theorem memWf_countAccess_go (p spa : Nat) {s : State} (h : s.memWf = true) : (countAccess.go p spa s).memWf = true := by
  unfold countAccess.go
  dsimp only
  split
  · exact h
  · split
    · exact memWf_notice _ _ h
    · exact h

theorem memWf_countAccess (p spa : Nat) {s : State} (h : s.memWf = true) : (countAccess s p spa).memWf = true := by
  unfold countAccess
  split
  · exact memWf_countAccess_go _ _ h
  · exact memWf_countAccess_go _ _ h
  · exact h

theorem memWf_countRuns (p : Nat) (rs : List (Nat × Nat)) {s : State} (h : s.memWf = true) : (countRuns s p rs).memWf = true :=
  memWf_foldl (fun _ _ h => memWf_countAccess _ _ h) _ h

theorem memWf_countGranules (p : Nat) (w : Who) (acc : Acc) (rs : List (Nat × Nat)) {s : State} (h : s.memWf = true) :
    (countGranules s p w acc rs).memWf = true :=
  memWf_foldl (fun _ _ h => memWf_countRuns _ _ h) _ h

theorem memWf_darkened {s : State} (h : s.memWf = true) : (darkened s).memWf = true := Tab.wf_keep inScm h

theorem memWf_zeroWindow (die wbase units : Nat) {s : State} (h : s.memWf = true) : (zeroWindow s die wbase units).memWf = true :=
  Tab.wf_keep _ h

-- Taking a trap writes its record and nothing else

theorem memWf_stageRecord (p : Nat) (e : Event) {s : State} (h : s.memWf = true) : (stageRecord s p e).memWf = true := by
  unfold stageRecord
  dsimp only
  split
  · exact h
  · exact memWf_writeMem _ _ h

theorem memWf_flagRecord (p idx flag : Nat) {s : State} (h : s.memWf = true) : (flagRecord s p idx flag).memWf = true := by
  unfold flagRecord
  split
  · exact h
  · dsimp only
    split
    · exact h
    · exact memWf_writeMem _ _ h

theorem memWf_arbiter (p : Nat) (e : Event) {s : State} (h : s.memWf = true) : (arbiter s p e).memWf = true := by
  unfold arbiter
  dsimp only
  split
  · exact h
  · exact memWf_stageRecord _ _ h

theorem memWf_haltForGood (p : Nat) {s : State} (h : s.memWf = true) : (haltForGood s p).memWf = true := by
  unfold haltForGood
  split <;> exact h

theorem memWf_setAbort (sid : Nat) (a : AbortReq) {s : State} (h : s.memWf = true) : (setAbort s sid a).memWf = true :=
  memWf_modStream sid _ h

/-- Taking a trap keeps the canonical form (R401, R404). -/
theorem memWf_takeTrap (sid k cause : Nat) (addr : Addr) (aux : Word) {s : State} (h : s.memWf = true) :
    (takeTrap s sid k cause addr aux).memWf = true := by
  unfold takeTrap
  split
  · exact h
  · dsimp only
    split
    · exact memWf_haltForGood _ (memWf_arbiter _ _ h)
    · split
      · exact memWf_setAbort _ _ h
      · exact memWf_arbiter _ _ h

end Sys2Proof.Machine
end

