-- ==== Sys2Proof/Laws/PerInstr.lean ====
section
/-! SUPPORT. One lemma for each instruction: an instruction word stands under an assigned opcode (Table 4.10). -/
namespace Sys2Proof.Laws.Assigned
open Sys2Proof Sys2Proof.Machine

/-- The opcode of an instruction word is a byte that the opcode table assigns to a unit; an event has no opcode. -/
def Statement (i : Instr) : Prop := ∀ op o, wordOf i = some (op, o) → op < 256 ∧ (issuePt op).isSome = true

theorem of_word {i : Instr} {k : Nat} {x : Opnds} (h : wordOf i = some (k, x)) (hk : k < 256 ∧ (issuePt k).isSome = true) : Statement i := by
  intro op o he
  rw [h] at he
  cases he
  exact hk

theorem of_event {i : Instr} (h : wordOf i = none) : Statement i := by
  intro op o he
  rw [h] at he
  cases he

theorem commitSectorSend (sid : Nat) : Statement (.commitSectorSend sid) := of_event rfl
theorem copyRow (op : Nat) : Statement (.copyRow op) := of_event rfl
theorem gatherRow (op : Nat) : Statement (.gatherRow op) := of_event rfl
theorem scatterIndex (op : Nat) : Statement (.scatterIndex op) := of_event rfl
theorem engineOpComplete (op : Nat) : Statement (.engineOpComplete op) := of_event rfl
theorem tileOpComplete (cl op : Nat) : Statement (.tileOpComplete cl op) := of_event rfl
theorem slotPublished (st : Nat) : Statement (.slotPublished st) := of_event rfl
theorem subscriptionSlotCopy (st cl : Nat) : Statement (.subscriptionSlotCopy st cl) := of_event rfl
theorem mmaExecute (cl : Nat) : Statement (.mmaExecute cl) := of_event rfl
theorem drainExecute (cl : Nat) : Statement (.drainExecute cl) := of_event rfl
theorem drainPushResume (cl : Nat) : Statement (.drainPushResume cl) := of_event rfl
theorem acczExecute (cl : Nat) : Statement (.acczExecute cl) := of_event rfl
theorem amodeSwitch (cl : Nat) : Statement (.amodeSwitch cl) := of_event rfl
theorem sloadExecute (cl : Nat) : Statement (.sloadExecute cl) := of_event rfl
theorem sstoreExecute (cl : Nat) : Statement (.sstoreExecute cl) := of_event rfl
theorem szeroExecute (cl : Nat) : Statement (.szeroExecute cl) := of_event rfl
theorem sevalExecute (cl : Nat) : Statement (.sevalExecute cl) := of_event rfl
theorem sderExecute (cl : Nat) : Statement (.sderExecute cl) := of_event rfl
theorem sgradExecute (cl : Nat) : Statement (.sgradExecute cl) := of_event rfl
theorem srefineExecute (cl : Nat) : Statement (.srefineExecute cl) := of_event rfl
theorem rdPacket (p : Packet) : Statement (.rdPacket p) := of_event rfl
theorem wrPacket (p : Packet) : Statement (.wrPacket p) := of_event rfl
theorem wrfPacket (p : Packet) : Statement (.wrfPacket p) := of_event rfl
theorem atPacket (p : Packet) : Statement (.atPacket p) := of_event rfl
theorem csPacket (p : Packet) : Statement (.csPacket p) := of_event rfl
theorem flgPacket (p : Packet) : Statement (.flgPacket p) := of_event rfl
theorem msgPacket (p : Packet) : Statement (.msgPacket p) := of_event rfl
theorem mcstPacket (p : Packet) : Statement (.mcstPacket p) := of_event rfl
theorem mcrdPacket (p : Packet) : Statement (.mcrdPacket p) := of_event rfl
theorem mcrrPacket (p : Packet) : Statement (.mcrrPacket p) := of_event rfl
theorem nackPacket (p : Packet) : Statement (.nackPacket p) := of_event rfl
theorem packetDropped (p : Packet) : Statement (.packetDropped p) := of_event rfl
theorem absenceWindowExpiry (group sq : Nat) : Statement (.absenceWindowExpiry group sq) := of_event rfl
theorem flitReplay (port : Nat) : Statement (.flitReplay port) := of_event rfl
theorem linkDown (port : Nat) (lostPkgs : List Nat) : Statement (.linkDown port lostPkgs) := of_event rfl
theorem pAccept (k : Nat) : Statement (.pAccept k) := of_event rfl
theorem persistDrain : Statement .persistDrain := of_event rfl
theorem windlassSweep (part page : Nat) : Statement (.windlassSweep part page) := of_event rfl
theorem localCommit (part : Nat) : Statement (.localCommit part) := of_event rfl
theorem stripeContribution (part stripe idx : Nat) (step : Word) (unit : List Byte) : Statement (.stripeContribution part stripe idx step unit) := of_event rfl
theorem stripeCommit (part : Nat) : Statement (.stripeCommit part) := of_event rfl
theorem powerFail : Statement .powerFail := of_event rfl
theorem holdupCharged : Statement .holdupCharged := of_event rfl
theorem holdupLow : Statement .holdupLow := of_event rfl
theorem holdupLowTimeout : Statement .holdupLowTimeout := of_event rfl
theorem nopPacket (q : Nat) : Statement (.nopPacket q) := of_event rfl
theorem launchPacket (q : Nat) : Statement (.launchPacket q) := of_event rfl
theorem copyPacket (q : Nat) : Statement (.copyPacket q) := of_event rfl
theorem signalSet (q : Nat) : Statement (.signalSet q) := of_event rfl
theorem signalDec (q : Nat) : Statement (.signalDec q) := of_event rfl
theorem signalDecFailed (q : Nat) : Statement (.signalDecFailed q) := of_event rfl
theorem waitPacket (q : Nat) : Statement (.waitPacket q) := of_event rfl
theorem cancelPacket (q : Nat) : Statement (.cancelPacket q) := of_event rfl
theorem armPacket (q : Nat) : Statement (.armPacket q) := of_event rfl
theorem disarmPacket (q : Nat) : Statement (.disarmPacket q) := of_event rfl
theorem concurrentAdmit (l : Nat) : Statement (.concurrentAdmit l) := of_event rfl
theorem batchHandoff (l die : Nat) : Statement (.batchHandoff l die) := of_event rfl
theorem priorityAging (w : Nat) : Statement (.priorityAging w) := of_event rfl
theorem tabStart (part cl : Nat) : Statement (.tabStart part cl) := of_event rfl
theorem teamDisplace (tm : Nat) : Statement (.teamDisplace tm) := of_event rfl
theorem launchComplete (l : Nat) : Statement (.launchComplete l) := of_event rfl
theorem cancelComplete (l : Nat) : Statement (.cancelComplete l) := of_event rfl
theorem replyArrival (tbl ent gen : Nat) (data : List Byte) : Statement (.replyArrival tbl ent gen data) := of_event rfl
theorem storeAck (tbl ent gen : Nat) : Statement (.storeAck tbl ent gen) := of_event rfl
theorem requestTimeout (tbl ent : Nat) : Statement (.requestTimeout tbl ent) := of_event rfl
theorem illegalOp (o : Opnds) : Statement (.illegalOp o) := of_event rfl
theorem partyStop (idx : Nat) : Statement (.partyStop idx) := of_event rfl
theorem handlerEntry (part : Nat) : Statement (.handlerEntry part) := of_event rfl
theorem preemptComplete (part : Nat) : Statement (.preemptComplete part) := of_event rfl
theorem queueWatchdogExpiry (q : Nat) : Statement (.queueWatchdogExpiry q) := of_event rfl
theorem armWatchdogExpiry (part : Nat) : Statement (.armWatchdogExpiry part) := of_event rfl
theorem watchdogReset (part : Nat) : Statement (.watchdogReset part) := of_event rfl
theorem clusterFence (cl : Nat) : Statement (.clusterFence cl) := of_event rfl
theorem mrtailWrite (slots : List (Nat × Byte)) (tail : Nat) : Statement (.mrtailWrite slots tail) := of_event rfl
theorem partCfgQuads : Statement .partCfgQuads := of_event rfl
theorem partCfgPtroot : Statement .partCfgPtroot := of_event rfl
theorem partCfgSrbase : Statement .partCfgSrbase := of_event rfl
theorem partCfgTvec : Statement .partCfgTvec := of_event rfl
theorem partCfgCtxbase : Statement .partCfgCtxbase := of_event rfl
theorem partCfgTabbase : Statement .partCfgTabbase := of_event rfl
theorem partCfgTabn : Statement .partCfgTabn := of_event rfl
theorem partCfgTabcfg : Statement .partCfgTabcfg := of_event rfl
theorem partCfgMigring : Statement .partCfgMigring := of_event rfl
theorem partCfgDomctl : Statement .partCfgDomctl := of_event rfl
theorem partCfgNvmeports : Statement .partCfgNvmeports := of_event rfl
theorem partTuneMto : Statement .partTuneMto := of_event rfl
theorem partTuneMigth : Statement .partTuneMigth := of_event rfl
theorem partTuneWdcfg : Statement .partTuneWdcfg := of_event rfl
theorem queueCfg : Statement .queueCfg := of_event rfl
theorem cntAlloc : Statement .cntAlloc := of_event rfl
theorem cntFree : Statement .cntFree := of_event rfl
theorem streamCfg : Statement .streamCfg := of_event rfl
theorem groupCfg : Statement .groupCfg := of_event rfl
theorem preempt : Statement .preempt := of_event rfl
theorem restore : Statement .restore := of_event rfl
theorem reset : Statement .reset := of_event rfl
theorem mboxAnswer : Statement .mboxAnswer := of_event rfl
theorem nvmeSubmit : Statement .nvmeSubmit := of_event rfl
theorem nvmeCompletion (port : Nat) (entry : List Byte) (dma : List (Nat × Byte)) : Statement (.nvmeCompletion port entry dma) := of_event rfl
theorem attest : Statement .attest := of_event rfl
theorem evictDone : Statement .evictDone := of_event rfl
theorem frameExtSet : Statement .frameExtSet := of_event rfl
theorem frameExtClear : Statement .frameExtClear := of_event rfl
theorem hostBar2Write (off : Nat) (bytes : List Byte) : Statement (.hostBar2Write off bytes) := of_event rfl
theorem hostBar2Read (off n : Nat) : Statement (.hostBar2Read off n) := of_event rfl
theorem hbeat : Statement .hbeat := of_event rfl
theorem boot (fwOk : Bool) (badClusters : List Nat) : Statement (.boot fwOk badClusters) := of_event rfl
theorem ejectN (level : Bool) : Statement (.ejectN level) := of_event rfl
theorem evictRequest : Statement .evictRequest := of_event rfl
theorem evictWithdraw : Statement .evictWithdraw := of_event rfl
theorem evictReady : Statement .evictReady := of_event rfl
theorem evictTimeout : Statement .evictTimeout := of_event rfl
theorem fruRead : Statement .fruRead := of_event rfl
theorem replClear : Statement .replClear := of_event rfl
theorem hostBar2Atomicop (off : Nat) (op : PcieAtomic) (bytes64 : Bool) (x y : Nat) : Statement (.hostBar2Atomicop off op bytes64 x y) := of_event rfl
theorem displacedTeamRestore (tm : Nat) : Statement (.displacedTeamRestore tm) := of_event rfl
theorem nop32 (o : Opnds) : Statement (.nop32 o) := of_word rfl (by decide)
theorem nop (o : Opnds) : Statement (.nop o) := of_word rfl (by decide)
theorem bra (o : Opnds) : Statement (.bra o) := of_word rfl (by decide)
theorem brc (o : Opnds) : Statement (.brc o) := of_word rfl (by decide)
theorem brd (o : Opnds) : Statement (.brd o) := of_word rfl (by decide)
theorem brx32 (o : Opnds) : Statement (.brx32 o) := of_word rfl (by decide)
theorem brx (o : Opnds) : Statement (.brx o) := of_word rfl (by decide)
theorem join32 (o : Opnds) : Statement (.join32 o) := of_word rfl (by decide)
theorem join (o : Opnds) : Statement (.join o) := of_word rfl (by decide)
theorem jarv32 (o : Opnds) : Statement (.jarv32 o) := of_word rfl (by decide)
theorem jarv (o : Opnds) : Statement (.jarv o) := of_word rfl (by decide)
theorem call (o : Opnds) : Statement (.call o) := of_word rfl (by decide)
theorem callx32 (o : Opnds) : Statement (.callx32 o) := of_word rfl (by decide)
theorem callx (o : Opnds) : Statement (.callx o) := of_word rfl (by decide)
theorem ret32 (o : Opnds) : Statement (.ret32 o) := of_word rfl (by decide)
theorem ret (o : Opnds) : Statement (.ret o) := of_word rfl (by decide)
theorem exit32 (o : Opnds) : Statement (.exit32 o) := of_word rfl (by decide)
theorem exit (o : Opnds) : Statement (.exit o) := of_word rfl (by decide)
theorem loop (o : Opnds) : Statement (.loop o) := of_word rfl (by decide)
theorem yield32 (o : Opnds) : Statement (.yield32 o) := of_word rfl (by decide)
theorem yield (o : Opnds) : Statement (.yield o) := of_word rfl (by decide)
theorem mand32 (o : Opnds) : Statement (.mand32 o) := of_word rfl (by decide)
theorem mand (o : Opnds) : Statement (.mand o) := of_word rfl (by decide)
theorem mor32 (o : Opnds) : Statement (.mor32 o) := of_word rfl (by decide)
theorem mor (o : Opnds) : Statement (.mor o) := of_word rfl (by decide)
theorem mxor32 (o : Opnds) : Statement (.mxor32 o) := of_word rfl (by decide)
theorem mxor (o : Opnds) : Statement (.mxor o) := of_word rfl (by decide)
theorem mnot32 (o : Opnds) : Statement (.mnot32 o) := of_word rfl (by decide)
theorem mnot (o : Opnds) : Statement (.mnot o) := of_word rfl (by decide)
theorem mandn32 (o : Opnds) : Statement (.mandn32 o) := of_word rfl (by decide)
theorem mandn (o : Opnds) : Statement (.mandn o) := of_word rfl (by decide)
theorem mset32 (o : Opnds) : Statement (.mset32 o) := of_word rfl (by decide)
theorem mset (o : Opnds) : Statement (.mset o) := of_word rfl (by decide)
theorem mffs32 (o : Opnds) : Statement (.mffs32 o) := of_word rfl (by decide)
theorem mffs (o : Opnds) : Statement (.mffs o) := of_word rfl (by decide)
theorem vote32 (o : Opnds) : Statement (.vote32 o) := of_word rfl (by decide)
theorem vote (o : Opnds) : Statement (.vote o) := of_word rfl (by decide)
theorem rjmv32 (o : Opnds) : Statement (.rjmv32 o) := of_word rfl (by decide)
theorem rjmv (o : Opnds) : Statement (.rjmv o) := of_word rfl (by decide)
theorem jmld (o : Opnds) : Statement (.jmld o) := of_word rfl (by decide)
theorem jmst32 (o : Opnds) : Statement (.jmst32 o) := of_word rfl (by decide)
theorem jmst (o : Opnds) : Statement (.jmst o) := of_word rfl (by decide)
theorem iadd32 (o : Opnds) : Statement (.iadd32 o) := of_word rfl (by decide)
theorem iadd (o : Opnds) : Statement (.iadd o) := of_word rfl (by decide)
theorem isub32 (o : Opnds) : Statement (.isub32 o) := of_word rfl (by decide)
theorem isub (o : Opnds) : Statement (.isub o) := of_word rfl (by decide)
theorem imul2432 (o : Opnds) : Statement (.imul2432 o) := of_word rfl (by decide)
theorem imul24 (o : Opnds) : Statement (.imul24 o) := of_word rfl (by decide)
theorem imad24 (o : Opnds) : Statement (.imad24 o) := of_word rfl (by decide)
theorem imul3232 (o : Opnds) : Statement (.imul3232 o) := of_word rfl (by decide)
theorem imul32 (o : Opnds) : Statement (.imul32 o) := of_word rfl (by decide)
theorem imulh3232 (o : Opnds) : Statement (.imulh3232 o) := of_word rfl (by decide)
theorem imulh32 (o : Opnds) : Statement (.imulh32 o) := of_word rfl (by decide)
theorem imin32 (o : Opnds) : Statement (.imin32 o) := of_word rfl (by decide)
theorem imin (o : Opnds) : Statement (.imin o) := of_word rfl (by decide)
theorem imax32 (o : Opnds) : Statement (.imax32 o) := of_word rfl (by decide)
theorem imax (o : Opnds) : Statement (.imax o) := of_word rfl (by decide)
theorem icmp32 (o : Opnds) : Statement (.icmp32 o) := of_word rfl (by decide)
theorem icmp (o : Opnds) : Statement (.icmp o) := of_word rfl (by decide)
theorem and32 (o : Opnds) : Statement (.and32 o) := of_word rfl (by decide)
theorem and (o : Opnds) : Statement (.and o) := of_word rfl (by decide)
theorem or32 (o : Opnds) : Statement (.or32 o) := of_word rfl (by decide)
theorem or (o : Opnds) : Statement (.or o) := of_word rfl (by decide)
theorem xor32 (o : Opnds) : Statement (.xor32 o) := of_word rfl (by decide)
theorem xor (o : Opnds) : Statement (.xor o) := of_word rfl (by decide)
theorem shl32 (o : Opnds) : Statement (.shl32 o) := of_word rfl (by decide)
theorem shl (o : Opnds) : Statement (.shl o) := of_word rfl (by decide)
theorem shr32 (o : Opnds) : Statement (.shr32 o) := of_word rfl (by decide)
theorem shr (o : Opnds) : Statement (.shr o) := of_word rfl (by decide)
theorem sar32 (o : Opnds) : Statement (.sar32 o) := of_word rfl (by decide)
theorem sar (o : Opnds) : Statement (.sar o) := of_word rfl (by decide)
theorem rot32 (o : Opnds) : Statement (.rot32 o) := of_word rfl (by decide)
theorem rot (o : Opnds) : Statement (.rot o) := of_word rfl (by decide)
theorem bfx (o : Opnds) : Statement (.bfx o) := of_word rfl (by decide)
theorem bfi (o : Opnds) : Statement (.bfi o) := of_word rfl (by decide)
theorem popc32 (o : Opnds) : Statement (.popc32 o) := of_word rfl (by decide)
theorem popc (o : Opnds) : Statement (.popc o) := of_word rfl (by decide)
theorem clz32 (o : Opnds) : Statement (.clz32 o) := of_word rfl (by decide)
theorem clz (o : Opnds) : Statement (.clz o) := of_word rfl (by decide)
theorem sel (o : Opnds) : Statement (.sel o) := of_word rfl (by decide)
theorem mov32 (o : Opnds) : Statement (.mov32 o) := of_word rfl (by decide)
theorem mov (o : Opnds) : Statement (.mov o) := of_word rfl (by decide)
theorem movi (o : Opnds) : Statement (.movi o) := of_word rfl (by decide)
theorem addr (o : Opnds) : Statement (.addr o) := of_word rfl (by decide)
theorem cvti (o : Opnds) : Statement (.cvti o) := of_word rfl (by decide)
theorem crc32 (o : Opnds) : Statement (.crc32 o) := of_word rfl (by decide)
theorem crc (o : Opnds) : Statement (.crc o) := of_word rfl (by decide)
theorem fadd32 (o : Opnds) : Statement (.fadd32 o) := of_word rfl (by decide)
theorem fadd (o : Opnds) : Statement (.fadd o) := of_word rfl (by decide)
theorem fsub32 (o : Opnds) : Statement (.fsub32 o) := of_word rfl (by decide)
theorem fsub (o : Opnds) : Statement (.fsub o) := of_word rfl (by decide)
theorem fmul32 (o : Opnds) : Statement (.fmul32 o) := of_word rfl (by decide)
theorem fmul (o : Opnds) : Statement (.fmul o) := of_word rfl (by decide)
theorem ffma (o : Opnds) : Statement (.ffma o) := of_word rfl (by decide)
theorem fmin32 (o : Opnds) : Statement (.fmin32 o) := of_word rfl (by decide)
theorem fmin (o : Opnds) : Statement (.fmin o) := of_word rfl (by decide)
theorem fmax32 (o : Opnds) : Statement (.fmax32 o) := of_word rfl (by decide)
theorem fmax (o : Opnds) : Statement (.fmax o) := of_word rfl (by decide)
theorem fcmp32 (o : Opnds) : Statement (.fcmp32 o) := of_word rfl (by decide)
theorem fcmp (o : Opnds) : Statement (.fcmp o) := of_word rfl (by decide)
theorem fclass32 (o : Opnds) : Statement (.fclass32 o) := of_word rfl (by decide)
theorem fclass (o : Opnds) : Statement (.fclass o) := of_word rfl (by decide)
theorem fsgn32 (o : Opnds) : Statement (.fsgn32 o) := of_word rfl (by decide)
theorem fsgn (o : Opnds) : Statement (.fsgn o) := of_word rfl (by decide)
theorem frcp32 (o : Opnds) : Statement (.frcp32 o) := of_word rfl (by decide)
theorem frcp (o : Opnds) : Statement (.frcp o) := of_word rfl (by decide)
theorem frsq32 (o : Opnds) : Statement (.frsq32 o) := of_word rfl (by decide)
theorem frsq (o : Opnds) : Statement (.frsq o) := of_word rfl (by decide)
theorem fsqrt32 (o : Opnds) : Statement (.fsqrt32 o) := of_word rfl (by decide)
theorem fsqrt (o : Opnds) : Statement (.fsqrt o) := of_word rfl (by decide)
theorem fexp232 (o : Opnds) : Statement (.fexp232 o) := of_word rfl (by decide)
theorem fexp2 (o : Opnds) : Statement (.fexp2 o) := of_word rfl (by decide)
theorem flog232 (o : Opnds) : Statement (.flog232 o) := of_word rfl (by decide)
theorem flog2 (o : Opnds) : Statement (.flog2 o) := of_word rfl (by decide)
theorem fsin32 (o : Opnds) : Statement (.fsin32 o) := of_word rfl (by decide)
theorem fsin (o : Opnds) : Statement (.fsin o) := of_word rfl (by decide)
theorem fcos32 (o : Opnds) : Statement (.fcos32 o) := of_word rfl (by decide)
theorem fcos (o : Opnds) : Statement (.fcos o) := of_word rfl (by decide)
theorem fcvt (o : Opnds) : Statement (.fcvt o) := of_word rfl (by decide)
theorem bxpack (o : Opnds) : Statement (.bxpack o) := of_word rfl (by decide)
theorem bxunpk (o : Opnds) : Statement (.bxunpk o) := of_word rfl (by decide)
theorem cadd32 (o : Opnds) : Statement (.cadd32 o) := of_word rfl (by decide)
theorem cadd (o : Opnds) : Statement (.cadd o) := of_word rfl (by decide)
theorem csplit32 (o : Opnds) : Statement (.csplit32 o) := of_word rfl (by decide)
theorem csplit (o : Opnds) : Statement (.csplit o) := of_word rfl (by decide)
theorem cjoin32 (o : Opnds) : Statement (.cjoin32 o) := of_word rfl (by decide)
theorem cjoin (o : Opnds) : Statement (.cjoin o) := of_word rfl (by decide)
theorem updm (o : Opnds) : Statement (.updm o) := of_word rfl (by decide)
theorem fsetrm32 (o : Opnds) : Statement (.fsetrm32 o) := of_word rfl (by decide)
theorem fsetrm (o : Opnds) : Statement (.fsetrm o) := of_word rfl (by decide)
theorem fgetrm32 (o : Opnds) : Statement (.fgetrm32 o) := of_word rfl (by decide)
theorem fgetrm (o : Opnds) : Statement (.fgetrm o) := of_word rfl (by decide)
theorem fflag32 (o : Opnds) : Statement (.fflag32 o) := of_word rfl (by decide)
theorem fflag (o : Opnds) : Statement (.fflag o) := of_word rfl (by decide)
theorem xget32 (o : Opnds) : Statement (.xget32 o) := of_word rfl (by decide)
theorem xget (o : Opnds) : Statement (.xget o) := of_word rfl (by decide)
theorem xput32 (o : Opnds) : Statement (.xput32 o) := of_word rfl (by decide)
theorem xput (o : Opnds) : Statement (.xput o) := of_word rfl (by decide)
theorem shfl32 (o : Opnds) : Statement (.shfl32 o) := of_word rfl (by decide)
theorem shfl (o : Opnds) : Statement (.shfl o) := of_word rfl (by decide)
theorem bcast32 (o : Opnds) : Statement (.bcast32 o) := of_word rfl (by decide)
theorem bcast (o : Opnds) : Statement (.bcast o) := of_word rfl (by decide)
theorem red32 (o : Opnds) : Statement (.red32 o) := of_word rfl (by decide)
theorem red (o : Opnds) : Statement (.red o) := of_word rfl (by decide)
theorem scan32 (o : Opnds) : Statement (.scan32 o) := of_word rfl (by decide)
theorem scan (o : Opnds) : Statement (.scan o) := of_word rfl (by decide)
theorem compact32 (o : Opnds) : Statement (.compact32 o) := of_word rfl (by decide)
theorem compact (o : Opnds) : Statement (.compact o) := of_word rfl (by decide)
theorem expand32 (o : Opnds) : Statement (.expand32 o) := of_word rfl (by decide)
theorem expand (o : Opnds) : Statement (.expand o) := of_word rfl (by decide)
theorem matchLanes32 (o : Opnds) : Statement (.matchLanes32 o) := of_word rfl (by decide)
theorem matchLanes (o : Opnds) : Statement (.matchLanes o) := of_word rfl (by decide)
theorem vidx32 (o : Opnds) : Statement (.vidx32 o) := of_word rfl (by decide)
theorem vidx (o : Opnds) : Statement (.vidx o) := of_word rfl (by decide)
theorem lread32 (o : Opnds) : Statement (.lread32 o) := of_word rfl (by decide)
theorem lread (o : Opnds) : Statement (.lread o) := of_word rfl (by decide)
theorem lwrite (o : Opnds) : Statement (.lwrite o) := of_word rfl (by decide)
theorem ld (o : Opnds) : Statement (.ld o) := of_word rfl (by decide)
theorem st (o : Opnds) : Statement (.st o) := of_word rfl (by decide)
theorem lds32 (o : Opnds) : Statement (.lds32 o) := of_word rfl (by decide)
theorem lds (o : Opnds) : Statement (.lds o) := of_word rfl (by decide)
theorem sts32 (o : Opnds) : Statement (.sts32 o) := of_word rfl (by decide)
theorem sts (o : Opnds) : Statement (.sts o) := of_word rfl (by decide)
theorem ldb (o : Opnds) : Statement (.ldb o) := of_word rfl (by decide)
theorem stb (o : Opnds) : Statement (.stb o) := of_word rfl (by decide)
theorem stash (o : Opnds) : Statement (.stash o) := of_word rfl (by decide)
theorem atom (o : Opnds) : Statement (.atom o) := of_word rfl (by decide)
theorem atoms (o : Opnds) : Statement (.atoms o) := of_word rfl (by decide)
theorem cas (o : Opnds) : Statement (.cas o) := of_word rfl (by decide)
theorem cass (o : Opnds) : Statement (.cass o) := of_word rfl (by decide)
theorem pref (o : Opnds) : Statement (.pref o) := of_word rfl (by decide)
theorem pinv (o : Opnds) : Statement (.pinv o) := of_word rfl (by decide)
theorem pwb (o : Opnds) : Statement (.pwb o) := of_word rfl (by decide)
theorem xlt (o : Opnds) : Statement (.xlt o) := of_word rfl (by decide)
theorem stz (o : Opnds) : Statement (.stz o) := of_word rfl (by decide)
theorem fence (o : Opnds) : Statement (.fence o) := of_word rfl (by decide)
theorem fenceX (o : Opnds) : Statement (.fenceX o) := of_word rfl (by decide)
theorem outrd32 (o : Opnds) : Statement (.outrd32 o) := of_word rfl (by decide)
theorem outrd (o : Opnds) : Statement (.outrd o) := of_word rfl (by decide)
theorem bar32 (o : Opnds) : Statement (.bar32 o) := of_word rfl (by decide)
theorem bar (o : Opnds) : Statement (.bar o) := of_word rfl (by decide)
theorem bara32 (o : Opnds) : Statement (.bara32 o) := of_word rfl (by decide)
theorem bara (o : Opnds) : Statement (.bara o) := of_word rfl (by decide)
theorem barw32 (o : Opnds) : Statement (.barw32 o) := of_word rfl (by decide)
theorem barw (o : Opnds) : Statement (.barw o) := of_word rfl (by decide)
theorem bari (o : Opnds) : Statement (.bari o) := of_word rfl (by decide)
theorem barq32 (o : Opnds) : Statement (.barq32 o) := of_word rfl (by decide)
theorem barq (o : Opnds) : Statement (.barq o) := of_word rfl (by decide)
theorem tryRegion (o : Opnds) : Statement (.tryRegion o) := of_word rfl (by decide)
theorem commit32 (o : Opnds) : Statement (.commit32 o) := of_word rfl (by decide)
theorem commit (o : Opnds) : Statement (.commit o) := of_word rfl (by decide)
theorem abort32 (o : Opnds) : Statement (.abort32 o) := of_word rfl (by decide)
theorem abort (o : Opnds) : Statement (.abort o) := of_word rfl (by decide)
theorem tryst32 (o : Opnds) : Statement (.tryst32 o) := of_word rfl (by decide)
theorem tryst (o : Opnds) : Statement (.tryst o) := of_word rfl (by decide)
theorem tryaddr32 (o : Opnds) : Statement (.tryaddr32 o) := of_word rfl (by decide)
theorem tryaddr (o : Opnds) : Statement (.tryaddr o) := of_word rfl (by decide)
theorem trydrop32 (o : Opnds) : Statement (.trydrop32 o) := of_word rfl (by decide)
theorem trydrop (o : Opnds) : Statement (.trydrop o) := of_word rfl (by decide)
theorem shld (o : Opnds) : Statement (.shld o) := of_word rfl (by decide)
theorem shset (o : Opnds) : Statement (.shset o) := of_word rfl (by decide)
theorem shst (o : Opnds) : Statement (.shst o) := of_word rfl (by decide)
theorem copy (o : Opnds) : Statement (.copy o) := of_word rfl (by decide)
theorem gather (o : Opnds) : Statement (.gather o) := of_word rfl (by decide)
theorem scatter (o : Opnds) : Statement (.scatter o) := of_word rfl (by decide)
theorem cbinit32 (o : Opnds) : Statement (.cbinit32 o) := of_word rfl (by decide)
theorem cbinit (o : Opnds) : Statement (.cbinit o) := of_word rfl (by decide)
theorem cbwait32 (o : Opnds) : Statement (.cbwait32 o) := of_word rfl (by decide)
theorem cbwait (o : Opnds) : Statement (.cbwait o) := of_word rfl (by decide)
theorem cbpoll32 (o : Opnds) : Statement (.cbpoll32 o) := of_word rfl (by decide)
theorem cbpoll (o : Opnds) : Statement (.cbpoll o) := of_word rfl (by decide)
theorem qbind (o : Opnds) : Statement (.qbind o) := of_word rfl (by decide)
theorem qbindFree (o : Opnds) : Statement (.qbindFree o) := of_word rfl (by decide)
theorem qstat32 (o : Opnds) : Statement (.qstat32 o) := of_word rfl (by decide)
theorem qstat (o : Opnds) : Statement (.qstat o) := of_word rfl (by decide)
theorem pgacc (o : Opnds) : Statement (.pgacc o) := of_word rfl (by decide)
theorem movtc (o : Opnds) : Statement (.movtc o) := of_word rfl (by decide)
theorem rdtc32 (o : Opnds) : Statement (.rdtc32 o) := of_word rfl (by decide)
theorem rdtc (o : Opnds) : Statement (.rdtc o) := of_word rfl (by decide)
theorem tzero32 (o : Opnds) : Statement (.tzero32 o) := of_word rfl (by decide)
theorem tzero (o : Opnds) : Statement (.tzero o) := of_word rfl (by decide)
theorem tfill (o : Opnds) : Statement (.tfill o) := of_word rfl (by decide)
theorem tload32 (o : Opnds) : Statement (.tload32 o) := of_word rfl (by decide)
theorem tload (o : Opnds) : Statement (.tload o) := of_word rfl (by decide)
theorem tstore32 (o : Opnds) : Statement (.tstore32 o) := of_word rfl (by decide)
theorem tstore (o : Opnds) : Statement (.tstore o) := of_word rfl (by decide)
theorem tmov32 (o : Opnds) : Statement (.tmov32 o) := of_word rfl (by decide)
theorem tmov (o : Opnds) : Statement (.tmov o) := of_word rfl (by decide)
theorem txpose32 (o : Opnds) : Statement (.txpose32 o) := of_word rfl (by decide)
theorem txpose (o : Opnds) : Statement (.txpose o) := of_word rfl (by decide)
theorem mma (o : Opnds) : Statement (.mma o) := of_word rfl (by decide)
theorem drain (o : Opnds) : Statement (.drain o) := of_word rfl (by decide)
theorem accz32 (o : Opnds) : Statement (.accz32 o) := of_word rfl (by decide)
theorem accz (o : Opnds) : Statement (.accz o) := of_word rfl (by decide)
theorem rqpop32 (o : Opnds) : Statement (.rqpop32 o) := of_word rfl (by decide)
theorem rqpop (o : Opnds) : Statement (.rqpop o) := of_word rfl (by decide)
theorem amode32 (o : Opnds) : Statement (.amode32 o) := of_word rfl (by decide)
theorem amode (o : Opnds) : Statement (.amode o) := of_word rfl (by decide)
theorem await32 (o : Opnds) : Statement (.await32 o) := of_word rfl (by decide)
theorem await (o : Opnds) : Statement (.await o) := of_word rfl (by decide)
theorem spub (o : Opnds) : Statement (.spub o) := of_word rfl (by decide)
theorem ssub (o : Opnds) : Statement (.ssub o) := of_word rfl (by decide)
theorem ssubOpen (o : Opnds) : Statement (.ssubOpen o) := of_word rfl (by decide)
theorem ssubClose (o : Opnds) : Statement (.ssubClose o) := of_word rfl (by decide)
theorem ssubCopy (o : Opnds) : Statement (.ssubCopy o) := of_word rfl (by decide)
theorem srel (o : Opnds) : Statement (.srel o) := of_word rfl (by decide)
theorem sstat32 (o : Opnds) : Statement (.sstat32 o) := of_word rfl (by decide)
theorem sstat (o : Opnds) : Statement (.sstat o) := of_word rfl (by decide)
theorem kset (o : Opnds) : Statement (.kset o) := of_word rfl (by decide)
theorem ksetMap (o : Opnds) : Statement (.ksetMap o) := of_word rfl (by decide)
theorem kget32 (o : Opnds) : Statement (.kget32 o) := of_word rfl (by decide)
theorem kget (o : Opnds) : Statement (.kget o) := of_word rfl (by decide)
theorem sload32 (o : Opnds) : Statement (.sload32 o) := of_word rfl (by decide)
theorem sload (o : Opnds) : Statement (.sload o) := of_word rfl (by decide)
theorem sstore32 (o : Opnds) : Statement (.sstore32 o) := of_word rfl (by decide)
theorem sstore (o : Opnds) : Statement (.sstore o) := of_word rfl (by decide)
theorem szero32 (o : Opnds) : Statement (.szero32 o) := of_word rfl (by decide)
theorem szero (o : Opnds) : Statement (.szero o) := of_word rfl (by decide)
theorem seval32 (o : Opnds) : Statement (.seval32 o) := of_word rfl (by decide)
theorem seval (o : Opnds) : Statement (.seval o) := of_word rfl (by decide)
theorem sder32 (o : Opnds) : Statement (.sder32 o) := of_word rfl (by decide)
theorem sder (o : Opnds) : Statement (.sder o) := of_word rfl (by decide)
theorem sgrad32 (o : Opnds) : Statement (.sgrad32 o) := of_word rfl (by decide)
theorem sgrad (o : Opnds) : Statement (.sgrad o) := of_word rfl (by decide)
theorem srefine32 (o : Opnds) : Statement (.srefine32 o) := of_word rfl (by decide)
theorem srefine (o : Opnds) : Statement (.srefine o) := of_word rfl (by decide)
theorem ldr (o : Opnds) : Statement (.ldr o) := of_word rfl (by decide)
theorem stf (o : Opnds) : Statement (.stf o) := of_word rfl (by decide)
theorem atomr (o : Opnds) : Statement (.atomr o) := of_word rfl (by decide)
theorem casr (o : Opnds) : Statement (.casr o) := of_word rfl (by decide)
theorem flagw (o : Opnds) : Statement (.flagw o) := of_word rfl (by decide)
theorem msg (o : Opnds) : Statement (.msg o) := of_word rfl (by decide)
theorem msgq32 (o : Opnds) : Statement (.msgq32 o) := of_word rfl (by decide)
theorem msgq (o : Opnds) : Statement (.msgq o) := of_word rfl (by decide)
theorem mcst (o : Opnds) : Statement (.mcst o) := of_word rfl (by decide)
theorem mcred (o : Opnds) : Statement (.mcred o) := of_word rfl (by decide)
theorem grpq32 (o : Opnds) : Statement (.grpq32 o) := of_word rfl (by decide)
theorem grpq (o : Opnds) : Statement (.grpq o) := of_word rfl (by decide)
theorem pst (o : Opnds) : Statement (.pst o) := of_word rfl (by decide)
theorem pbar32 (o : Opnds) : Statement (.pbar32 o) := of_word rfl (by decide)
theorem pbar (o : Opnds) : Statement (.pbar o) := of_word rfl (by decide)
theorem pbarWaitPkg (o : Opnds) : Statement (.pbarWaitPkg o) := of_word rfl (by decide)
theorem pbarWaitStripe (o : Opnds) : Statement (.pbarWaitStripe o) := of_word rfl (by decide)
theorem pflush32 (o : Opnds) : Statement (.pflush32 o) := of_word rfl (by decide)
theorem pflush (o : Opnds) : Statement (.pflush o) := of_word rfl (by decide)
theorem pqst32 (o : Opnds) : Statement (.pqst32 o) := of_word rfl (by decide)
theorem pqst (o : Opnds) : Statement (.pqst o) := of_word rfl (by decide)
theorem stepset32 (o : Opnds) : Statement (.stepset32 o) := of_word rfl (by decide)
theorem stepset (o : Opnds) : Statement (.stepset o) := of_word rfl (by decide)
theorem steprd32 (o : Opnds) : Statement (.steprd32 o) := of_word rfl (by decide)
theorem steprd (o : Opnds) : Statement (.steprd o) := of_word rfl (by decide)
theorem snapTake (o : Opnds) : Statement (.snapTake o) := of_word rfl (by decide)
theorem snapRestore (o : Opnds) : Statement (.snapRestore o) := of_word rfl (by decide)
theorem snapFreeze (o : Opnds) : Statement (.snapFreeze o) := of_word rfl (by decide)
theorem snapThaw (o : Opnds) : Statement (.snapThaw o) := of_word rfl (by decide)
theorem snapRebuild (o : Opnds) : Statement (.snapRebuild o) := of_word rfl (by decide)
theorem snapDelta (o : Opnds) : Statement (.snapDelta o) := of_word rfl (by decide)
theorem snapst32 (o : Opnds) : Statement (.snapst32 o) := of_word rfl (by decide)
theorem snapst (o : Opnds) : Statement (.snapst o) := of_word rfl (by decide)
theorem launch (o : Opnds) : Statement (.launch o) := of_word rfl (by decide)
theorem cancel32 (o : Opnds) : Statement (.cancel32 o) := of_word rfl (by decide)
theorem cancel (o : Opnds) : Statement (.cancel o) := of_word rfl (by decide)
theorem cntrd32 (o : Opnds) : Statement (.cntrd32 o) := of_word rfl (by decide)
theorem cntrd (o : Opnds) : Statement (.cntrd o) := of_word rfl (by decide)
theorem tabnew (o : Opnds) : Statement (.tabnew o) := of_word rfl (by decide)
theorem tabdec (o : Opnds) : Statement (.tabdec o) := of_word rfl (by decide)
theorem tabst32 (o : Opnds) : Statement (.tabst32 o) := of_word rfl (by decide)
theorem tabst (o : Opnds) : Statement (.tabst o) := of_word rfl (by decide)
theorem arm (o : Opnds) : Statement (.arm o) := of_word rfl (by decide)
theorem disarm32 (o : Opnds) : Statement (.disarm32 o) := of_word rfl (by decide)
theorem disarm (o : Opnds) : Statement (.disarm o) := of_word rfl (by decide)
theorem trap32 (o : Opnds) : Statement (.trap32 o) := of_word rfl (by decide)
theorem trap (o : Opnds) : Statement (.trap o) := of_word rfl (by decide)
theorem rte32 (o : Opnds) : Statement (.rte32 o) := of_word rfl (by decide)
theorem rte (o : Opnds) : Statement (.rte o) := of_word rfl (by decide)
theorem rteSkip (o : Opnds) : Statement (.rteSkip o) := of_word rfl (by decide)
theorem rteEndc (o : Opnds) : Statement (.rteEndc o) := of_word rfl (by decide)
theorem rteEndp (o : Opnds) : Statement (.rteEndp o) := of_word rfl (by decide)
theorem brkp32 (o : Opnds) : Statement (.brkp32 o) := of_word rfl (by decide)
theorem brkp (o : Opnds) : Statement (.brkp o) := of_word rfl (by decide)
theorem sysrd (o : Opnds) : Statement (.sysrd o) := of_word rfl (by decide)
theorem syswrMode (o : Opnds) : Statement (.syswrMode o) := of_word rfl (by decide)
theorem syswrXconf (o : Opnds) : Statement (.syswrXconf o) := of_word rfl (by decide)
theorem syswrMboxo (o : Opnds) : Statement (.syswrMboxo o) := of_word rfl (by decide)
theorem syswrMboxst (o : Opnds) : Statement (.syswrMboxst o) := of_word rfl (by decide)
theorem syswrOther (o : Opnds) : Statement (.syswrOther o) := of_word rfl (by decide)
theorem haltp32 (o : Opnds) : Statement (.haltp32 o) := of_word rfl (by decide)
theorem haltp (o : Opnds) : Statement (.haltp o) := of_word rfl (by decide)
theorem stoprd (o : Opnds) : Statement (.stoprd o) := of_word rfl (by decide)
theorem evtrd32 (o : Opnds) : Statement (.evtrd32 o) := of_word rfl (by decide)
theorem evtrd (o : Opnds) : Statement (.evtrd o) := of_word rfl (by decide)
theorem cycle32 (o : Opnds) : Statement (.cycle32 o) := of_word rfl (by decide)
theorem cycle (o : Opnds) : Statement (.cycle o) := of_word rfl (by decide)

end Sys2Proof.Laws.Assigned
end

