-- ==== Sys2Proof/Laws/Trap.lean ====
section
/-! SUPPORT. What the arbiter, a trap and the entry of a block come to, one lemma per case. -/
namespace Sys2Proof.Machine

/-- A record is staged in its partition, and memory changes where SRBASE names a place (R403, R404). -/
theorem stageRecord_eq (s : State) (p : Nat) (e : Event) :
    stageRecord s p e = { s.modPart p (fun x => { x with stage := Tab.set [] x.stage e.idx (recWords s p e) }) with
      mem := (stageRecord s p e).mem } := by
  unfold stageRecord; dsimp only; split <;> rfl

theorem stageRecord_mem_of_zero (s : State) (p : Nat) (e : Event) (h : (s.part p).srbase = 0) : (stageRecord s p e).mem = s.mem := by
  have h' : (s.modPart p (fun x => { x with stage := Tab.set [] x.stage e.idx (recWords s p e) })).part p
      = { s.part p with stage := Tab.set [] (s.part p).stage e.idx (recWords s p e) } := by
    unfold State.modPart State.setPart State.part; exact Tab.get_set_same _ _ _ _
  unfold stageRecord
  dsimp only
  rw [h']
  dsimp only
  rw [h]
  rfl

theorem stageRecord_stream (s : State) (p : Nat) (e : Event) (i : Nat) : (stageRecord s p e).stream? i = s.stream? i := by
  rw [stageRecord_eq]; rfl

theorem stageRecord_msix (s : State) (p : Nat) (e : Event) : (stageRecord s p e).msix = s.msix := by
  rw [stageRecord_eq]; rfl

/-- While a watchdog resets the partition, an event is not taken (R413). -/
theorem arbiter_wdreset (s : State) (p : Nat) (e : Event) (h : (s.part p).wdreset.isSome = true) : arbiter s p e = s := by
  unfold arbiter; simp only [h, if_true]

theorem arbiter_stream (s : State) (p : Nat) (e : Event) (i : Nat) : (arbiter s p e).stream? i = s.stream? i := by
  unfold arbiter; dsimp only; split
  · rfl
  · rw [stageRecord_stream]; unfold State.stream?; rw [State.setPart_streams]

theorem arbiter_msix (s : State) (p : Nat) (e : Event) : (arbiter s p e).msix = s.msix := by
  unfold arbiter; dsimp only; split
  · rfl
  · rw [stageRecord_msix, State.setPart_msix]

/-- A trap outside a handler and a region goes to the arbiter, and its stream stops (R401, R405). -/
theorem takeTrap_event {s : State} {sid k : Nat} {t : Stream} {p : Path} (cause : Nat) (addr : Addr) (aux : Word) (ht : s.stream? sid = some t)
    (hp : t.path? k = some p) (hh : t.hnd = none) (hr : t.inTry = false) :
    takeTrap s sid k cause addr aux = arbiter (s.setStream sid { t with stopped := true }) t.part
      ⟨0, sid, handlerOf s sid t, cause, p.pc, addr, aux, if isSeq sid then 1 else p.em, 1, false, some (sid, k), none, 0, isSeq sid⟩ := by
  have h : ¬ (t.hnd.isSome = true) := by rw [hh]; exact Bool.false_ne_true
  have h2 : ¬ (t.inTry = true) := by rw [hr]; exact Bool.false_ne_true
  unfold takeTrap
  rw [ht]
  dsimp only
  rw [hp]
  dsimp only
  rw [if_neg h, if_neg h2]
  unfold recIndex
  rfl

/-- A trap in a handler halts the partition for good (R406). -/
theorem takeTrap_handler {s : State} {sid k : Nat} {t : Stream} {p : Path} (cause : Nat) (addr : Addr) (aux : Word) (ht : s.stream? sid = some t)
    (hp : t.path? k = some p) (hh : t.hnd ≠ none) :
    takeTrap s sid k cause addr aux = haltForGood (arbiter (s.setStream sid { t with stopped := true }) t.part
      ⟨0, sid, handlerOf s sid t, cause, p.pc, addr, aux, if isSeq sid then 1 else p.em, 4 + flagPerm + 1, false, some (sid, k), none, 0, isSeq sid⟩) t.part := by
  have h : t.hnd.isSome = true := by cases hx : t.hnd with
    | none => exact absurd hx hh
    | some _ => rfl
  unfold takeTrap
  rw [ht]
  dsimp only
  rw [hp]
  dsimp only
  rw [if_pos h]
  unfold recIndex
  rfl

/-- A trap in a region asks for its abort (R238). -/
theorem takeTrap_region {s : State} {sid k : Nat} {t : Stream} {p : Path} (cause : Nat) (addr : Addr) (aux : Word) (ht : s.stream? sid = some t)
    (hp : t.path? k = some p) (hh : t.hnd = none) (hr : t.inTry = true) :
    takeTrap s sid k cause addr aux = setAbort s sid ⟨3, cause, if addrCode cause then addr else p.pc⟩ := by
  have h : ¬ (t.hnd.isSome = true) := by rw [hh]; exact Bool.false_ne_true
  unfold takeTrap
  rw [ht]
  dsimp only
  rw [hp]
  dsimp only
  rw [if_neg h, if_pos hr]

/-- A block that does not open traps at its entry (R82, R94). -/
theorem enterHeader_error {s : State} {sid k code : Nat} {check : Bool} {va : Addr} {t : Stream} {p : Path} {e : Nat} (ht : s.stream? sid = some t)
    (hp : t.path? k = some p) (hf : fetchBlocked s (whoOf s t sid) va = false) (ho : openBlock s (whoOf s t sid) (!isSeq sid) t.alloc code va = .error e) :
    enterHeader s sid k code check va = takeTrap (s.setStream sid (t.setPath k (some { p with pc := va, entry := true, check := check }))) sid k e
      (if addrCode e then va else 0) 0 := by
  unfold enterHeader
  generalize openBlock = g at ho ⊢
  generalize takeTrap = f
  simp only [ht, hp, hf, ho, Bool.false_eq_true, if_false]

/-- At a blocked page the entry waits, the path before it (R202). -/
theorem enterHeader_wait {s : State} {sid k code : Nat} {check : Bool} {va : Addr} {t : Stream} {p : Path} (ht : s.stream? sid = some t)
    (hp : t.path? k = some p) (hf : fetchBlocked s (whoOf s t sid) va = true) :
    enterHeader s sid k code check va = s.setStream sid (t.setPath k (some { p with pc := va, entry := true, check := check })) := by
  unfold enterHeader
  simp only [ht, hp, hf, if_true]

/-- A block that opens: the path stands before its first instruction (R82). -/
theorem enterHeader_ok {s : State} {sid k code : Nat} {va : Addr} {t : Stream} {p : Path} {ws : List Word} (ht : s.stream? sid = some t)
    (hp : t.path? k = some p) (hf : fetchBlocked s (whoOf s t sid) va = false) (ho : openBlock s (whoOf s t sid) (!isSeq sid) t.alloc code va = .ok ws) :
    enterHeader s sid k code false va = s.setStream sid
      (t.setPath k (some { p with pc := va + 8, hdr := va, blk := ws, pend := [], fl := p.fl.filter (fun e => e.due.isNone), entry := false, check := false })) := by
  unfold enterHeader
  generalize openBlock = g at ho ⊢
  simp only [ht, hp, hf, ho, Bool.false_eq_true, if_false]

/-- After the last event of a halt the line is released; before it the next handler starts (R407); neither while a watchdog resets the partition. -/
theorem afterHandler_release {s : State} {p : Nat} (hw : (s.part p).wdreset = none) (h : nextEvent (s.part p) = none) :
    afterHandler s p = releaseHalt s p := by
  unfold afterHandler; simp only [h, hw, Option.isSome_none, Bool.false_eq_true, if_false]

theorem afterHandler_next {s : State} {p : Nat} {e : Event} (hw : (s.part p).wdreset = none) (h : nextEvent (s.part p) = some e) :
    afterHandler s p = startHandler s p := by
  unfold afterHandler; simp only [h, hw, Option.isSome_none, Bool.false_eq_true, if_false]

theorem afterHandler_watchdog {s : State} {p : Nat} (hw : (s.part p).wdreset ≠ none) : afterHandler s p = s := by
  unfold afterHandler; rw [if_pos (Option.isSome_iff_ne_none.2 hw)]

end Sys2Proof.Machine
end

