-- ==== Sys2Proof/Tests/Slice0.lean ====
section
/-! SUPPORT. Tests: ill-formed instructions are refused, words written out from the spec's encodings decode to their instructions, single steps on small
states, and for each statement with hypotheses a state and operands that meet them. -/
namespace Sys2Proof.Tests
open Sys2Proof Sys2Proof.Machine

set_option Elab.async false

-- Small states

/-- The lanes of a course, or the one of a sequencer. -/
def lanesOf (seq : Bool) : Lanes := if seq then 1 else Lanes.all

/-- The stream that the small states run: course 0 of cluster 0, or the cluster's sequencer. -/
def sidOf (seq : Bool) : Nat := if seq then seqBase else 0

/-- One stream alone in a package after reset, before a NOP; f sets what a case needs of it. -/
def alone (seq : Bool) (f : Stream → Stream) : State :=
  { (State.reset.setStream (sidOf seq) (f (placedStream (lanesOf seq) (placedWords 32 0)))).setTeam 0 (some (placedTeam seq)) with cur := (sidOf seq, 0) }

/-- A course, as it is placed. -/
def course : State := alone false id
/-- A sequencer, as it is placed. -/
def sequencer : State := alone true id

/-- The stream's path with what a case needs of it. -/
def onPath (f : Path → Path) (t : Stream) : Stream := { t with p0 := t.p0.map f }

/-- Operands of a 32-bit form. -/
def w1 (d a b : Opnd) : Opnds := ⟨1, 0, d, a, b, .none, 0⟩
/-- Operands of a 64-bit form. -/
def w2 (mod : Nat) (d a b c : Opnd) : Opnds := ⟨2, 0, d, a, b, c, mod⟩
/-- Operands of a 96-bit form. -/
def w3 (mod : Nat) (d a b c : Opnd) : Opnds := ⟨3, 0, d, a, b, c, mod⟩

/-- The instruction passes in the state, and what it finds there meets P. -/
def opens (s : State) (op : Nat) (o : Opnds) (P : Ctx → Bool) : Bool :=
  match gate op o s with
  | .go c => WellFormed.opnds (unitOf s.cur.1) op o && WellFormed.unitOk (unitOf s.cur.1) op o && P c
  | _ => false

theorem opens_spec {s : State} {op : Nat} {o : Opnds} {P : Ctx → Bool} (h : opens s op o P = true) : ∃ c, Passes op o s c ∧ P c = true := by
  unfold opens at h
  split at h
  · next c hc =>
    rw [Bool.and_eq_true, Bool.and_eq_true] at h
    exact ⟨c, ⟨hc, h.1.1, h.1.2⟩, h.2⟩
  · exact absurd h Bool.false_ne_true

/-- A state, an opcode, its operands, and what else a clause asks of the context. -/
structure Case where
  s : State
  op : Nat
  o : Opnds
  also : Ctx → Bool

/-- Every case of the list meets the hypotheses it names. -/
def Met (cs : List Case) : Prop := ∀ e ∈ cs, ∃ c, Passes e.op e.o e.s c ∧ e.also c = true

theorem met {cs : List Case} (h : cs.all (fun e => opens e.s e.op e.o e.also) = true) : Met cs :=
  fun e he => opens_spec (List.all_eq_true.1 h e he)

/-- Nothing more is asked than that no register is bound and the block goes on. -/
def free (c : Ctx) : Bool := decide (c.t.q = []) && decide (c.nextPc.toNat ≠ c.p.hdr.toNat + 4 * c.p.blk.length)

theorem free_spec {c : Ctx} (h : free c = true) : c.unbound ∧ c.inside := by
  unfold free at h
  rw [Bool.and_eq_true, decide_eq_true_eq, decide_eq_true_eq] at h
  exact h

/-- A course's instruction with nothing more asked. -/
def plain (op : Nat) (o : Opnds) : Case := ⟨course, op, o, free⟩
/-- A sequencer's instruction with nothing more asked. -/
def plainSeq (op : Nat) (o : Opnds) : Case := ⟨sequencer, op, o, free⟩

/-- Three vector registers. -/
def vvv (op mod : Nat) : Case := plain op (w2 mod (.v 1) (.v 2) (.v 3) .none)
/-- Three scalar registers. -/
def sss (op mod : Nat) : Case := plain op (w2 mod (.s 4) (.s 8) (.s 12) .none)
/-- Two vector registers. -/
def vv (op mod : Nat) : Case := plain op (w2 mod (.v 1) (.v 2) .none .none)

-- Integer and mask instructions

theorem test_meets_SumsProductsAndMinMax :
    Met ([vvv 0x20 0, vvv 0x20 1, vvv 0x20 2, sss 0x20 3, vvv 0x21 0, vvv 0x21 1, vvv 0x21 2, sss 0x21 3, plain 0x20 (w1 (.v 63) (.v 0) (.v 1)),
      vvv 0x22 0, vvv 0x22 1, plain 0x23 (w2 0 (.v 1) (.v 2) (.v 3) (.v 4)), plain 0x23 (w2 1 (.v 1) (.v 2) (.v 3) (.s 60)), vvv 0x24 0,
      vvv 0x25 0, vvv 0x25 1, vvv 0x26 0, vvv 0x26 1, vvv 0x27 0, vvv 0x27 1]) := met (by decide +kernel)

theorem test_meets_CompareAndSelect :
    Met ((List.range 10).map (fun n => plain 0x28 (w2 n (.s 4) (.v 2) (.v 3) .none)) ++ [sss 0x28 0, sss 0x28 9,
      plain 0x34 (w2 0 (.v 1) (.s 58) (.v 3) (.v 4)), plain 0x34 (w2 0 (.s 4) (.s 8) (.s 12) (.s 16))]) := met (by decide +kernel)

theorem test_meets_LogicShiftsAndRotations :
    Met [vvv 0x29 0, vvv 0x2A 0, vvv 0x2B 0, vvv 0x2C 0, vvv 0x2D 0, vvv 0x2E 0, vvv 0x2F 0, vvv 0x2F 1, sss 0x2C 0] := met (by decide +kernel)

theorem test_meets_BitFieldsAndCounts :
    Met [plain 0x30 (w2 0 (.v 1) (.v 2) (.v 3) (.v 4)), plain 0x30 (w2 1 (.v 1) (.v 2) (.v 3) (.v 4)), plain 0x31 (w2 0 (.v 1) (.v 2) (.v 3) (.v 4)),
      vv 0x32 0, vv 0x33 0] := met (by decide +kernel)

theorem test_meets_MovesAddressesConversionsCrcAndNop :
    Met [vv 0x35 0, plain 0x36 (w2 0 (.v 1) (.imm 0x3F) .none .none), plain 0x36 (w3 0 (.s 4) (.lit 0xFFFFFFFF) .none .none),
      plain 0x37 (w2 3 (.v 1) (.v 2) (.v 3) (.v 4)), plain 0x37 (w2 0 (.s 4) (.s 8) (.s 12) (.s 16)), plain 0x37 (w2 7 (.s 4) (.s 8) (.s 12) (.s 16)),
      vv 0x38 0, vv 0x38 0x45, vvv 0x39 0, vvv 0x39 3, vvv 0x39 4, plain 0x00 (w2 0 .none .none .none .none), plainSeq 0x00 (w1 .none .none .none),
      plain 0x0C (w2 0 .none .none .none .none)] := met (by decide +kernel)

theorem test_meets_MaskOperationsOnTriples :
    Met ([0x0D, 0x0E, 0x0F, 0x11].flatMap (fun op => [sss op 0, plain op (w2 0 (.s 61) (.s 0) (.s 61) .none), plain op (w2 0 (.s 0) (.s 4) (.s 8) .none)])
      ++ [plain 0x10 (w2 0 (.s 61) (.s 8) .none .none), plain 0x10 (w1 (.s 4) (.s 8) .none)]) := met (by decide +kernel)

theorem test_meets_MaskSetFindVoteAndRead :
    Met ([sss 0x12 0, plain 0x12 (w2 0 (.s 4) (.imm 0) (.s 5) .none), plain 0x13 (w2 0 (.s 4) (.s 61) .none .none), plain 0x17 (w2 0 (.s 4) (.f 7) .none .none)]
      ++ [0, 1, 2].map (fun m => plain 0x14 (w2 m (.s 4) (.s 8) .none .none))) := met (by decide +kernel)

-- Control

/-- A page table that maps the first 1 GiB of partition 0 to HBM, to read, to write and to execute, and the rest of the first entries otherwise: to
SCM, to no memory, for nothing but reads, with EXT, and to the cistern. -/
def table : List Host.Cell := [(0x40000000, 1), (0x40000001, 0x10), (0x40000003, 0x40), (0x40001000, 0x81), (0x40001007, 0x70),
  (0x40001008, 0x81), (0x4000100D, 1), (0x4000100F, 0x70), (0x40001010, 0x81), (0x40001015, 5), (0x40001017, 0x70), (0x40001018, 0x81),
  (0x4000101F, 0x10), (0x40001020, 0x81), (0x40001027, 0xF0), (0x40001030, 0x81), (0x40001035, 4), (0x40001037, 0x70)]
/-- One stream alone with that table. -/
def mapped (seq : Bool) (f : Stream → Stream) : State :=
  let s := alone seq f
  { s.setPart 0 { s.part 0 with ptroot := 0x40000000 } with mem := table }
/-- One course alone with that table, and a header with LOOPF at 0x1018. -/
def loopTo (f : Stream → Stream) : State := { mapped false f with mem := [(0x101A, 0x30), (0x101B, 0xC0), (0x101D, 0x20)] ++ table }

/-- A course with two different links, with a full return stack, and with one entry of some lanes. -/
def split : State := alone false (fun t => { t with lr := [(3, 0x2000)] })
def deep : State := alone false (fun t => { t with rstk := List.replicate 16 ⟨0, Lanes.all⟩ })
def called (m : Lanes) : State := alone false (fun t => { t with rstk := [⟨0x3000, m⟩] })

theorem test_meets_BranchesAndLoopsTransferWholePath :
    Met ([plain 0x01 (w2 0 .none .none (.toff 4) .none), plain 0x01 (w2 0 .none .none (.toff (-4)) .none), plainSeq 0x01 (w2 0 .none .none (.toff 4) .none),
      ⟨course, 0x02, w2 0 .none (.s 61) (.toff 4) .none, fun c => c.act.getLsbD 0 && (c.triple 61).getLsbD 0⟩,
      ⟨course, 0x02, w2 1 .none (.s 8) (.toff 4) .none, fun c => c.act.getLsbD 0 && !(c.triple 8).getLsbD 0⟩,
      ⟨course, 0x02, w2 2 .none (.s 8) (.toff 4) .none, fun c => (c.triple 8) = 0⟩,
      ⟨sequencer, 0x02, w2 3 .none (.s 8) (.toff 4) .none, fun c => c.uni c.o.a = 0⟩,
      ⟨sequencer, 0x02, w2 4 .none (.s 8) (.toff 4) .none, fun c => c.uni c.o.a = 0⟩,
      plain 0x04 (w2 0 .none (.s 8) .none .none), plain 0x04 (w1 .none (.s 8) .none)] ++
      [⟨loopTo id, 0x0B, w2 0 (.s 4) .none (.toff 4) .none, fun c => free c && c.sc 4 = 0 && c.lost c.written = []⟩,
       ⟨loopTo (fun t => { t with s := [(4, 1)] }), 0x0B, w2 0 (.s 4) .none (.toff 4) .none, fun c => free c && c.sc 4 = 1⟩,
       ⟨loopTo (onPath (fun p => { p with pend := [⟨.s 4, 4, [], false, 0, false⟩] })), 0x0B, w2 0 (.s 4) .none (.toff 4) .none,
         fun c => free c && c.row.lat ≠ 0 && c.p.pend.any (fun q => decide (q.reg = .s 4 ∧ c.p.slot < q.due) && !q.done)⟩])
  ∧ (∀ u, WellFormed.opnds u 0x0B (w2 0 (.s 0) .none (.toff 4) .none) = false) := ⟨met (by decide +kernel), fun u => by cases u <;> decide +kernel⟩

theorem test_meets_CallsAndReturnsUseTheLinkRegister :
    Met ([⟨course, 0x07, w2 0 .none .none (.toff 4) .none, fun c => c.p.own.getLsbD 95 && c.t.lr = [] && c.t.rstk.length < 16⟩,
      ⟨course, 0x08, w2 0 .none (.s 8) .none .none, fun c => c.t.lr = [] && c.t.rstk.length < 16⟩, ⟨course, 0x08, w1 .none (.s 8) .none, fun c => c.t.lr = []⟩,
      ⟨split, 0x07, w2 0 .none .none (.toff 4) .none, fun c => c.p.own.getLsbD 3 && c.p.own.getLsbD 4 && c.t.lrAt 3 ≠ c.t.lrAt 4⟩,
      ⟨deep, 0x08, w2 0 .none (.s 8) .none .none, fun c => c.t.lr = [] && 16 ≤ c.t.rstk.length⟩] ++
      [⟨course, 0x09, w2 0 .none .none .none .none, fun c => c.t.rstk = []⟩, ⟨course, 0x09, w1 .none .none .none, fun c => c.t.rstk = []⟩,
       ⟨alone false (fun t => { t with rstk := [⟨0x3000, Lanes.all⟩], lr := [(3, 0x2000)] }), 0x09, w2 0 .none .none .none .none,
         fun c => c.t.rstk = [⟨0x3000, Lanes.all⟩] && c.t.lrAt 3 ≠ c.t.lrAt 4⟩,
       ⟨called 1, 0x09, w2 0 .none .none .none .none, fun c => c.t.rstk = [⟨0x3000, 1⟩] && c.p.own &&& ~~~(1 : Lanes) ≠ 0⟩,
       ⟨called Lanes.all, 0x09, w2 0 .none .none .none .none, fun c => c.p.own &&& ~~~Lanes.all = 0 && c.t.lr = [] && targetOk c.s c.who 0⟩,
       ⟨alone false (fun t => { t with rstk := [⟨0x3000, Lanes.all⟩], lr := (List.range 96).map (fun l => (l, 2)) }), 0x09, w2 0 .none .none .none .none,
         fun c => c.t.lrAt 0 = 2 && c.t.lrAt 95 = 2 && targetOk c.s c.who 2 = false⟩]) := met (by decide +kernel)

/-- A course whose record 1 is open, its lanes 0 to 31 parked there, and the rest expected there. -/
def opened (mask ja : Lanes) : State :=
  alone false (fun t => { t.setJoin 1 ⟨mask, true, ja, 0x1000, none, none, 0⟩ with p0 := t.p0.map (fun p => { p with owe := some 1 }) })

/-- Two paths. -/
def twoPaths (t : Stream) : Stream := { t with p0 := t.p0.map (fun p => { p with em := 1, own := 1 }), p1 := t.p0.map (fun p => { p with em := 2, own := 2 }) }
/-- Record 1 expects every lane, and the path owes it. -/
def parting (t : Stream) : Stream := { t.setJoin 1 ⟨Lanes.all, true, 0, 0x1000, none, none, 0⟩ with p0 := t.p0.map (fun p => { p with owe := some 1, em := 1, own := 1 }) }
/-- JOIN of record 1 parks the path's lanes, and every record with parked lanes knows where its lanes go on. -/
def parks (c : Ctx) : Bool := !c.t.inTry && c.s.ott = [] && (c.t.join 1).jv && (c.t.join 1).mask &&& ~~~((c.t.join 1).ja ||| c.p.own ||| ~~~c.t.live) ≠ 0
  && (List.range 8).all (fun m => m = 1 || (c.t.join m).ja = 0)

theorem test_meets_ExitRemovesLanesAndJoinGathersThem :
    Met ([⟨sequencer, 0x0A, w2 0 .none .none .none .none, fun c => c.seq⟩, ⟨course, 0x0A, w1 .none .none .none, fun c => !c.seq && c.p.own &&& ~~~c.act = 0⟩,
      ⟨alone false (onPath (fun p => { p with em := 1 })), 0x0A, w2 0 .none .none .none .none, fun c => !c.seq && c.p.own &&& ~~~c.act ≠ 0 && c.t.jm = []⟩] ++
      -- lane 0 waits in record 1 for lane 1, which exits: the path has no lane left, or lane 2
      [2, 6].map (fun own => ⟨alone false (fun t => { t.setJoin 1 ⟨3, true, 1, 0x1000, some (0x1010, 0x1000, []), none, 0⟩ with
          live := 7, p0 := t.p0.map (fun p => { p with em := 2, own := own }) }), 0x0A, w2 0 .none .none .none .none,
        fun c => let j := c.t.join 1
          let left := j.ja &&& ~~~c.act
          !c.seq && !c.t.inTry && j.jv && j.jr.isSome && decide (left ≠ 0 ∧ j.mask &&& ~~~(left ||| ~~~(c.t.live &&& ~~~c.act)) = 0)
            && (List.range 8).all (fun m => m = 1 || !(c.t.join m).jv)⟩) ++
      [⟨course, 0x05, w2 0 .none (.f 7) .none .none, fun c => !c.t.inTry && c.s.ott = [] && !(c.t.join 7).jv⟩,
       ⟨opened Lanes.all 0, 0x05, w2 0 .none (.f 1) .none .none, fun c => (c.t.join 1).jv && (c.t.join 1).mask &&& ~~~((c.t.join 1).ja ||| c.p.own ||| ~~~c.t.live) = 0⟩,
       ⟨alone false (fun t => { t.setJoin 1 ⟨Lanes.all, true, 0, 0x1000, none, none, 0⟩ with p0 := t.p0.map (fun p => { p with owe := some 1, em := 1, own := 1 }) }),
         0x05, w2 0 .none (.f 1) .none .none, fun c => parks c && c.t.arms = [] && (c.t.path? 1).isNone && decide (c.t.live ≠ 0 ∧ c.p.own ≠ 0)⟩,
       ⟨alone false (fun t => parting { t with arms := t.p0.toList }), 0x05, w2 0 .none (.f 1) .none .none, fun c => parks c && !c.t.arms.isEmpty⟩,
       ⟨alone false (fun t => parting (twoPaths t)), 0x05, w2 0 .none (.f 1) .none .none, fun c => parks c && c.t.arms = [] && (c.t.path? 1).isSome⟩]) :=
  met (by decide +kernel)

/-- A course in a block whose header names a rejoin point. -/
def rejoining (f : Stream → Stream) : State := alone false (fun t => f (onPath (fun p => { p with blk := [0xC0600000, 0x00048000, 0, 0, 0, 0] }) t))
/-- The operands of BRD on record 1 and the triple at s8. -/
def brd1 : Opnds := w3 0 (.f 1) (.s 8) (.lit 0x00090003) .none

theorem test_meets_BranchDivergesOnMask :
    Met ([⟨course, 0x03, brd1, fun c => c.p.owe = none && !(blockHdr c.p).rcv⟩,
      ⟨rejoining (fun t => t.setJoin 1 ⟨1, true, 0, 0x1000, none, none, 0⟩), 0x03, brd1, fun c => c.p.owe = none && (blockHdr c.p).rcv && (c.t.join 1).jv⟩,
      ⟨opened Lanes.all 0, 0x03, brd1, fun c => c.p.owe = some 1⟩, ⟨rejoining id, 0x03, brd1, fun c => (blockHdr c.p).rcv && !(c.t.join 1).jv⟩] ++
      [⟨rejoining (fun t => { t with s := [(8, 0xFFFFFFFF), (9, 0xFFFFFFFF), (10, 0xFFFFFFFF)] }), 0x03, brd1,
         fun c => (openJoin c 1).isOk && c.act &&& ~~~c.triple 8 = 0⟩,
       ⟨rejoining id, 0x03, brd1, fun c => (openJoin c 1).isOk && c.act &&& ~~~c.triple 8 ≠ 0 && c.act &&& c.triple 8 = 0⟩,
       ⟨rejoining (fun t => { t with s := [(8, 1)] }), 0x03, brd1, fun c => (openJoin c 1).isOk && c.act &&& c.triple 8 = 1 && c.t.p1 = none && c.k = 0⟩,
       ⟨rejoining (fun t => { t with
           s := [(8, 1)], p0 := t.p0.map (fun p => { p with em := 3, own := 3 }), p1 := t.p0.map (fun p => { p with em := 4, own := 4 }),
           arms := t.p0.toList.flatMap (fun p => List.replicate 31 p) }), 0x03, brd1,
         fun c => (openJoin c 1).isOk && c.act &&& c.triple 8 = 1 && c.act &&& ~~~c.triple 8 = 2 && c.t.p1.isSome && c.t.arms.length = 31 && c.k = 0⟩,
       ⟨rejoining (fun t => { t with
           s := [(8, 1)], p0 := t.p0.map (fun p => { p with em := 3, own := 3 }), p1 := t.p0.map (fun p => { p with em := 4, own := 4 }),
           arms := t.p0.toList.flatMap (fun p => List.replicate 32 p) }), 0x03, brd1,
         fun c => (openJoin c 1).isOk && c.act &&& c.triple 8 = 1 && c.t.p1.isSome && 32 ≤ c.t.arms.length⟩]) := met (by decide +kernel)

/-- JARV of a course whose active lanes name n targets, in a block with a rejoin point, its other path there or not, with so many arms pending. -/
def branching (n : Nat) (both : Bool) (arms : Nat) : Case :=
  ⟨rejoining (fun t => { t with
      v := (List.range n).map (fun l => (192 + l, BitVec.ofNat 32 (4 * l + 4))), p0 := t.p0.map (fun p => { p with em := BitVec.ofNat 96 (2 ^ n - 1), own := 255 }),
      p1 := if both then t.p0.map (fun p => { p with em := 256, own := 256 }) else none, arms := t.p0.toList.flatMap (fun p => List.replicate arms p) }),
    0x06, w2 0 (.f 1) (.v 2) .none .none,
    fun c => (openJoin c 1).isOk && decide ((c.act.list.map c.srcA).Nodup ∧ c.act.list.length = n ∧ c.t.arms.length = arms ∧ c.k = 0)
      && (c.t.path? 1).isSome == both⟩

theorem test_meets_IndirectBranchAndRecordMoves :
    Met ([⟨alone false (onPath (fun p => { p with em := 0 })), 0x06, w2 0 (.f 1) (.v 2) .none .none, fun c => c.act = 0⟩,
      ⟨rejoining id, 0x06, w2 0 (.f 1) (.v 2) .none .none, fun c => c.act ≠ 0 && c.t.arms = [] && c.t.v = [] && (openJoin c 1).isOk⟩,
      branching 2 false 0, branching 2 false 32, branching 2 true 31, branching 2 true 32, branching 3 false 32] ++
      [plain 0x15 (w2 0 (.f 1) (.f 1) .none .none), ⟨opened 1 0, 0x15, w2 0 (.f 1) (.f 2) .none .none, fun c => (c.t.join 1).jv⟩,
       ⟨opened 1 0, 0x15, w2 0 (.f 7) (.f 1) .none .none, fun c => !(c.t.join 7).jv && c.p.owe = some 1⟩, ⟨course, 0x16, w2 0 (.f 1) (.s 8) .none .none, fun c => !(c.t.join 1).jv⟩,
       ⟨alone false (fun t => { t.setJoin 1 ⟨3, true, 1, 0x1000, some (0x1010, 0x1000, []), none, 0⟩ with s := [(8, 1)] }), 0x16, w2 0 (.f 1) (.s 8) .none .none,
         fun c => let j := { c.t.join 1 with mask := c.triple 8 }
           j.jv && j.jr.isSome && !c.t.inTry && decide (j.ja ≠ 0 ∧ j.mask &&& ~~~(j.ja ||| ~~~c.t.live) = 0)⟩]) :=
  met (by decide +kernel)

-- Floating point and cross-lane

/-- Lanes of v2 and v3 that hold 1, +inf, -inf, a quiet and a signalling NaN, +0, -0 and -1, paired so that each special of a sum and a product occurs. -/
def specials : State := alone false (fun t => { t with
  v := (List.range 8).map (fun l => (96 * 2 + l, nth 0 [0x3F800000, 0x7F800000, 0xFF800000, 0x7FC00000, 0x7F800001, 0x00000001, 0x80000000, 0xBF800000] l))
    ++ (List.range 8).map (fun l => (96 * 3 + l, nth 0 [0x3F800000, 0xFF800000, 0xFF800000, 0x7FC00000, 0x3F800000, 0x7F800000, 0x80000000, 0x7F800000] l)) })
/-- The FP32 value of a lane of v2 or v3. -/
def num (c : Ctx) (x : Opnd) (l : Nat) : Machine.Num := c.numF f32 x l
/-- Every special occurs in some lane. -/
def seen (c : Ctx) : Bool := free c && (num c (.v 2) 0).isFin && num c (.v 2) 1 = .inf false && num c (.v 2) 2 = .inf true && num c (.v 2) 3 = .nan false
  && num c (.v 2) 4 = .nan true && (num c (.v 2) 6).isZero && (num c (.v 2) 6).isNeg && (num c (.v 2) 7).isNeg && (num c (.v 2) 8).isZero
  && num c (.v 3) 1 = .inf true && num c (.v 3) 5 = .inf false
/-- An instruction on the specials. -/
def onSpecials (op mod : Nat) (b : Opnd) : Case := ⟨specials, op, w2 mod (.v 1) (.v 2) b .none, seen⟩

theorem test_meets_FloatArithmeticRoundsExactResultOnce :
    Met ([0x40, 0x41, 0x42].flatMap (fun op => [onSpecials op 0 (.v 3), vvv op 1, vvv op 2]) ++ [⟨specials, 0x43, w2 0 (.v 1) (.v 2) (.v 3) (.v 4), seen⟩,
      plain 0x43 (w2 2 (.v 1) (.v 2) (.v 3) (.v 4)),
      ⟨alone false (fun t => { t with mode := 2, v := [(192, 0x7F800000)] }), 0x43, w2 0 (.v 1) (.v 2) (.v 3) (.v 4),
        fun c => rmOf c.mode = 2 && num c (.v 2) 0 = .inf false && (num c (.v 3) 0).isZero⟩])
  ∧ (f32.num false 0x7F7FFFFF).isNan = false ∧ (f16.num false 0xFBFF).isNan = false ∧ (bf16.num false 0x0001).isNan = false :=
  ⟨met (by decide +kernel), by decide +kernel, by decide +kernel, by decide +kernel⟩

theorem test_meets_FloatMinMaxCompareClassAndSign :
    Met ([onSpecials 0x44 0 (.v 3), onSpecials 0x45 0 (.v 3), onSpecials 0x47 0 .none, vv 0x47 1, onSpecials 0x48 2 (.v 3), vvv 0x48 3, vv 0x48 0, vv 0x48 1]
      ++ (List.range 8).map (fun m => ⟨specials, 0x46, w2 m (.s 4) (.v 2) (.v 3) .none, seen⟩) ++ [sss 0x46 0, sss 0x46 7]) := met (by decide +kernel)

theorem test_meets_SpecialFunctionsConversionsAndBlocks :
    Met ([0x49, 0x4A, 0x4B, 0x4C, 0x4D, 0x4E, 0x4F].map (fun op => onSpecials op 0 .none) ++ [onSpecials 0x50 0x10 .none, onSpecials 0x50 0x50 .none,
      onSpecials 0x50 0x80 .none, vv 0x50 0x05, vv 0x50 0x08, plain 0x51 (w2 0 (.v 1) (.v 2) (.s 12) .none), plain 0x51 (w2 15 (.v 1) (.v 2) (.s 12) .none),
      plain 0x52 (w2 0 (.v 1) (.v 2) (.s 12) .none), plain 0x52 (w2 1 (.v 1) (.v 2) (.s 57) .none), vvv 0x53 0, vvv 0x53 1, vv 0x54 0, vv 0x55 0]) :=
  met (by decide +kernel)

theorem test_meets_LaneExchangesFollowIndices :
    Met [vvv 0x60 0, vvv 0x61 0, plain 0x62 (w2 0 (.v 1) (.v 2) (.s 12) .none), plain 0x62 (w2 1 (.v 1) (.v 2) (.s 12) .none),
      plain 0x62 (w2 2 (.v 1) (.v 2) (.s 12) .none), plain 0x63 (w2 0 (.v 1) (.v 2) (.s 12) .none), plain 0x6A (w2 0 (.s 4) (.v 2) (.s 12) .none),
      ⟨alone false (fun t => { t with s := [(12, 96)] }), 0x63, w2 0 (.v 1) (.v 2) (.s 12) .none, fun c => 96 ≤ (c.srcB 0).toNat⟩,
      ⟨course, 0x6B, w2 0 (.v 1) (.s 8) (.s 12) .none, fun c => c.act.getLsbD (c.srcB 0).toNat⟩,
      ⟨alone false (fun t => { t with s := [(12, 96)] }), 0x6B, w2 0 (.v 1) (.s 8) (.s 12) .none, fun c => 96 ≤ (c.srcB 0).toNat⟩] := met (by decide +kernel)

-- Special registers, reductions, memory

/-- Reads of every special register named in R420, and an undefined number. -/
def specialReads : List Nat := (List.range 8) ++ (List.range 9).map (fun n => 0x20 + n)

theorem test_meets_SpecialRegistersAreReadAndWritten :
    Met ([plain 0x57 (w2 0 .none (.s 8) .none .none), plainSeq 0x57 (w2 0 .none (.s 8) .none .none), plain 0x58 (w2 0 (.s 4) .none .none .none),
      plain 0x59 (w2 0 (.s 4) .none .none .none), plain 0x59 (w2 1 (.s 4) .none .none .none)]
      ++ [0, 1].map (fun m => ⟨alone false (fun t => { twoPaths t with fpflags := 5, p1 := (twoPaths t).p1.map (fun p => { p with fl := [⟨some 4, 5, 4, 0⟩] }) }),
        0x59, w2 m (.s 4) .none .none .none, fun c => free c && (c.t.path? 1).any (fun q => q.fl.all (fun e => e.doubt &&& ~~~e.w = 0 && e.due.any (fun d => q.slot < d)))⟩)
      ++ specialReads.flatMap (fun m => [plain 0xF3 (w2 m (.s 4) .none .none .none), plainSeq 0xF3 (w2 m (.s 4) .none .none .none)])
      ++ [0x00, 0x05, 0x26, 0x28].flatMap (fun m => [plain 0xF4 (w2 m .none (.s 8) .none .none), plainSeq 0xF4 (w2 m .none (.s 8) .none .none)])
      ++ [⟨alone false (fun t => { t with sys := false }), 0xF4, w2 0x26 .none (.s 8) .none .none, fun c => c.t.hnd.isNone && !c.t.sys⟩,
        plain 0xF6 (w2 0 (.s 4) (.s 8) (.s 12) .none), plain 0xF8 (w2 0 (.s 4) .none .none .none)]
      ++ (List.range 10).map (fun n => ⟨alone false (fun t => { t with s := if n = 0 then [] else [(8, BitVec.ofNat 32 n)] }), 0xF7, w2 0 (.s 4) (.s 8) .none .none,
        fun c => decide ((c.uni c.o.a).toNat = n)⟩)) := met (by decide +kernel)

theorem test_meets_ReductionsScansAndMatching :
    Met ((List.range 11).flatMap (fun m => [vv 0x64 m, vv 0x65 m, vv 0x65 (m + 16)])
      ++ [⟨alone false (onPath (fun p => { p with em := 0 })), 0x64, w2 8 (.v 1) (.v 2) .none .none, fun c => c.act = 0⟩,
        ⟨alone false (fun t => { onPath (fun p => { p with em := 1 }) t with v := [(192, 0x3F800000)] }), 0x64, w2 8 (.v 1) (.v 2) .none .none,
          fun c => c.act.list = [0] && !(f32.num (dazOf c.mode) (c.vec c.o.a 0).toNat).isZero && !(f32.num false (c.vec c.o.a 0).toNat).isNan⟩,
        ⟨alone false (fun t => { t with s := [(12, 5)] }), 0x66, w2 0 (.v 1) (.v 2) (.s 12) .none, fun c => (c.triple 12).getLsbD 2⟩,
        ⟨alone false (fun t => { t with s := [(12, 5)] }), 0x67, w2 0 (.v 1) (.v 2) (.s 12) .none, fun c => (c.triple 12).getLsbD 2⟩,
        vv 0x68 0, vv 0x68 1, vv 0x68 2, plain 0x69 (w2 0 (.v 1) .none .none .none)]) := met (by decide +kernel)

/-- Who asks: partition 0 with a window of two units. -/
def asker : Who := ⟨0, 0, 0, 2⟩
/-- The machine with that table. -/
def paged : State := mapped false id

theorem test_meets_AccessChecksComeInTheirOrder :
    ((0x1000000000000 : Nat) < 2 ^ 64 ∧ 2 ^ 48 ≤ 0x1000000000000) ∧
    (0xFFFF00020000 / 2 ^ 32 = 0xFFFF ∧ asker.wsize * 65536 ≤ 0xFFFF00020000 % 2 ^ 32) ∧ 0xFFFF0001FFFF % 2 ^ 32 < asker.wsize * 65536 ∧
    (lookup paged 0 0x140000000).isOk = false ∧
    (lookup paged 0 0x1000).toOption.map (fun l => (l.pte.testBit 60, l.pte.testBit 63, regionOf l.spa)) = some (true, false, .hbm) ∧
    (lookup paged 0 0x40000000).toOption.map (fun l => regionOf l.spa) = some .scm ∧
    (lookup paged 0 0x80000000).toOption.map (fun l => regionOf l.spa) = some .hole ∧
    (lookup paged 0 0xC0000000).toOption.map (fun l => l.pte.testBit 61) = some false ∧
    (lookup paged 0 0x100000000).toOption.map (fun l => l.pte.testBit 63) = some true ∧
    (probe paged asker Acc.read 0xFFC).isOk = true ∧ 0xFFC % 4096 + 4 ≤ 4096 ∧
    (checkLanes paged asker Acc.read 4 4 [(0, 0x100), (95, 0x200)]).isOk = true ∧
    (checkLanes paged asker Acc.read 4 4 [(0, 0x100), (95, 0x201)]).isOk = false := by decide +kernel

/-- Nothing holds the access back, and its lanes pass the checks. -/
def sends (acc : Acc) (n : Nat) (lanes : Ctx → List (Nat × Nat)) (c : Ctx) : Bool :=
  match checkLanes c.s c.who acc n n (lanes c) with
  | .ok as => decide (c.t.q = []) && !c.t.inTry && decide (c.t.acq = []) && !loadsOut c.s c.sid && decide (c.t.outst = 0) && (decide (acc = Acc.read) || decide (c.s.drains = []))
      && decide ((c.s.part c.t.part).blocks = []) && !c.othersOut && c.s.ott.all (fun e => e.2.all (fun x => x.loop.isNone))
      && decide (freeEntries c.s (tblOf c.sid) (byGranule (as.map (fun a => ⟨a.1, a.2.1, a.2.2, .read n, .none, []⟩))).length ≠ none)
  | .error _ => false
/-- The addresses of the active lanes, and the one of a uniform access. -/
def laneVas (c : Ctx) : List (Nat × Nat) := c.act.list.map (fun l => (l, c.va l))
def oneVa (c : Ctx) : List (Nat × Nat) := [(c.uniLane, c.va 0)]
/-- Lanes 1 and 2 at addresses 0x1100 and 0x1204, with the table; the same, with an acquire outstanding. -/
def twoLanes (f : Stream → Stream) : State :=
  mapped false (fun t => f (onPath (fun p => { p with em := 6 }) { t with s := [(8, 0x1000)], v := [(289, 0x100), (290, 0x204), (193, 0x9), (194, 0x8)] }))
/-- An access of those lanes. -/
def laneCase (op mod : Nat) (d a b c : Opnd) (acc : Acc) (n : Nat) : Case := ⟨twoLanes id, op, w2 mod d a b c, sends acc n laneVas⟩
/-- A uniform access. -/
def oneCase (op mod : Nat) (d a b c : Opnd) (acc : Acc) (n : Nat) : Case := ⟨twoLanes id, op, w2 mod d a b c, sends acc n oneVa⟩
/-- The same instruction while an acquire is outstanding. -/
def acquiring (op : Nat) (d a b c : Opnd) : Case := ⟨twoLanes (fun t => { t with acq := [⟨0, 0, 0⟩] }), op, w2 0 d a b c, fun c => decide (c.t.acq ≠ [])⟩
/-- An access that no lane's address passes: there is no table. -/
def faulting (op : Nat) (acc : Acc) : Case :=
  ⟨course, op, w2 0 (.v 2) (.s 8) (.v 3) (.disp 0), fun c => decide (c.t.acq = []) && !c.ordered && !(checkLanes c.s c.who acc 4 4 (laneVas c)).isOk⟩

theorem test_meets_MemoryInstructionsSendTheirLanes :
    Met ([laneCase 0x70 0 (.v 2) (.s 8) (.v 3) (.disp 0) Acc.read 4, laneCase 0x70 0x33 (.v 2) (.s 8) (.v 3) (.disp 0) Acc.read 1,
      laneCase 0x71 0 (.v 2) (.s 8) (.v 3) (.disp 0) Acc.write 4, oneCase 0x72 0 (.s 4) (.s 8) (.s 12) (.disp 0) Acc.read 4,
      oneCase 0x72 9 (.s 4) (.s 8) (.s 12) (.disp 0) Acc.read 8, oneCase 0x73 9 (.s 4) (.s 8) (.s 12) (.disp 0) Acc.write 8,
      laneCase 0x77 9 (.v 2) (.s 8) (.v 3) (.imm 1) (Acc.atomic false) 4, laneCase 0x77 8 (.v 2) (.s 8) (.v 3) (.v 4) (Acc.atomic true) 4, oneCase 0x78 0 (.s 4) (.s 8) (.s 12) (.s 16) (Acc.atomic true) 4,
      laneCase 0x79 0 (.v 2) (.s 8) (.v 3) (.v 4) (Acc.atomic true) 4, oneCase 0x7A 0 (.s 4) (.s 8) (.s 12) (.s 16) (Acc.atomic true) 4,
      oneCase 0x7A 1 (.s 4) (.s 8) (.s 12) (.s 16) (Acc.atomic true) 8, oneCase 0x7F 0 .none (.s 8) (.s 12) (.disp 0) Acc.write 256]
      ++ [⟨{ twoLanes id with drains := [⟨1, 0, 0, 0x1100, [(0, some 7)], 0x1008, 0x1100, none, 0, false, 0, false, 0⟩] }, 0x70,
          w2 0 (.v 2) (.s 8) (.v 3) (.disp 0), fun c => sends Acc.read 4 laneVas c && decide (committed c.s c.cl 0x1100 4 ≠ [])⟩,
        ⟨mapped false id, 0x74, w2 1 (.v 4) (.s 8) (.v 3) (.disp 0), sends Acc.read 8 laneVas⟩,
        ⟨mapped false id, 0x75, w2 2 (.v 4) (.s 8) (.v 3) (.disp 0), sends Acc.write 16 laneVas⟩]
      ++ [acquiring 0x70 (.v 2) (.s 8) (.v 3) (.disp 0), acquiring 0x71 (.v 2) (.s 8) (.v 3) (.disp 0), acquiring 0x72 (.s 4) (.s 8) (.s 12) (.disp 0),
        acquiring 0x73 (.s 4) (.s 8) (.s 12) (.disp 0), acquiring 0x77 (.v 2) (.s 8) (.v 3) (.v 4), acquiring 0x79 (.v 2) (.s 8) (.v 3) (.v 4),
        acquiring 0x7F .none (.s 8) (.s 12) (.disp 0), faulting 0x70 Acc.read, faulting 0x71 Acc.write]) := met (by decide +kernel)

/-- A piece at address 0x1000. -/
def pieceOf (op : MemOp) (dst : Dst) : Piece := ⟨1, 0x1000, 0x1000, op, dst, []⟩

theorem test_meets_PerformingAPieceTouchesItsBytesOnly :
    (performPiece course (pieceOf (.write [1, 2, 3, 4]) .none)).1.byteAt 0x1003 = 4 ∧ (performPiece course (pieceOf (.read 4) .none)).2.1 = [0, 0, 0, 0] ∧
    (performPiece { course with ue := [0x10] } (pieceOf (.atom 0 1 0) .none)).2.2 = true ∧
    (performPiece course (pieceOf (.atom 9 0x3F800000 0) .none)).2.2 = false ∧
    (performPiece course (pieceOf (.cas 0 7) .none)).1.byteAt 0x1000 = 7 ∧ (performPiece course (pieceOf (.cas64 1 7) .none)).1.byteAt 0x1000 = 0 := by
  decide +kernel

/-- An entry of course 0 for one piece, and its request, performed or not. -/
def entryOf (kind : ReqKind) (p : Piece) : Entry :=
  ⟨0, 0, 0x1008, 0x1000, kind, 0, 0, [p], false, false, false, false, [], 0, 0, 0, 16777216, none, false⟩
def reqFor (p : Piece) (done : Bool) (data : List (List Byte)) : Req := ⟨⟨0, 3, 0⟩, 0, 0, 0, [p], done, data, false, true, 1, [], 0, 0, 0, [], []⟩
/-- Course 0 with a request outstanding in entry 3 of its table. -/
def outstanding (kind : ReqKind) (p : Piece) (done : Bool) (data : List (List Byte)) : State :=
  { course with ott := [(entKey 0 3, some (entryOf kind p))], reqs := [reqFor p done data] }
/-- What the clauses on an answer ask of a state: its stream, its entry and its request. -/
def answered (s : State) (kind : ReqKind) : Bool :=
  match Tab.get none s.ott (entKey 0 3), s.stream? 0, s.reqs[0]? with
  | some e, some t, some r => decide (e.kind = kind) && !e.gone && t.hnd.isNone && decide (reqOf s ⟨0, 3, 0⟩ = some 0) && r.done && !r.ue
      && decide ((genOf s 0 3).1 = 0) && !e.drop && decide (e.q = []) && decide (e.pieces.length = 1) && decide (r.data.length = 1)
  | _, _, _ => false
/-- Requests that are outstanding long enough, or not long enough, to time out. -/
def aged (clock : Nat) : State := { outstanding .load (pieceOf (.read 4) (.v 2 0 0)) false [] with clock := clock }

theorem test_meets_RequestsPerformInOrderAndAreAnswered :
    (let x := reqFor (pieceOf (.read 4) .none) false []
     let s := { outstanding .load (pieceOf (.read 4) (.v 2 0 0)) false [] with reqs := [x, { x with ins := 2 }] }
     s.reqs[0]? = some x ∧ s.reqs[1]? = some { x with ins := 2 } ∧ x.done = false ∧ x.live = true ∧ x.ins ≠ 2) ∧
    (let s := outstanding .load (pieceOf (.read 4) (.v 2 0 0)) false []
     (s.reqs[0]?).map (fun r => (r.pieces, mayPerform s.reqs 0, homeUp s 0x1000, inRace s r.know r.taint r.sid 0x1000 4))
       = some ([pieceOf (.read 4) (.v 2 0 0)], true, true, false)) ∧
    answered (outstanding .load (pieceOf (.read 4) (.v 2 1 3)) true [[1, 2, 3, 0xFF]]) .load = true ∧
    answered (outstanding .load (pieceOf (.read 4) (.s 60 0)) true [[1, 2, 3, 4]]) .load = true ∧
    answered (outstanding .atomic (pieceOf (.cas64 0 0) (.sp 58)) true [[1, 2, 3, 4, 5, 6, 7, 8]]) .atomic = true ∧
    answered (outstanding .store (pieceOf (.write [0]) .none) true [[]]) .store = true ∧
    (genOf course 0 3).1 ≠ 1 ∧ reqOf course ⟨0, 3, 1⟩ = none ∧ course.fout = [] ∧
    (aged 16777215).clock < 0 + (entryOf .load (pieceOf (.read 4) .none)).limit ∧ 0 + (entryOf .load (pieceOf (.read 4) .none)).limit ≤ (aged 16777216).clock ∧ ((aged 16777216).part 0).wdreset = none ∧
    (aged 16777216).pwait = [] ∧ ((aged 16777216).stream? 0).map (fun t => t.part) = some 0 := by
  decide +kernel

/-- A course with one active lane, the table, and the given bytes at 0x2000. -/
def record (bs : List Host.Cell) : State := { mapped false (fun t => onPath (fun p => { p with em := 1 }) { t with s := [(8, 0x2000)] }) with
  mem := bs ++ table }
/-- The course is no system launch's. -/
def user : State := alone false (fun t => { t with sys := false })
/-- The address of s8 lies in the aperture. -/
def inAperture : State := alone false (fun t => { t with s := [(9, 0xFFFF)] })
/-- The address of s8 lies above bit 47. -/
def above47 : State := alone false (fun t => { t with s := [(9, 0x10000)] })
/-- Sixteen pages are blocked. -/
def blockedPages (n : Nat) : State := paged.setPart 0 { paged.part 0 with blocks := List.replicate n (0x5000, 12) }

theorem test_meets_TranslationStashAndUpdateInstructions :
    Met [plain 0x7B (w2 0 .none (.s 8) (.v 3) (.disp 0)), ⟨user, 0x7C, w2 0 .none (.s 8) (.s 12) (.disp 0), fun c => !c.t.sys⟩,
      ⟨course, 0x7C, w2 1 .none .none .none .none, fun c => c.t.sys && free c⟩,
      ⟨inAperture, 0x7C, w2 0 .none (.s 8) (.s 12) (.disp 0), fun c => c.t.sys && decide (c.va 0 / 2 ^ 32 = 0xFFFF)⟩,
      ⟨course, 0x7C, w2 0 .none (.s 8) (.s 12) (.disp 0), fun c => c.t.sys && free c && decide (c.va 0 < 2 ^ 48 ∧ c.va 0 / 2 ^ 32 ≠ 0xFFFF)⟩,
      ⟨above47, 0x7C, w2 0 .none (.s 8) (.s 12) (.disp 0), fun c => c.t.sys && decide (2 ^ 48 ≤ c.va 0)⟩,
      ⟨above47, 0x7D, w2 0 .none (.s 8) (.s 12) (.disp 0), fun c => c.t.sys && decide (2 ^ 48 ≤ c.va 0)⟩,
      ⟨user, 0x7D, w2 0 .none (.s 8) (.s 12) (.disp 0), fun c => !c.t.sys⟩,
      ⟨inAperture, 0x7D, w2 0 .none (.s 8) (.s 12) (.disp 0), fun c => c.t.sys && decide (c.va 0 / 2 ^ 32 = 0xFFFF)⟩,
      ⟨blockedPages 16, 0x7D, w2 0 .none (.s 8) (.s 12) (.disp 0), fun c => c.t.sys && free c && c.p.wait.isNone && decide (16 ≤ (c.s.part 0).blocks.length)⟩,
      ⟨blockedPages 15, 0x7D, w2 0 .none (.s 8) (.s 12) (.disp 0), fun c => c.t.sys && free c && c.p.wait.isNone && decide ((c.s.part 0).blocks.length < 16)
        && !pageBusy (c.s.setPart 0 { c.s.part 0 with blocks := pageOf c.s 0 (c.va 0) :: (c.s.part 0).blocks }) 0 (pageOf c.s 0 (c.va 0))⟩,
      ⟨paged, 0x7E, w2 1 (.s 4) (.s 8) (.s 12) (.disp 0), fun c => free c && !blocked c.s 0 (c.va 0) 1 && (probe c.s c.who Acc.write (c.va 0)).isOk⟩,
      ⟨course, 0x7E, w2 0 (.s 4) (.s 8) (.s 12) (.disp 0), fun c => free c && !blocked c.s 0 (c.va 0) 1 && !(probe c.s c.who Acc.read (c.va 0)).isOk⟩,
      ⟨record [], 0x76, w2 0 (.v 4) (.s 8) (.s 0) (.disp 0), fun c => match readAtIssue c (c.va 0) 32 32 with
        | .ok bs => free c && !stashOk (stashDesc bs)
        | .error _ => false⟩,
      ⟨record [(0x201A, 1)], 0x76, w2 0 (.v 4) (.s 8) (.s 0) (.disp 0), fun c => match readAtIssue c (c.va 0) 32 32 with
        | .ok bs => free c && stashOk (stashDesc bs) && decide (c.dReg + (stashDesc bs).ncol ≤ c.t.alloc) && decide (c.t.vp = [] ∧ c.t.hwue = [] ∧ c.s.ott = [] ∧ c.s.ottGen = [])
          && decide (c.s.drains = [] ∧ c.s.gated = []) && decide ((c.s.part 0).blocks = [] ∧ (c.s.part 0).migring = 0)
          && (stashElems c (c.view 0) (stashDesc bs)).all (fun e => (access c.s c.who Acc.write e.2.1 e.2.2.length 1).isOk)
        | .error _ => false⟩,
      ⟨record [(0x2001, 0x30), (0x200C, 1)], 0x56, w2 0 (.v 1) (.s 8) (.v 3) .none, fun c => match readAtIssue c (c.pair (Ctx.sn c.o.a)).toNat 64 64 with
        | .ok bs => free c && (match updLanes c false (updRec bs) c.act.list with
            | .ok els => decide (els.Pairwise (fun a b => meet a.spa a.n b.spa b.n = false)) && els.all (fun e => regionOf e.spa ≠ .scm)
            | .error _ => false) && decide (c.s.gated = []) && decide (c.act.list.length ≤ 16)
          && decide (c.s.pwait = [] ∧ c.s.pq = [] ∧ c.s.ott = [] ∧ c.s.ottGen = [] ∧ c.s.reqs = [] ∧ c.s.drains = [] ∧ c.s.ue = []
            ∧ (c.s.part 0).blocks = [] ∧ (c.s.part 0).migring = 0)
        | .error _ => false⟩] := met (by decide +kernel)

-- Fences, barriers and regions

/-- A course with a load, or a store, outstanding. -/
def loading : State := outstanding .load (pieceOf (.read 4) (.v 90 0 0)) false []
def storing : State := alone false (fun t => { t with outst := 1 })
/-- FENCE.X of class 0. -/
def fenceX0 : Opnds := w2 0 (.f 1) (.f 1) .none .none

theorem test_meets_FencesWaitForTheirClasses :
    Met [⟨course, 0x80, w2 0 .none .none .none .none, fun c => decide (c.t.outst = 0) && !loadsOut c.s c.sid⟩,
      ⟨storing, 0x80, w2 1 .none .none .none .none, fun c => !loadsOut c.s c.sid⟩, ⟨loading, 0x80, w2 2 .none .none .none .none, fun c => decide (c.t.outst = 0)⟩,
      ⟨storing, 0x80, w2 2 .none .none .none .none, fun c => decide (c.t.outst ≠ 0)⟩, ⟨loading, 0x80, w2 1 .none .none .none .none, fun c => loadsOut c.s c.sid⟩,
      ⟨course, 0x81, fenceX0, fun c => !classBusy c 0⟩, ⟨loading, 0x81, fenceX0, fun c => classBusy c 0⟩, plain 0x82 (w2 0 (.s 4) .none .none .none)] :=
  met (by decide +kernel)

/-- A course with s8 and s12 set, in a team that expects n arrivals. -/
def team (n a b : Nat) (f : Stream → Stream) : State :=
  (alone false (fun t => f { t with s := [(8, BitVec.ofNat 32 a), (12, BitVec.ofNat 32 b)] })).setTeam 0 (some { placedTeam false with ncourses := n })
/-- What a barrier's clauses ask of the id. -/
def barCase (s : State) (op : Nat) (d b : Opnd) (also : Ctx → Bool) : Case :=
  ⟨s, op, w2 0 d (.s 8) b .none, fun c => decide (c.t.q = []) && (c.s.team? c.t.team).isSome && also c⟩
/-- The count and phase that barrier 0 starts with, after one arrival where the team expects two. -/
def arrived1 : State := (team 2 0 3 id).setTeam 0 (some { placedTeam false with ncourses := 2, bars := [(0, ⟨2, 1, 0, [], []⟩)] })

theorem test_meets_BarriersCountArrivalsAndFlipPhase :
    Met ([(0x83, Opnd.none), (0x84, .s 4), (0x87, .s 4)].flatMap (fun e => [
        barCase (team 1 8 0 id) e.1 e.2 .none (fun c => c.p.wait.isNone && decide (7 < (c.uni c.o.a).toNat)),
        barCase (team 1 7 0 twoPaths) e.1 e.2 .none (fun c => c.p.wait.isNone && c.t.divided && decide ((c.uni c.o.a).toNat ≤ 7)),
        barCase (team 1 7 0 id) e.1 e.2 .none (fun c => c.p.wait.isNone && !c.t.divided && !loadsOut c.s c.sid),
        barCase (team 2 0 0 id) e.1 e.2 .none (fun c => c.p.wait.isNone && !c.t.divided && !loadsOut c.s c.sid)])
      ++ [barCase (team 1 0 0 (onPath (fun p => { p with wait := some (.bar 0) }))) 0x83 .none .none (fun c => decide (c.p.wait = some (.bar 0))),
        barCase (team 1 0 0 (onPath (fun p => { p with wait := some (.bar 9) }))) 0x83 .none .none (fun c => decide (c.p.wait = some (.bar 9)))]
      ++ [barCase (team 1 8 0 id) 0x85 .none (.s 12) (fun c => decide (7 < (c.uni c.o.a).toNat)), barCase (team 1 7 0 id) 0x85 .none (.s 12) (fun c => decide (c.uni c.o.b = 0)),
        barCase (team 1 7 5 id) 0x85 .none (.s 12) (fun c => decide (c.uni c.o.b ≠ 0))]
      ++ [barCase (team 1 8 1 id) 0x86 .none (.s 12) (fun c => decide (7 < (c.uni c.o.a).toNat)), barCase (team 1 7 0 id) 0x86 .none (.s 12) (fun c => decide (c.uni c.o.b = 0)),
        barCase (team 1 7 256 id) 0x86 .none (.s 12) (fun c => decide (255 < (c.uni c.o.b).toNat)), barCase arrived1 0x86 .none (.s 12) (fun c => decide ((c.uni c.o.b).toNat = 3)),
        barCase (team 1 7 255 id) 0x86 .none (.s 12) (fun c => decide ((c.uni c.o.b).toNat = 255))]) := met (by decide +kernel)

/-- The open region of a course at depth n with a written sector; the lane mask it began with. -/
def region (t : Stream) : Region :=
  ⟨⟨t.p0, t.p1, t.arms, t.jm, t.rstk, t.lr⟩, 0xFF, Lanes.all, 8, 60, [], [], 0x2000, [⟨0x1000, 0x1000, 1, some 0, [(0, some 1)], 0⟩], 1, false⟩
/-- The course in that region. -/
def within (n : Nat) (t : Stream) : Stream := { t with tr := some (region t), tryst := BitVec.ofNat 32 (0x80 + 256 * n) }
def inTry (n : Nat) (f : Stream → Stream) : State := mapped false (fun t => within n (f t))
/-- A course before TRY whose block goes on at 0x1010 with the given header words, which the table maps. -/
def beforeTry (w0 w1 : List Host.Cell) (f : Stream → Stream) : State := { mapped false f with mem := w0 ++ w1 ++ [(0x101A, 0x30), (0x101B, 0xC0)] ++ table }
/-- The words of a header of length 3 with TRY, and with the given bits above. -/
def tryHdr (b : Byte) : List Host.Cell := [(0x1010, 0), (0x1011, 0), (0x1012, 0x30), (0x1013, 0xC0)].filter (fun c => c.2 ≠ 0) ++ [(0x1015, b)].filter (fun c => c.2 ≠ 0)
/-- What TRY finds at the header that follows. -/
def tryHead (c : Ctx) (P : Hdr → Bool) : Bool :=
  match codeWord c.s c.who c.nextPc, codeWord c.s c.who (c.nextPc + 4) with
  | some x, some y => decide (c.t.q = []) && !c.t.inTry && !c.t.divided && (access c.s c.who Acc.fetch c.nextPc.toNat 8 1).isOk && P (hdrOf x y)
  | _, _ => false

theorem test_meets_TryRegionsOpenNestCommitAndAbort :
    Met ([⟨inTry 1 id, 0x90, w2 0 .none .none (.toff 4) .none, fun c => decide (c.t.q = []) && c.t.inTry⟩,
        ⟨beforeTry [] [] twoPaths, 0x90, w2 0 .none .none (.toff 4) .none, fun c => decide (c.t.q = []) && !c.t.inTry && c.t.divided⟩,
        ⟨beforeTry (tryHdr 0) [] id, 0x90, w2 0 .none .none (.toff 4) .none, fun c => tryHead c (fun h => targetOk c.s c.who c.nextPc && !h.tryf)⟩,
        ⟨beforeTry [] [] id, 0x90, w2 0 .none .none (.toff 4) .none, fun c => tryHead c (fun _ => !targetOk c.s c.who c.nextPc)⟩,
        ⟨beforeTry (tryHdr 0x40) [] (fun t => { t with nsh := 0 }), 0x90, w2 0 .none .none (.toff 4) .none,
          fun c => tryHead c (fun h => targetOk c.s c.who c.nextPc && h.tryf && decide (c.t.nsh = 0))⟩,
        ⟨beforeTry (tryHdr 0x40) [] id, 0x90, w2 0 .none .none (.toff 4) .none, fun c => tryHead c (fun h => targetOk c.s c.who c.nextPc && h.tryf && decide (0 < c.t.nsh)
          && decide ((if h.tryres then h.livev + 1 else min c.t.nsh c.t.rg) ≤ c.t.nsh) && decide ((if h.tryres then h.livev + 1 else min c.t.nsh c.t.rg) ≤ c.t.rg)
          && !writesOut c.s c.sid)⟩]
      ++ [plain 0x91 (w1 .none .none .none), plain 0x92 (w2 0 .none (.s 8) .none .none), plain 0x95 (w2 0 .none (.s 8) .none .none)]
      ++ [⟨inTry 2 id, 0x91, w2 0 .none .none .none .none, fun c => free c && c.t.inTry && c.t.tr.isSome && decide (2 ≤ c.t.depth)⟩,
        ⟨inTry 1 twoPaths, 0x91, w2 0 .none .none .none .none, fun c => decide (c.t.q = []) && c.t.inTry && decide (c.t.depth < 2) && c.t.divided⟩,
        ⟨inTry 1 id, 0x91, w2 0 .none .none .none .none, fun c => free c && c.t.inTry && decide (c.t.depth < 2) && !c.t.divided && !tryLoadsOut c.s c.sid⟩,
        ⟨{ inTry 1 id with ott := [(entKey 0 3, some { entryOf .load (pieceOf (.read 4) (.v 90 0 0)) with inTry := true })] }, 0x91, w2 0 .none .none .none .none,
          fun c => free c && c.t.inTry && decide (c.t.depth < 2) && !c.t.divided && tryLoadsOut c.s c.sid⟩,
        ⟨inTry 1 id, 0x92, w2 0 .none (.s 8) .none .none, fun c => free c && c.t.inTry⟩, plain 0x93 (w2 0 (.s 4) .none .none .none),
        plain 0x93 (w2 1 (.s 4) .none .none .none), plain 0x94 (w2 0 (.s 4) .none .none .none),
        ⟨inTry 1 id, 0x95, w2 0 .none (.s 8) .none .none, fun c => free c && c.t.inTry⟩]) := met (by decide +kernel)

/-- A store of lanes in a region; four lanes of it more than the buffer has room for. -/
def tryStore (f : Stream → Stream) : State := inTry 1 (fun t => f (onPath (fun p => { p with em := 3 }) { t with v := [(289, 0x40)] }))
/-- Every sector of the buffer is taken. -/
def full (t : Stream) : Stream := { t with tr := t.tr.map (fun r => { r with
  buf := (List.range 256).map (fun n => ⟨0x10000 + 32 * n, 0x10000 + 32 * n, 1, some 0, [], n⟩) }) }
/-- What the clauses on a buffered store ask. -/
def buffered (kept : Bool) (c : Ctx) : Bool :=
  match checkLanes c.s c.who Acc.write 4 4 (laneVas c) with
  | .ok as => free c && c.t.inTry && decide (c.t.acq = []) && !c.ordered && as.all (fun a => regionOf a.2.2 ≠ .host)
      && (c.t.tryAccesses (as.map (fun a => (a.1, a.2.1, a.2.2, 4, some (bytesOf (c.vec c.o.d a.1).toNat 4))))).isSome = kept
  | .error _ => false
/-- A committed sector in the drain stage. -/
def drained : State := { storing with drains := [⟨0, 0, 0, 0x1000, [(0, some 7)], 0x1008, 0x1000, none, 0, false, 0, false, 0⟩] }

theorem test_meets_RegionsBufferStores :
    Met [⟨tryStore id, 0x71, w2 0 (.v 2) (.s 8) (.v 3) (.disp 0), buffered true⟩,
      ⟨mapped false (fun t => full (within 1 (onPath (fun p => { p with em := 1 }) t))), 0x71, w2 0 (.v 2) (.s 8) (.v 3) (.disp 0), buffered false⟩] :=
  met (by decide +kernel)

/-- A course in a region that has asked for an abort. -/
def aborting (a : AbortReq) : Stream := { within 1 (placedStream Lanes.all []) with abort := some a }

theorem test_meets_RegionsAbortsRestore :
    (∀ a ∈ [⟨3, 0x10, 0x1234⟩, (⟨1, 0, 0⟩ : AbortReq)], ∃ r, (aborting a).tr = some r ∧ (aborting a).abort = some a ∧ a.code ≤ 6 ∧ loadsOut course 0 = false
      ∧ r.k ≤ (aborting a).rg ∧ r.ctl.p0.isSome) ∧ (∀ d ∈ course.drains, d.sid ≠ 0) ∧
    (drained.drains.head?.map (fun d => (d.gone, (drained.stream? d.sid).map (fun t => decide (0 < t.outst)), (freeEntries drained (tblOf d.sid) 1).isSome)))
      = some (false, some true, true) :=
  ⟨fun a ha => ⟨region (placedStream Lanes.all []), rfl, rfl, by revert a; decide +kernel, by decide +kernel, show 8 ≤ 128 by decide, rfl⟩,
    by decide +kernel, by decide +kernel⟩

-- Shapes, engines and queues

/-- The word of a shape register. -/
def shapeWord (base elem rank d0 d1 t1 : Nat) : BitVec 512 :=
  BitVec.ofNat 512 (base + 2 ^ 64 * elem + 2 ^ 72 * rank + 2 ^ 128 * d0 + 2 ^ 160 * d1 + 2 ^ 256 * t1)
/-- Shape registers: a run of words, three rows of 4 words, two of them gathered, an index list, 64 KiB of bytes, and one that fits nothing. -/
def shapes (t : Stream) : Stream :=
  { t with sh := [(1, shapeWord 0x4000 0 1 4 0 0), (2, shapeWord 0x5000 0 2 4 3 16), (3, shapeWord 0x6000 0 2 4 2 16), (4, shapeWord 0x7000 5 1 2 0 0),
    (5, shapeWord 0x10000 6 1 65536 0 0), (6, shapeWord 0x20000 6 1 65536 0 0), (7, shapeWord 0 0xFF 0 0 0 0)] }
/-- A course with those shapes. -/
def shaped (f : Stream → Stream) : State := mapped false (fun t => f (shapes t))
/-- The shapes of a copy agree. -/
def copyFits (c : Ctx) : Bool := shapeOk (c.t.shAt (Ctx.fn c.o.a)) && shapeOk (c.t.shAt (Ctx.fn c.o.b))
  && decide ((shapeOf (c.t.shAt (Ctx.fn c.o.a))).count = (shapeOf (c.t.shAt (Ctx.fn c.o.b))).count)
  && decide ((shapeOf (c.t.shAt (Ctx.fn c.o.a))).w = (shapeOf (c.t.shAt (Ctx.fn c.o.b))).w)
/-- The die's queue and the barrier have room. -/
def engineRoom (c : Ctx) : Bool := decide (dieOps c.s (dieOf c.cl) < 1024) && decide (pend (c.t.cbAt (Ctx.fn c.o.d)) < 255)
/-- The shapes of a gather from b by i into a, or of a scatter of b by i into a. -/
def tableFits (table dst : Ctx → Shape) (c : Ctx) : Bool :=
  let i := shapeOf (c.t.shAt (Ctx.fn c.o.c))
  shapeOk (c.t.shAt (Ctx.fn c.o.a)) && shapeOk (c.t.shAt (Ctx.fn c.o.b)) && shapeOk (c.t.shAt (Ctx.fn c.o.c)) && decide (i.rank = 1 ∧ i.elem = 5)
    && decide ((table c).rank = 2 ∧ (dst c).count = i.d0 * (table c).d0) && engineRoom c
/-- A completion barrier with operations pending. -/
def pendingCb (n : Nat) (t : Stream) : Stream := { t with cb := [(1, BitVec.ofNat 32 n)] }
/-- Queue register 2 names v9. -/
def boundTo9 (t : Stream) : Stream := { t with q := [(2, some ⟨5, 9⟩)] }

theorem test_meets_ShapesOperationsAndQueues :
    Met ([oneCase 0x98 0 (.f 1) (.s 8) (.s 12) (.disp 0) Acc.read 64, oneCase 0x9A 0 (.f 1) (.s 8) (.s 12) (.disp 0) Acc.write 64]
      ++ ((List.range 26).filter (fun m => m ≤ 10 ∨ m = 16 ∨ 19 ≤ m)).map (fun m => plain 0x99 (w2 m (.f 1) (.s 8) .none .none))
      ++ [⟨alone false (fun t => { t with s := [(16, 65536)] }), 0x9B, w2 4 (.f 1) (.f 1) (.f 1) (.s 16), fun c => decide (65535 < (c.uni c.o.c).toNat)⟩,
        ⟨user, 0x9B, w2 2 (.f 1) (.f 1) (.f 1) .none, fun c => !c.t.sys⟩, ⟨shaped id, 0x9B, w2 0 (.f 1) (.f 1) (.f 7) .none, fun c => !copyFits c⟩,
        ⟨shaped id, 0x9B, w2 0 (.f 1) (.f 1) (.f 1) .none, fun c => copyFits c && engineRoom c⟩,
        ⟨shaped (pendingCb 255), 0x9B, w2 0 (.f 1) (.f 1) (.f 1) .none, fun c => copyFits c && decide (255 ≤ pend (c.t.cbAt 1))⟩,
        ⟨shaped (pendingCb 254), 0x9B, w2 5 (.f 1) (.f 2) (.f 2) (.s 16), fun c => copyFits c && engineRoom c && decide ((c.uni c.o.c).toNat ≤ 65535)⟩,
        ⟨shaped id, 0x9B, w2 2 (.f 1) (.f 5) (.f 6) .none, fun c => copyFits c && c.t.sys && migOk (shapeOf (c.t.shAt 5)) && migOk (shapeOf (c.t.shAt 6))⟩,
        ⟨shaped id, 0x9C, w2 0 (.f 1) (.f 3) (.f 2) (.f 4), tableFits (fun c => shapeOf (c.t.shAt 2)) (fun c => shapeOf (c.t.shAt 3))⟩,
        ⟨shaped id, 0x9C, w2 0 (.f 1) (.f 7) (.f 2) (.f 4), fun c => !shapeOk (c.t.shAt 7)⟩,
        ⟨shaped id, 0x9D, w2 0 (.f 1) (.f 2) (.f 3) (.f 4), tableFits (fun c => shapeOf (c.t.shAt 2)) (fun c => shapeOf (c.t.shAt 3))⟩,
        ⟨shaped id, 0x9D, w2 1 (.f 1) (.f 2) (.f 3) (.f 4), tableFits (fun c => shapeOf (c.t.shAt 2)) (fun c => shapeOf (c.t.shAt 3))⟩]
      ++ [⟨shaped (pendingCb 1), 0x9E, w2 0 (.f 1) .none .none .none, fun c => decide (pend (c.t.cbAt 1) ≠ 0)⟩, plain 0x9E (w1 (.f 7) .none .none),
        ⟨shaped (pendingCb 1), 0x9F, w2 0 (.s 4) (.f 1) .none .none, fun c => decide (pend (c.t.cbAt 1) ≠ 0)⟩, plain 0x9F (w2 0 (.s 4) (.f 1) .none .none),
        plain 0xA0 (w2 0 (.s 4) (.f 1) .none .none)]
      ++ [⟨alone false (fun t => { t with s := [(12, 32)] }), 0xA1, w2 0 (.f 1) (.v 9) (.s 12) .none, fun c => decide (31 < (c.uni c.o.b).toNat)⟩,
        ⟨alone false boundTo9, 0xA1, w2 0 (.f 1) (.v 9) (.s 12) .none, fun c => decide (c.t.qAt 2 = some ⟨5, 9⟩) && decide (vIndex (c.view 0) c.o.a = some 9)⟩,
        ⟨alone false (fun t => { t with s := [(12, 31)] }), 0xA1, w2 0 (.f 1) (.v 9) (.s 12) .none, fun c => decide ((c.uni c.o.b).toNat = 31) && decide (c.t.q = [])⟩,
        plain 0xA1 (w2 1 (.f 1) .none .none .none), plain 0xA2 (w2 0 (.s 4) (.f 2) .none .none),
        ⟨alone false boundTo9, 0xA2, w2 0 (.s 4) (.f 2) .none .none, fun c => decide (c.t.qAt 2 = some ⟨5, 9⟩) && decide ((hqOf c.s c.cl 5).length < 4096)⟩,
        ⟨user, 0xA3, w2 0 (.s 4) (.s 8) (.s 12) (.disp 0), fun c => free c && !c.t.sys⟩,
        ⟨paged, 0xA3, w2 1 (.s 4) (.s 8) (.s 12) (.disp 0), fun c => free c && c.t.sys && (lookup c.s 0 (c.va 0)).isOk && !blocked c.s 0 (c.va 0) 1⟩]) := met (by decide +kernel)

/-- An operation of course 0 on completion barrier 1. -/
def engineOp (kind : EngKind) (a b i : Shape) (unit : Nat) (done : Bool) : EngOp :=
  ⟨kind, 0, 0, some 0, some 0, 0x1008, Lanes.all, 1, a, b, i, ⟨0, 0, 0, 0, 0, 0, 0, 0, 0⟩, 0, none, unit, 0, 0, 0, false, done, false, false, 0, [], false,
    none, 0, 0, [], none, 0, 0, 16777216⟩
/-- The machine with that operation, and the indexes 1 and 9 in the list at 0x7000. -/
def engined (kind : EngKind) (a b i : Shape) (unit : Nat) (done : Bool) : State :=
  { shaped (pendingCb 1) with eops := [(0, some (engineOp kind a b i unit done))], neop := 1, mem := [(0x7000, 1), (0x7004, 9)] ++ table }
/-- A shape of those. -/
def shapeAt (n : Nat) : Shape := shapeOf ((shapes (placedStream 0 [])).shAt n)
/-- The operation, a part of its row moved. -/
def midRow (s : State) (f : EngOp → EngOp) : State := { s with eops := s.eops.map (fun e => (e.1, e.2.map f)) }
/-- The operation is there, its partition is quiet, and it may go on. -/
def engineReady (s : State) (P : EngOp → Bool) : Bool :=
  match s.eop? 0 with
  | some x => decide ((s.part x.part).blocks = [] ∧ s.gated = [] ∧ (s.part x.part).migring = 0 ∧ s.ue = []) && !x.stopped && !x.cut && islandUp s (16 + x.die) && P x
  | none => false
/-- Its course is there, and its barrier counts it. -/
def backed (s : State) (x : EngOp) : Bool := x.ring.isNone && decide (x.sid = some 0)
  && (s.stream? 0).any (fun t => decide (x.team = some t.team ∧ t.live ≠ 0 ∧ pend (t.cbAt x.cb) ≠ 0) && !t.ended)
/-- What is left of its row, and the bytes of its next move (R265, R267). -/
def restOf (x : EngOp) : Nat := x.a.d0 - x.off
def lenOf (x : EngOp) : Nat := min (restOf x) (x.pitch - x.moved % x.pitch) * x.a.w
/-- The bytes of its next move lie together at their places. -/
def moves (x : EngOp) (places : List (Nat × Nat)) (data : List Byte) : Bool :=
  decide (((takeRuns places (lenOf x)).map (fun r => r.2)) = [lenOf x] ∧ (data.take (lenOf x)).length = lenOf x ∧ 0 < lenOf x)
/-- A check of runs fails, or does not. -/
def faulty (b : Bool) (s : State) (x : EngOp) (acc : Acc) (rs : List (Nat × Nat)) : Bool := (runsFault s (x.who s) acc rs).isSome == b
/-- The box of the row, its destination, its index and the table row it names. -/
def boxRow (x : EngOp) : List (Nat × Nat) := x.b.segs (restOf x + 1) (x.unit * x.a.d0 + x.off) (restOf x)
def dstRow (x : EngOp) : List (Nat × Nat) := [(x.a.rowAt x.unit + x.off * x.a.w, restOf x * x.a.w)]
def indexRun (x : EngOp) : List (Nat × Nat) := [(x.c.elemAt x.unit, 4)]
def indexAt (s : State) (x : EngOp) : Nat := ofBytes (readVa s (x.who s) Acc.read (x.c.elemAt x.unit) 4)
def tableRow (s : State) (x : EngOp) : List (Nat × Nat) := [((x.a.base + indexAt s x * x.a.t1 + x.off * x.a.w) % 2 ^ 64, restOf x * x.a.w)]
/-- The runs of a list at their physical places. -/
def placesOf (s : State) (x : EngOp) (acc : Acc) (rs : List (Nat × Nat)) : List (Nat × Nat) := rs.flatMap (fun r => runs s (x.who s) acc r.1 r.2)
/-- A copy of rows of four words to a shape: of row 2 of three, or with a part of a row under way. -/
def copying (mode : Nat) (res : Option Nat) (base src : Nat) (m : Option Moving) : State :=
  let s := engined (.copy mode res) { shapeAt 2 with base := base } { shapeAt 2 with base := src } (shapeAt 4) 2 false
  { s with eops := s.eops.map (fun e => (e.1, e.2.map (fun x => { x with moving := m }))) }
/-- A gather or scatter of two rows of four words between a table at base and a box at box, by the indexes at list. -/
def indexed (kind : EngKind) (base box list unit : Nat) (m : Option Moving) : State :=
  let s := engined kind { shapeAt 2 with base := base, elem := if kind = .scatter true then 5 else 0 } { shapeAt 3 with base := box } { shapeAt 4 with base := list } unit false
  { s with eops := s.eops.map (fun e => (e.1, e.2.map (fun x => { x with moving := m }))) }
/-- Three words of a row that are still to be moved. -/
def underWay : Moving := ⟨[(0x5024, 12)], List.replicate 12 7, []⟩
/-- A place that no page maps, and one in SCM. -/
def nowhere : Nat := 0x140000000
def inScmVa : Nat := 0x40000000

theorem test_meets_EnginesMoveOneUnitAtATime :
    ([EngKind.gather, .scatter true, .copy 0 none, .copy 0 (some 7)].all (fun k => let s := engined k (shapeAt 2) (shapeAt 3) (shapeAt 4) 2 true
      engineReady s (fun x => x.done && decide (x.pleft = 0) && backed s x))) = true ∧
    (let s := copying 0 none 0x5000 0x5000 none
     engineReady s (fun x => x.moving.isNone && faulty false s x Acc.write (dstRow x) && faulty false s x Acc.read (boxRow x)
       && moves x (placesOf s x Acc.write (dstRow x)) (readRuns s (x.who s) Acc.read (boxRow x)))) = true ∧
    (let s := copying 0 none nowhere 0x5000 none
     engineReady s (fun x => backed s x && faulty true s x Acc.write (dstRow x))) = true ∧
    (let s := copying 0 none 0x5000 nowhere none
     engineReady s (fun x => backed s x && faulty false s x Acc.write (dstRow x) && faulty true s x Acc.read (boxRow x))) = true ∧
    (let s := copying 0 (some 7) 0x5000 0x5000 none
     engineReady s (fun x => backed s x && faulty false s x Acc.write (dstRow x) && (dstRow x).all (fun r => (outsideCistern s (x.who s) Acc.write r).isSome))) = true ∧
    (let s := copying 0 (some 7) 0x180000000 0x5000 none
     engineReady s (fun x => faulty false s x Acc.write (dstRow x) && (dstRow x).all (fun r => (outsideCistern s (x.who s) Acc.write r).isNone)
       && moves x (placesOf s x Acc.write (dstRow x)) (readRuns s (x.who s) Acc.read (boxRow x)))) = true ∧
    (let s := copying 1 none inScmVa 0x5000 none
     engineReady s (fun x => faulty false s x Acc.persist (dstRow x) && faulty false s x Acc.read (boxRow x) && decide (x.sid = some 0 ∧ freeEntries s (tblOf 0) 1 ≠ none)
       && moves x (placesOf s x Acc.persist (dstRow x)) (readRuns s (x.who s) Acc.read (boxRow x)))) = true ∧
    (let s := copying 1 none 0x5000 0x5000 none
     engineReady s (fun x => backed s x && faulty true s x Acc.persist (dstRow x))) = true ∧
    (badFrame (4 * 2 ^ 40) 65536).isSome = true ∧ (badFrame 0x100000 65536).isNone = true ∧
    ([(0x100000, false), (2 ^ 40, true)].all (fun e => let s := copying 2 none e.1 0x5000 none
      engineReady s (fun x => faulty false s x Acc.read (boxRow x) && decide (regionOf x.a.base = .scm) == e.2
        && moves x [(x.a.base + x.off * x.a.w, restOf x * x.a.w)] (readRuns s (x.who s) Acc.read (boxRow x))))) = true ∧
    ([(0, false), (1, true)].all (fun e => let s := midRow (copying e.1 none 0x5000 0x5000 (some underWay)) (fun x => { x with off := 1, moved := 9 })
      engineReady s (fun x => x.moving.any (fun m => moves x m.runs m.data) && x.persists == e.2))) = true := by decide +kernel

theorem test_meets_GathersAndScattersMoveOneUnit :
    (let s := indexed .gather 0x5000 0x6000 0x7000 0 none
     engineReady s (fun x => decide (indexAt s x < x.a.d1) && faulty false s x Acc.read (indexRun x) && faulty false s x Acc.write (boxRow x)
       && faulty false s x Acc.read (tableRow s x) && moves x (placesOf s x Acc.write (boxRow x)) (readRuns s (x.who s) Acc.read (tableRow s x)))) = true ∧
    (let s := indexed .gather 0x5000 0x6000 0x7000 1 none
     engineReady s (fun x => decide (x.a.d1 ≤ indexAt s x) && faulty false s x Acc.read (indexRun x) && faulty false s x Acc.write (boxRow x)
       && moves x (placesOf s x Acc.write (boxRow x)) (List.replicate 16 0))) = true ∧
    (let s := indexed .gather nowhere 0x6000 0x7000 0 none
     engineReady s (fun x => backed s x && decide (indexAt s x < x.a.d1) && faulty true s x Acc.read (tableRow s x))) = true ∧
    ([(0x6000, nowhere), (nowhere, 0x7000)].all (fun e => let s := indexed .gather 0x5000 e.1 e.2 0 none
      engineReady s (fun x => backed s x
        && (lowerAddr (runsFault s (x.who s) Acc.read (indexRun x)) (runsFault s (x.who s) Acc.write (boxRow x))).isSome))) = true ∧
    (let s := midRow (indexed .gather 0x5000 0x6000 0x7000 0 (some underWay)) (fun x => { x with off := 1, idx := 1, moved := 1 })
     engineReady s (fun x => x.moving.any (fun m => moves x m.runs m.data))) = true ∧
    ([(false, Acc.write), (true, Acc.atomic true)].all (fun e => let s := indexed (.scatter e.1) 0x5000 0x6000 0x7000 0 none
      engineReady s (fun x => decide (indexAt s x < x.a.d1 ∧ x.a.w = 4 ∧ x.a.elem = if e.1 then 5 else 0) && faulty false s x Acc.read (indexRun x ++ boxRow x)
        && faulty false s x e.2 (tableRow s x) && moves x (placesOf s x e.2 (tableRow s x)) (readRuns s (x.who s) Acc.read (boxRow x)))
      && (let s := indexed (.scatter e.1) nowhere 0x6000 0x7000 0 none
          engineReady s (fun x => backed s x && faulty false s x Acc.read (indexRun x ++ boxRow x) && faulty true s x e.2 (tableRow s x)))
      && (let s := indexed (.scatter e.1) 0x5000 nowhere 0x7000 0 none
          engineReady s (fun x => backed s x && faulty true s x Acc.read (indexRun x ++ boxRow x)))
      && (let s := indexed (.scatter e.1) 0x5000 0x6000 0x7000 1 none
          engineReady s (fun x => decide (x.a.d1 ≤ indexAt s x) && faulty false s x Acc.read (indexRun x ++ boxRow x)))
      && (let s := midRow (indexed (.scatter e.1) 0x5000 0x6000 0x7000 0 (some underWay)) (fun x => { x with off := 1, idx := 1, moved := 1 })
          engineReady s (fun x => x.moving.any (fun m => moves x m.runs m.data))))) = true := by decide +kernel

-- Tiles, the array and streams

/-- A tile control word. -/
def tcWord (fmt rows cols : Nat) : Word := BitVec.ofNat 32 (2 ^ 28 * fmt + 2 ^ 20 * rows + cols)
/-- Shape registers for tiles: 16 words, a page more than memory holds, 2 bytes, 8 KiB of words. -/
def tileShapes (t : Stream) : Stream :=
  { t with s := [(8, 16), (16, 0x8000)], sh := [(1, shapeWord 0x4000 0 1 16 0 0), (2, shapeWord 0x140000000 0 1 16 0 0), (3, shapeWord 0x4000 6 1 2 0 0),
    (4, shapeWord 0x4000 0 1 8193 0 0), (5, shapeWord 0x4000 0 1 8192 0 0)] }
/-- Tile control words: FP32 of 4 by 4 in t1 and t2, BF16 in t3 and t4, of one shape MXFP4-like in t5, none in t0. -/
def tcs : Tab Word := [(1, tcWord 0 4 4), (2, tcWord 0 4 4), (3, tcWord 1 4 4), (4, tcWord 1 4 4), (5, tcWord 10 1 32)]
/-- The format block of BF16 inputs and an FP32 result; a chain of it. -/
def fblock : List Host.Cell := [(0x8000, 1), (0x8001, 1)]
def chainOf (fmt : Byte) : Chain := ⟨true, [fmt, fmt] ++ List.replicate 30 0, 4, 4⟩
/-- A sequencer whose cluster is as f makes it. -/
def tiled (f : Cluster → Cluster) : State :=
  let s := mapped true tileShapes
  { s.setCluster 0 (f { s.cluster 0 with tc := tcs }) with mem := fblock ++ table }
/-- A cluster's tile-port operations and commands, given ones. -/
def portFull (n : Nat) (c : Cluster) : Cluster := { c with port := List.replicate n ⟨0, .zero 7, 0⟩ }
def queueFull (n : Nat) (c : Cluster) : Cluster := { c with cq := List.replicate n ⟨.szero, 0, 0, 0, false, 0, [], []⟩ }
/-- A slot on its way to t1. -/
def arriving (c : Cluster) : Cluster := { c with port := [⟨0, .ssub 1 0 0, 0⟩] }
/-- The spline mode, an open chain in accumulator 1, a result on RQ. -/
def splineMode (c : Cluster) : Cluster := { c with mode := true }
def chained (fmt : Byte) (c : Cluster) : Cluster := { c with chains := [(1, chainOf fmt)] }
def results (c : Cluster) : Cluster := { c with rq := [7] }
/-- No slot is on its way to the tiles. -/
def noSlot (ns : List Nat) (c : Ctx) : Bool := c.clu.port.all (fun x => ns.all (fun n => match x.op with
  | .ssub m _ _ => m ≠ n
  | _ => true))
/-- A sequencer's instruction. -/
def tileCase (f : Cluster → Cluster) (op mod : Nat) (d a b c : Opnd) (P : Ctx → Bool) : Case := ⟨tiled f, op, w2 mod d a b c, P⟩
/-- The tile's control word is legal, or is not. -/
def tcOk (n : Nat) (b : Bool) (c : Ctx) : Bool := (tcOf (c.clu.tcAt n)).isSome == b
/-- The box is of the size given and passes its checks, or does not. -/
def boxOk (acc : Acc) (size : Nat) (b : Bool) (c : Ctx) : Bool :=
  let w := c.t.shAt (Ctx.fn c.o.a)
  shapeOk w && decide ((shapeOf w).count * (shapeOf w).w = size) && (boxFault c.s c.who acc 1 (shapeOf w).box).isNone == b
/-- The format block that MMA reads is legal for BF16, and the chain is one of it, or is not. -/
def mmaOk (legal same : Bool) (c : Ctx) : Bool := match readAtIssue c (c.pair (Ctx.sn c.o.c)).toNat 64 64 with
  | .ok fb => !c.clu.mode && tcOk 3 true c && tcOk 4 true c && decide (leAt fb 0 1 = 1 ∧ leAt fb 1 1 = 1 ∧ leAt fb 2 1 = 0 ∧ leAt fb 3 1 = 0) == legal
      && decide ((c.clu.chain (Ctx.fn c.o.d)).opened = true ∧ (c.clu.chain (Ctx.fn c.o.d)).key = fb.take 32) == same && decide ((c.s.part 0).migring = 0)
  | .error _ => false
/-- DRAIN finds an open chain and may read its scales. -/
def drainOk (c : Ctx) : Bool := !c.clu.mode && (c.clu.chain 1).opened && (boxFault c.s c.who Acc.read 4 (scaleRuns (c.clu.chain 1))).isNone
  && decide (c.clu.cq.length < 32)

theorem test_meets_TileAndArrayInstructionsAtIssue :
    Met ([tileCase id 0xA8 0 (.f 1) (.s 8) .none .none (noSlot [1]), tileCase arriving 0xA8 0 (.f 1) (.s 8) .none .none (fun c => !noSlot [1] c),
        tileCase id 0xA9 0 (.s 4) (.f 1) .none .none (noSlot [1])]
      ++ [(0xAA, Opnd.none), (0xAB, .s 8), (0xAE, .f 2)].flatMap (fun e => [tileCase (portFull 15) e.1 0 (.f 1) e.2 .none .none (fun c => decide (c.clu.port.length < 16)),
        tileCase (portFull 16) e.1 0 (.f 1) e.2 .none .none (fun c => decide (16 ≤ c.clu.port.length))])
      ++ [tileCase id 0xAF 0 (.f 1) (.f 2) .none .none (fun c => tcOk 1 true c && tcOk 2 true c && noSlot [1, 2] c),
        tileCase id 0xAF 0 (.f 1) (.f 3) .none .none (noSlot [1, 3]), tileCase id 0xAC 0 (.f 0) (.f 1) .none .none (fun c => tcOk 0 false c && noSlot [0] c),
        tileCase id 0xAC 1 (.f 1) (.f 1) .none .none (tcOk 1 true), tileCase id 0xAC 0 (.f 1) (.f 1) .none .none (fun c => tcOk 1 true c && boxOk Acc.read 64 true c),
        tileCase id 0xAC 0 (.f 1) (.f 2) .none .none (fun c => tcOk 1 true c && boxOk Acc.read 64 false c),
        tileCase id 0xAC 0 (.f 1) (.f 7) .none .none (fun c => tcOk 1 true c && !shapeOk (c.t.shAt 7)),
        tileCase id 0xAC 1 (.f 5) (.f 3) .none .none (fun c => tcOk 5 true c && boxOk Acc.read 2 true c),
        tileCase id 0xAC 2 (.f 1) (.s 8) .none .none (fun c => tcOk 1 true c && decide ((c.uni c.o.a).toNat = 16)),
        tileCase id 0xAC 3 (.f 5) (.s 0) .none .none (fun c => tcOk 5 true c && decide ((c.uni c.o.a).toNat = 0)),
        tileCase id 0xAD 0 (.f 0) (.f 1) .none .none (tcOk 0 false), tileCase id 0xAD 0 (.f 1) (.f 1) .none .none (fun c => tcOk 1 true c && boxOk Acc.write 64 true c),
        tileCase id 0xAD 1 (.f 5) (.f 3) .none .none (fun c => tcOk 5 true c && boxOk Acc.write 2 true c), tileCase id 0xAD 1 (.f 1) (.f 3) .none .none (tcOk 1 true)]
      ++ [tileCase splineMode 0xB0 0 (.f 1) (.f 3) (.f 4) (.s 16) (fun c => c.clu.mode), tileCase id 0xB0 0 (.f 1) (.f 0) (.f 4) (.s 16) (fun c => tcOk 0 false c && !c.clu.mode),
        tileCase id 0xB0 0 (.f 1) (.f 3) (.f 4) (.s 16) (fun c => noSlot [3, 4] c && mmaOk true false c && !(c.clu.chain 1).opened),
        tileCase (chained 1) 0xB0 0 (.f 1) (.f 3) (.f 4) (.s 16) (mmaOk true true), tileCase (chained 2) 0xB0 0 (.f 1) (.f 3) (.f 4) (.s 16) (mmaOk true false),
        tileCase id 0xB0 1 (.f 1) (.f 3) (.f 4) (.s 16) (mmaOk true false), tileCase id 0xB0 0 (.f 1) (.f 3) (.f 4) (.s 20) (mmaOk false false)]
      ++ [tileCase splineMode 0xB1 0 (.f 1) (.f 1) .none .none (fun c => c.clu.mode), tileCase id 0xB1 0 (.f 1) (.f 1) .none .none (fun c => !(c.clu.chain 1).opened),
        tileCase (chained 1) 0xB1 0 (.f 3) (.f 1) .none .none (fun c => drainOk c && noSlot [3] c && decide (tcOf (c.clu.tcAt 3) ≠ some ⟨0, 4, 4⟩)),
        tileCase (chained 1) 0xB1 4 (.f 1) (.f 1) .none .none (fun c => drainOk c && noSlot [1] c && decide (tcOf (c.clu.tcAt 1) = some ⟨0, 4, 4⟩)),
        tileCase (chained 1) 0xB1 3 (.s 8) (.f 1) .none .none (fun c => drainOk c && decide ((c.uni c.o.d).toNat = 16)),
        tileCase (chained 1) 0xB1 1 (.s 0) (.f 1) .none .none (fun c => drainOk c && decide ((c.uni c.o.d).toNat < 16))]
      ++ [tileCase splineMode 0xB2 0 (.f 1) .none .none .none (fun c => c.clu.mode), tileCase (queueFull 31) 0xB2 0 (.f 1) .none .none .none (fun c => decide (c.clu.cq.length = 31)),
        tileCase (queueFull 32) 0xB2 1 .none .none .none .none (fun c => decide (32 ≤ c.clu.cq.length)), tileCase id 0xB4 0 .none .none .none .none (fun c => decide (c.clu.cq.length < 32)),
        tileCase id 0xB4 1 .none .none .none .none (fun c => decide (c.clu.cq.length < 32)), tileCase id 0xB5 0 .none .none .none .none (fun c => decide (c.clu.cq = [] ∧ c.clu.port = []) && !pubOut c.s c.sid),
        ⟨{ tiled id with strm := [(3, ⟨0, 0, [], [], some ⟨seqBase, 0, 0, 0, none, none⟩⟩)] }, 0xB5, w2 0 .none .none .none .none, fun c => pubOut c.s c.sid⟩,
        tileCase arriving 0xB5 0 .none .none .none .none (fun c => decide (c.clu.port ≠ [])), tileCase results 0xB3 0 (.s 4) .none .none .none (fun c => decide (c.clu.rq = [7])),
        tileCase id 0xB3 0 (.s 4) .none .none .none (fun c => decide (c.clu.rq = [] ∧ c.clu.cq = []))]) ∧
    [tcWord 0 1 1, tcWord 11 128 224, tcWord 3 128 256].all (fun w => (tcOf w).isSome) = true ∧
    [tcWord 0 0 1, tcWord 0 129 1, tcWord 4 1 1, tcWord 10 1 33].all (fun w => (tcOf w).isNone) = true :=
  ⟨met (by decide +kernel), by decide +kernel, by decide +kernel⟩

/-- A stream table entry of partition 0 with two slots. -/
def strmOf (wi : Nat) (subs : List Sub) (p : Option Pub) : StrmEnt := ⟨BitVec.ofNat 64 (2 ^ 63 + 2 ^ 52), wi, [], subs, p⟩
/-- A subscription of the cluster with a window of two slots. -/
def sub0 (ri : Nat) : Sub := ⟨0, ri, 2, none, none, 0, 0⟩
/-- A stream of the unit with stream 3's entry, its number in s8 and a count in s12. -/
def streaming (seq : Bool) (n : Nat) (e : StrmEnt) : State :=
  let s := mapped seq (fun t => { tileShapes t with s := [(8, 3), (12, BitVec.ofNat 32 n)] })
  { s.setCluster 0 { s.cluster 0 with tc := tcs } with strm := [(3, e)] }
/-- The stream may be used, and has room. -/
def usable (c : Ctx) : Bool := (c.s.strmEnt 3).reg.getLsbD 63 && decide (bits (c.s.strmEnt 3).reg.toNat 37 3 = c.t.part)
def slotFree (c : Ctx) : Bool := (slotsHeld c.s 3).all (fun n => decide ((c.s.strmEnt 3).wi - n < (c.s.strmEnt 3).nslot)) && (c.s.strmEnt 3).pending.isNone && (c.s.strmEnt 3).subs.all (fun x => decide ((c.s.strmEnt 3).wi - x.ri < (c.s.strmEnt 3).nslot))
/-- A subscription of the given window may be opened. -/
def mayOpen (w : Nat) (c : Ctx) : Bool := usable c && (c.s.strmEnt 3).subs.all (fun x => x.cluster ≠ c.cl) && decide (subsOf c.s c.cl < 4)
  && decide ((c.uni c.o.b).toNat = w) && decide (1 ≤ w ∧ w ≤ (c.s.strmEnt 3).nslot)
/-- The cluster's subscription is there, or is not. -/
def subbed (b : Bool) (c : Ctx) : Bool := usable c && ((c.s.strmEnt 3).sub? c.cl).isSome == b

theorem test_meets_StreamInstructionsAtIssue :
    Met ([⟨tiled id, 0xB6, w2 0 (.s 8) (.f 1) .none .none, fun c => !(c.s.strmEnt 16).reg.getLsbD 63⟩,
        ⟨streaming true 0 (strmOf 0 [] none), 0xB6, w2 0 (.s 8) (.f 0) .none .none, fun c => usable c && tcOk 0 false c⟩,
        ⟨streaming true 0 (strmOf 0 [] none), 0xB6, w2 0 (.s 8) (.f 1) .none .none, fun c => usable c && slotFree c && tcOk 1 true c && noSlot [1] c⟩,
        ⟨streaming true 0 (strmOf 2 [sub0 0] none), 0xB6, w2 0 (.s 8) (.f 1) .none .none, fun c => usable c && !slotFree c && tcOk 1 true c && noSlot [1] c⟩,
        (let s := streaming true 0 (strmOf 2 [] none)
         ⟨s.setCluster 0 { s.cluster 0 with port := [⟨0, .ssub 2 3 0, 0⟩] }, 0xB6, w2 0 (.s 8) (.f 1) .none .none,
           fun c => usable c && !slotFree c && tcOk 1 true c && noSlot [1] c⟩),
        ⟨streaming false 0 (strmOf 0 [] none), 0xB6, w2 0 (.s 8) (.f 1) .none (.s 16), fun c => usable c && slotFree c && boxOk Acc.read 64 true c⟩,
        ⟨streaming false 0 (strmOf 0 [] none), 0xB6, w2 0 (.s 8) (.f 4) .none (.s 16), fun c => usable c && decide (32768 < (shapeOf (c.t.shAt 4)).count * 4)⟩,
        ⟨streaming false 0 (strmOf 2 [sub0 0] none), 0xB6, w2 0 (.s 8) (.f 5) .none (.s 16), fun c => usable c && !slotFree c && boxOk Acc.read 32768 true c⟩]
      ++ [(0xB7, 0, Opnd.f 1), (0xB7, 1, .none), (0xB7, 3, .f 1), (0xB8, 0, .none)].map (fun e => (⟨tiled id, e.1, w2 e.2.1 e.2.2 (.s 8) (.s 12) .none,
        fun c => !(c.s.strmEnt 16).reg.getLsbD 63⟩ : Case))
      ++ [⟨streaming true 1 (strmOf 2 [] none), 0xB7, w2 0 (.f 1) (.s 8) (.s 12) .none, subbed false⟩, ⟨streaming true 1 (strmOf 2 [] none), 0xB7, w2 2 .none (.s 8) .none .none, subbed false⟩,
        ⟨streaming true 2 (strmOf 2 [sub0 0] none), 0xB7, w2 0 (.f 1) (.s 8) (.s 12) .none, fun c => subbed true c && decide (2 ≤ (c.uni c.o.b).toNat)⟩,
        ⟨streaming true 1 (strmOf 1 [sub0 0] none), 0xB7, w2 0 (.f 1) (.s 8) (.s 12) .none, fun c => subbed true c && decide ((c.uni c.o.b).toNat = 1)⟩,
        ⟨streaming true 1 (strmOf 2 [sub0 0] none), 0xB7, w2 0 (.f 1) (.s 8) (.s 12) .none, fun c => subbed true c && noSlot [1] c⟩,
        ⟨streaming true 1 (strmOf 2 [sub0 0] none), 0xB7, w2 2 .none (.s 8) .none .none, subbed true⟩,
        ⟨streaming true 0 (strmOf 2 [] none), 0xB7, w2 1 .none (.s 8) (.s 12) .none, fun c => usable c && decide ((c.uni c.o.b).toNat = 0)⟩,
        ⟨streaming true 2 (strmOf 2 [] none), 0xB7, w2 1 .none (.s 8) (.s 12) .none, mayOpen 2⟩,
        ⟨streaming true 1 (strmOf 2 [] none), 0xB7, w2 3 (.f 5) (.s 8) (.s 12) .none, fun c => mayOpen 1 c && shapeOk (c.t.shAt 5)⟩,
        ⟨streaming true 1 (strmOf 2 [] none), 0xB7, w2 3 (.f 7) (.s 8) (.s 12) .none, fun c => mayOpen 1 c && !shapeOk (c.t.shAt 7)⟩]
      ++ [⟨streaming true 0 (strmOf 2 [sub0 0] none), 0xB8, w2 0 .none (.s 8) (.s 12) .none, fun c => usable c && decide ((c.uni c.o.b).toNat = 0)⟩,
        ⟨streaming false 2 (strmOf 2 [sub0 0] none), 0xB8, w2 0 .none (.s 8) (.s 12) .none, fun c => subbed true c && decide ((c.uni c.o.b).toNat = 2)⟩,
        ⟨streaming false 3 (strmOf 2 [sub0 0] none), 0xB8, w2 0 .none (.s 8) (.s 12) .none, fun c => subbed true c && decide (2 < (c.uni c.o.b).toNat)⟩,
        ⟨streaming false 0 (strmOf 2 [sub0 0] none), 0xB9, w2 0 (.s 4) (.s 8) .none .none, subbed true⟩, ⟨streaming true 0 (strmOf 2 [] none), 0xB9, w2 0 (.s 4) (.s 8) .none .none, subbed false⟩]) :=
  met (by decide +kernel)

/-- That machine with partition 0 owning the cluster, 16 clocks later. -/
def running (s : State) : State := { s.setPart 0 { s.part 0 with quads := 1 } with clock := 16 }
/-- Its sequencer runs and its partition is quiet. -/
def unitReady (s : State) : Bool := decide ((s.stream? seqBase).map (fun t => t.ended) = some false ∧ ownerOf s 0 = some 0 ∧ (s.part 0).blocks = []
  ∧ (s.part 0).migring = 0 ∧ s.ue = [] ∧ (s.cluster 0).cue = [] ∧ (s.part 0).pre = 0)
/-- The cluster's port holds one operation. -/
def ported (op : TileOp) (f : Cluster → Cluster) : State := running (tiled (fun c => f { c with port := [⟨0, op, 0⟩] }))
/-- That operation may act. -/
def portReady (s : State) (P : TileOp → Bool) : Bool := unitReady s && match (s.cluster 0).port with
  | [x] => (s.cluster 0).clear x.stamp x.op.reads x.op.writes && P x.op
  | _ => false
/-- A box of 16 words at 0x4000, its pages. -/
def box16 : Shape := shapeOf (shapeWord 0x4000 0 1 16 0 0)
def pages16 : Pages := [(4, 4)]
/-- A queue entry that is full. -/
def entry96 : QEnt := ⟨0, 0, List.replicate 96 5, false⟩
/-- Stream 3 with slots, subscriptions and a publisher. -/
def published (p : Option Pub) (subs : List Sub) : State := running (streaming true 0 (strmOf 1 subs p))

theorem test_meets_TilePortAndStreamsMoveWholeTiles :
    (portReady (ported (.zero 15) id) (fun _ => true) && portReady (ported (.fill 1 7) id) (fun _ => true) && portReady (ported (.mov 1 2) id) (fun _ => true)
      && portReady (ported (.xpose 1 2 (tcWord 0 4 8)) id) (fun _ => (tcOf (tcWord 0 4 8)).isSome)) = true ∧
    portReady (ported (.load 1 box16 32704 pages16) id) (fun _ => decide (32704 + (spasIn pages16 box16.box).length ≤ 32768)) = true ∧
    portReady (ported (.store 1 box16 0 pages16) id) (fun _ => decide ((spasIn pages16 box16.box).length = box16.bytes ∧ (spasIn pages16 box16.box).Nodup)) = true ∧
    portReady (ported (.loadq 1 5 0 384 0) (fun c => { c with hq := [(5, [entry96])] }))
      (fun _ => decide (hqOf (ported (.loadq 1 5 0 384 0) (fun c => { c with hq := [(5, [entry96])] })) 0 5 = [entry96])) = true ∧
    portReady (ported (.loadq 1 5 0 384 0) id) (fun _ => true) = true ∧ portReady (ported (.ssub 1 3 0) id) (fun _ => true) = true ∧
    (let s := ported (.zero 1) (queueFull 1)
     (s.cluster 0).port.find? (fun y => y.stamp = 9) = none) ∧
    (let s := running (tiled (fun c => { c with cq := [⟨.accz 0 true, 0, 0, 0, false, 0, [], []⟩, ⟨.mma 0 1 2 4 4 4 1 false 0, 0, 0, 0, false, 0, [], []⟩], port := [⟨1, .zero 1, 0⟩] }))
     (s.cluster 0).clear 1 (TileOp.zero 1).reads (TileOp.zero 1).writes = false) ∧
    (unitReady (published (some ⟨seqBase, 0, 0, tcWord 0 4 4, none, some [1, 2]⟩) []) && unitReady (published (some ⟨0, 0, 0, 7, some (box16, pages16), none⟩) [])
      && decide ((spasIn pages16 box16.box).length ≤ 32768)) = true ∧
    (let s := published none [⟨0, 0, 2, some (box16, 0), none, 0, 0⟩]
     unitReady s && decide (((s.strmEnt 3).sub? 0).map (fun b => decide (b.ri < (s.strmEnt 3).wi)) = some true ∧ (s.part 0).halted = false ∧ (s.part 0).pre = 0
       ∧ (s.team? 0).isSome = true ∧ box16.box = [(0x4000, box16.bytes)]) && (access s ⟨0, 0, 0, 0⟩ Acc.write 0x4000 box16.bytes 1).isOk) = true := by
  decide +kernel

/-- The command at the head of the array's queue. -/
def headed (cmd : Cmd) (f : CmdSt → CmdSt) (g : Cluster → Cluster) : State := running (tiled (fun c => g { c with cq := [f ⟨cmd, 0, 0, 0, false, 0, [], []⟩] }))
/-- The array may execute it now, or may not yet. -/
def headReady (s : State) : Bool := unitReady s && (arrayHead s 0).isSome
/-- A DRAIN of accumulator 1 to t1 and one to queue 16. -/
def drain1 (tile h : Option Nat) : Cmd := .drain 1 tile h 0 false true 4 4 0 0 0 [] 0

theorem test_meets_ArrayExecutesItsQueueInOrder :
    (headReady (headed (.mma 15 3 4 4 128 8 1 false 0) id id) && headReady (headed (.mma 0 5 6 1 1 32 10 true 0) id id) && headReady (headed (drain1 (some 1) none) id id)
      && headReady (headed (drain1 none (some 16)) (fun x => { x with begun := true, qpush := [[1], [2]] }) id)
      && headReady (headed (drain1 none (some 16)) (fun x => { x with begun := true, qpush := [[1], [2]] }) (fun c => { c with hq := [(16, List.replicate 4 entry96)] }))
      && headReady (headed (.accz 1 false) id id) && headReady (headed (.accz 0 true) id id) && headReady (headed (.amode true) id id)) = true ∧
    unitReady { headed (.amode true) id id with clock := 15 } = true ∧ unitReady (headed (.amode true) id (fun c => { c with stopped := true })) = true := by
  decide +kernel

/-- Knot 1 fits; its degree is 3 over 4 intervals of 1 from 0. -/
def knot1 : Knot := ⟨0, 0x3F800000, 0x3F800000, 4⟩
/-- The spline mode with knot 1 in every row, and shapes for coefficients and their gradients. -/
def splined (k : Knot) (f : Cluster → Cluster) : State :=
  let s := mapped true (fun t => { tileShapes t with
    s := [(12, 0x3F800000), (16, 4)],
    sh := [(1, BitVec.ofNat 512 (0x4000 + 2 ^ 64 * 2 + 2 ^ 72 * 3 + 2 ^ 128 * 32 + 2 ^ 160 * 4 + 2 ^ 192 * 4 + 2 ^ 256 * 64 + 2 ^ 288 * 256)),
      (2, BitVec.ofNat 512 (0x4000 + 2 ^ 64 * 5 + 2 ^ 72 * 3 + 2 ^ 128 * 32 + 2 ^ 160 * 4 + 2 ^ 192 * 4 + 2 ^ 256 * 128 + 2 ^ 288 * 512))] })
  { s.setCluster 0 (f { s.cluster 0 with mode := true, amode := true, tc := tcs, k := [(0, k)] }) with mem := table }
/-- An instruction of that sequencer. -/
def splineCase (k : Knot) (op mod : Nat) (d a b c : Opnd) (P : Ctx → Bool) : Case := ⟨splined k id, op, w2 mod d a b c, P⟩
/-- The knots of a row fit. -/
def knotOk (c : Ctx) : Bool := c.clu.mode && decide ((c.clu.knot (Tab.get 0 c.clu.rmap 0)).g ≠ 0)

theorem test_meets_SplineInstructionsAtIssue :
    Met ([splineCase knot1 0xC0 0 (.f 1) (.s 8) (.s 12) (.s 16) (fun c => decide (c.srcF f32 c.o.b 0 = 0x3F800000 ∧ bits (c.uni c.o.c).toNat 0 5 = 4 ∧ (c.uni c.o.c).toNat / 32 = 0)
          && (f32.num false (c.srcF f32 c.o.a 0)).isFin),
        splineCase knot1 0xC0 0 (.f 1) (.s 8) (.s 8) (.s 16) (fun c => decide (c.srcF f32 c.o.b 0 < 2 ^ 23)),
        splineCase knot1 0xC0 1 (.f 1) (.s 8) (.s 16) .none (fun c => decide (1 ≤ (c.uni c.o.b).toNat ∧ (c.uni c.o.a).toNat + (c.uni c.o.b).toNat ≤ 128)),
        splineCase knot1 0xC0 1 (.f 1) (.s 8) (.s 8) .none (fun c => decide ((c.uni c.o.b).toNat = 0)),
        splineCase knot1 0xC0 1 (.f 1) (.s 16) (.s 12) .none (fun c => decide (128 < (c.uni c.o.a).toNat + (c.uni c.o.b).toNat))]
      ++ (List.range 4).map (fun m => splineCase knot1 0xC1 m (.s 4) (.f 1) .none .none (fun _ => true))
      ++ [(0xC2, Opnd.none, Opnd.f 1, Opnd.none), (0xC3, .none, .f 1, .none), (0xC4, .none, .none, .none), (0xC5, .f 1, .f 2, .none), (0xC6, .f 1, .f 2, .f 2),
        (0xC7, .f 2, .f 1, .f 2), (0xC8, .f 1, .none, .none)].map (fun e => tileCase id e.1 0 e.2.1 e.2.2.1 e.2.2.2 .none (fun c => !c.clu.mode))
      ++ [0xC2, 0xC3].flatMap (fun op => [splineCase knot1 op 0 .none (.f 7) .none .none (fun c => c.clu.mode && !shapeOk (c.t.shAt 7)),
        splineCase knot1 op 0 .none (.f 1) .none .none (fun c => c.clu.mode && shapeOk (c.t.shAt 1) && decide ((shapeOf (c.t.shAt 1)).rank = 3 ∧ (shapeOf (c.t.shAt 1)).d0 = 32
          ∧ (shapeOf (c.t.shAt 1)).elem = 2) && (boxFault c.s c.who (if op = 0xC2 then Acc.read else Acc.write) 1 (coefRuns (shapeOf (c.t.shAt 1)))).isNone)])
      ++ [splineCase knot1 0xC4 0 .none .none .none .none (fun c => c.clu.mode && decide (c.clu.cq.length < 32)),
        splineCase knot1 0xC5 0 (.f 1) (.f 2) .none .none (fun c => knotOk c && noSlot [1, 2] c && tcOk 1 true c && tcOk 2 true c),
        splineCase Knot.zero 0xC5 1 (.f 1) (.f 2) .none .none (fun c => !knotOk c && c.clu.mode && noSlot [1, 2] c && tcOk 1 true c),
        splineCase knot1 0xC5 0 (.f 0) (.f 2) .none .none (fun c => c.clu.mode && tcOk 0 false c && noSlot [0, 2] c),
        splineCase knot1 0xC6 1 (.f 1) (.f 2) (.f 2) .none (fun c => knotOk c && noSlot [1, 2] c && tcOk 1 true c && tcOk 2 true c),
        splineCase Knot.zero 0xC6 0 (.f 1) (.f 2) (.f 2) .none (fun c => !knotOk c && c.clu.mode && noSlot [1, 2] c),
        splineCase knot1 0xC6 0 (.f 1) (.f 3) (.f 2) .none (fun c => c.clu.mode && noSlot [1, 2, 3] c && decide ((tcOf (c.clu.tcAt 3)).map (fun t => t.fmt) = some 1)),
        splineCase knot1 0xC7 0 (.f 2) (.f 1) (.f 2) .none (fun c => knotOk c && noSlot [1, 2] c && shapeOk (c.t.shAt 2) && decide ((shapeOf (c.t.shAt 2)).d1 = 4)
          && (boxFault c.s c.who (Acc.atomic false) 4 (gradRuns (shapeOf (c.t.shAt 2)) 4 4)).isNone),
        splineCase knot1 0xC7 0 (.f 1) (.f 1) (.f 2) .none (fun c => c.clu.mode && decide ((shapeOf (c.t.shAt 1)).elem = 2)),
        splineCase Knot.zero 0xC7 0 (.f 2) (.f 1) (.f 2) .none (fun c => c.clu.mode && !knotOk c && shapeOk (c.t.shAt 2)),
        splineCase knot1 0xC7 0 (.f 2) (.f 0) (.f 2) .none (fun c => c.clu.mode && tcOk 0 false c),
        splineCase knot1 0xC8 0 (.f 0) .none .none .none (fun c => c.clu.mode && decide ((c.clu.knot 0).g = 4 ∧ (c.clu.knot 0).deg = 3 ∧ 2 ≤ bits (c.clu.knot 0).h.toNat 23 8)),
        splineCase knot1 0xC8 0 (.f 1) .none .none .none (fun c => c.clu.mode && decide ((c.clu.knot 1).g = 0))]) := met (by decide +kernel)

/-- The array in spline mode with that command at its head. -/
def splineHead (cmd : Cmd) : State := running (splined knot1 (fun c => { c with cq := [⟨cmd, 0, 0, 0, false, 0, [], []⟩] }))
/-- The coefficients' shape and its pages. -/
def coefShape : Shape := ⟨0x4000, 2, 3, 32, 2, 2, 0, 64, 128, 0, 0⟩
/-- The gradients' shape. -/
def gradShape : Shape := ⟨0x4000, 5, 3, 32, 2, 2, 0, 128, 256, 0, 0⟩

theorem test_meets_SplineArrayExecutes :
    (headReady (splineHead (.sload coefShape pages16)) && headReady (splineHead (.sstore coefShape pages16)) && decide (spasIn pages16 (coefRuns coefShape)).Nodup
      && headReady (splineHead .szero) && headReady (splineHead (.seval 1 2 (tcWord 0 2 2) (tcWord 0 2 2) true [knot1, knot1] 0))
      && headReady (splineHead (.sder 1 2 3 (tcWord 0 2 2) (tcWord 0 2 2) (tcWord 2 2 3) false [knot1, knot1] 0))
      && headReady (splineHead (.sgrad gradShape 1 2 (tcWord 0 2 2) (tcWord 0 2 2) [knot1, knot1] pages16 0)) && headReady (splineHead (.srefine 1 4 [] 0))) = true ∧
    splineGamma 0 (locate false knot1 (.fin false 0 0)) 0 ≠ none ∧ (tcOf (tcWord 0 2 2)).isSome = true ∧ (tcOf (tcWord 2 2 3)).isSome = true := by
  decide +kernel

-- The fabric

/-- A state whose partition 0 is package 1 of a domain of job 5 with packages 0 to 3, in group 9 of two members. -/
def inDomain (s : State) : State :=
  { s.setPart 0 { s.part 0 with domctl := 1 + 512 + 5 * 65536 + 3 * 2 ^ 32 } with gcopy := [(9, some ⟨5, [1, 2], 10, 0⟩)], groups := [(9, some ⟨5, [1, 2], 10, 0⟩)] }
/-- A course of it with one active lane, and the base in s8, s9. -/
def remoteTo (base ta : Nat) (f : Stream → Stream) : State :=
  inDomain (mapped false (fun t => f (onPath (fun p => { p with em := 2 }) { t with
    s := [(8, BitVec.ofNat 32 base), (9, BitVec.ofNat 32 (base / 2 ^ 32))],
    v := [(289, BitVec.ofNat 32 ta)] })))
/-- Nothing holds a remote access of one lane back. -/
def remoteFree (c : Ctx) : Bool := free c && !c.t.inTry && decide (c.t.acq = [] ∧ c.t.outst = 0 ∧ c.act.list.length = 1) && !loadsOut c.s c.sid && !c.othersOut
  && decide (freeEntries c.s (tblOf c.sid) 1 ≠ none ∧ c.s.drains = [] ∧ c.s.ott = [])
/-- The base reaches a package, and the lane's address is aligned, or not. -/
def reaches (r al : Bool) (c : Ctx) : Bool :=
  let base := (c.pair (Ctx.sn c.o.a)).toNat
  remoteFree c && (decide (bits base 57 7 = 0 ∧ bits base 48 9 ≤ c.part.dlast) && c.part.den) == r && decide (c.ta 0 1 % 4 = 0) == al
/-- The four cases of each lane-wise remote instruction: it sends, or its base, its package or its alignment fails. -/
def remoteCases (op : Nat) (x : Opnd) : List Case :=
  [⟨remoteTo (3 * 2 ^ 48 + 0x1000) 0x10 id, op, w2 0 (.v 1) (.s 8) (.v 3) x, reaches true true⟩, ⟨remoteTo (4 * 2 ^ 48) 0 id, op, w2 0 (.v 1) (.s 8) (.v 3) x, reaches false true⟩,
   ⟨remoteTo (2 ^ 57) 0 id, op, w2 0 (.v 1) (.s 8) (.v 3) x, reaches false true⟩, ⟨remoteTo (2 ^ 48) 2 id, op, w2 0 (.v 1) (.s 8) (.v 3) x, reaches true false⟩]
/-- A collective's descriptor at 0x2000: group 9, and the fields given. -/
def describing (bs : List Host.Cell) : State := { remoteTo 0x2000 0 id with mem := bs ++ table }
/-- The descriptor is legal, or not; the boxes pass. -/
def collCase (red ok : Bool) (c : Ctx) : Bool := match readAtIssue c (c.pair (Ctx.sn c.o.a) + dispOf c.o.c).toNat 64 64 with
  | .ok bs => free c && collOk red (collOf bs) bs == ok && (boxFault c.s c.who Acc.read 1 (collRuns red (collOf bs)).1).isNone
      && (boxFault c.s c.who Acc.write 1 (collRuns red (collOf bs)).2).isNone && decide ((c.s.part 0).migring = 0 ∧ (c.s.part 0).blocks = [])
  | .error _ => false
/-- The descriptor is legal, and its boxes fail, to be read or to be written. -/
def collFault (red rd wr : Bool) (c : Ctx) : Bool := match readAtIssue c (c.pair (Ctx.sn c.o.a) + dispOf c.o.c).toNat 64 64 with
  | .ok bs => free c && collOk red (collOf bs) bs && (memberOf c.s c.part 9).isSome && (boxFault c.s c.who Acc.read 1 (collRuns red (collOf bs)).1).isSome == rd
      && (boxFault c.s c.who Acc.write 1 (collRuns red (collOf bs)).2).isSome == wr && decide ((c.s.part 0).blocks = [] ∧ c.s.gated = [])
  | .error _ => false
/-- A descriptor of group 9 for four elements whose source, or result record, no page maps. -/
def lostDesc (rd wr : Bool) : List Host.Cell :=
  [(0x2000, 9), (0x2008, 4), (0x2011, 0x40)] ++ (if rd then [(0x2013, 0x40), (0x2014, 1)] else []) ++ [(0x2019, 0x50)] ++ (if wr then [(0x202B, 0x40), (0x202C, 1)] else [])
/-- The descriptors of a multicast and of a reduction of 4 elements, of another group, and of 2 bytes of a multicast. -/
def mcstDesc : List Host.Cell := [(0x2000, 9), (0x2008, 4), (0x2011, 0x40), (0x2019, 0x50)]

theorem test_meets_FabricInstructionsSendPackets :
    Met (remoteCases 0xCC (.disp 0) ++ remoteCases 0xCD (.s 8) ++ remoteCases 0xCE (.v 4) ++ remoteCases 0xCF (.v 4)
      ++ [⟨remoteTo (3 * 2 ^ 48 + 0x1000) 0 id, 0xD0, w2 0 .none (.s 8) (.s 12) .none, fun c => remoteFree c && decide (bits (c.pair 8).toNat 0 48 % 8 = 0)⟩,
        ⟨remoteTo (4 * 2 ^ 48) 0 id, 0xD0, w2 0 .none (.s 8) (.s 12) .none, fun c => remoteFree c && decide (c.part.dlast < bits (c.pair 8).toNat 48 9)⟩,
        ⟨remoteTo (2 ^ 48 + 4) 0 id, 0xD0, w2 0 .none (.s 8) (.s 12) .none, fun c => remoteFree c && decide (bits (c.pair 8).toNat 0 48 % 8 = 4)⟩,
        ⟨remoteTo (2 ^ 48) 0 (fun t => { t with outst := 1 }), 0xD0, w2 0 .none (.s 8) (.s 12) .none, fun c => decide (c.t.outst ≠ 0)⟩,
        ⟨remoteTo 3 0 (fun t => { t with outst := 1 }), 0xD1, w2 0 (.v 1) (.s 8) (.s 12) .none, fun c => decide (c.t.outst ≠ 0)⟩,
        ⟨remoteTo 3 0 id, 0xD1, w2 0 (.v 1) (.s 8) (.s 12) .none, fun c => remoteFree c && c.part.den && decide ((c.uni c.o.a).toNat = c.part.dlast)⟩,
        ⟨remoteTo 4 0 id, 0xD1, w2 0 (.v 1) (.s 8) (.s 12) .none, fun c => remoteFree c && decide (c.part.dlast < (c.uni c.o.a).toNat)⟩,
        ⟨course, 0xD1, w2 0 (.v 1) (.s 8) (.s 12) .none, fun c => free c && !c.part.den && decide (c.t.outst = 0 ∧ c.t.acq = [])⟩]
      ++ [plain 0xD2 (w2 0 (.s 4) .none .none .none), plain 0xD2 (w2 1 (.s 4) .none .none .none),
        ⟨remoteTo 9 0 id, 0xD5, w2 0 (.s 4) (.s 8) .none .none, fun c => decide ((memberOf c.s c.part 9).map (fun e => e.2) = some 0)⟩,
        ⟨remoteTo 8 0 id, 0xD5, w2 0 (.s 4) (.s 8) .none .none, fun c => (memberOf c.s c.part 8).isNone⟩]
      ++ [⟨describing mcstDesc, 0xD3, w2 0 (.f 1) (.s 8) .none (.disp 0), fun c => collCase false true c && (memberOf c.s c.part 9).isSome⟩,
        ⟨describing ([(0x2000, 8)] ++ mcstDesc.tail), 0xD3, w2 0 (.f 1) (.s 8) .none (.disp 0), fun c => collCase false true c && (memberOf c.s c.part 8).isNone⟩,
        ⟨describing [(0x2000, 9)], 0xD3, w2 0 (.f 1) (.s 8) .none (.disp 0), collCase false false⟩,
        ⟨describing mcstDesc, 0xD4, w2 0 (.f 1) (.s 8) .none (.disp 0), fun c => collCase true true c && (memberOf c.s c.part 9).isSome⟩,
        ⟨describing [(0x2000, 9)], 0xD4, w2 0 (.f 1) (.s 8) .none (.disp 0), collCase true false⟩]
      ++ [(true, false), (false, true), (true, true)].flatMap (fun e => [(0xD3, false), (0xD4, true)].map (fun i =>
        ⟨describing (lostDesc e.1 e.2), i.1, w2 0 (.f 1) (.s 8) .none (.disp 0), collFault i.2 e.1 e.2⟩))
      ++ [⟨remoteTo (3 * 2 ^ 48 + 0x1004) 0xC id, 0xCD, w2 0 (.v 1) (.s 8) (.v 3) (.s 8), fun c => reaches true true c && decide (bits (c.pair (Ctx.sn c.o.c)).toNat 0 48 % 8 = 4)⟩,
        -- the second of two lanes is misaligned
        ⟨remoteTo (2 ^ 48) 4 (fun t => onPath (fun p => { p with em := 6 }) { t with v := [(289, 4), (290, 6)] }), 0xCC, w2 0 (.v 1) (.s 8) (.v 3) (.disp 0),
          fun c => free c && !c.othersOut && decide (c.act.list = [1, 2] ∧ c.act.list.find? (fun l => c.ta 0 l % 4 ≠ 0) = some 2)⟩,
        -- a small immediate of CADD
        ⟨remoteTo (2 ^ 48) 4 id, 0xCE, w2 9 (.v 1) (.s 8) (.v 3) (.imm 1), fun c => reaches true true c && decide (c.ty = 9)⟩]) := met (by decide +kernel)

/-- A packet from package 2 to package 1 of job 5. -/
def arrival (ty opc aux ta : Nat) (bs : List Byte) : Packet := ⟨ty, 1, 2, 5, 0, opc, 0, 1, ta, aux, bs⟩
/-- The package that it reaches, its packets kept at the target. -/
def target (ps : List Packet) : State := { inDomain (mapped false id) with fin := ps }
/-- The package admits the packet, and the access passes. -/
def admitted (p : Packet) (acc : Acc) (n : Nat) : Bool := let s := target [p]
  !loopReady s p && !mustWait s p && decide (targetPart s p.djob = some 0)
  && decide ((s.part 0).blocks = [] ∧ (s.part 0).migring = 0 ∧ s.ue = []) && (remoteAccess s 0 acc p.ta n).isOk
/-- An atomic's mode, a count of one, and its item. -/
def oneAtomic (bs : List Byte) : List Byte := fillUnits ([0, 0, 0, 0, 1] ++ bs)

theorem test_meets_FabricRequestsAreServed :
    (let h : DieHeader := ⟨1, 2, 0x203, 0x1FFF, 0, 3, 0x1000⟩
     h.tag < 2 ^ 13 ∧ h.src < 2 ^ 16) ∧
    (let bs : List (Nat × Byte) := (List.range 32).map (fun i => (0x1000 + i, 7))
     (∀ b ∈ bs, b.1 / 32 = 0x80) ∧ (bs.map (fun b => b.1)).Nodup ∧ ((bs.take 3).map (fun b => b.1)).Nodup) ∧
    (let p := arrival 2 0 0 0x1000 (List.replicate 400 1)
     p.payload.length % 16 = 0 ∧ p.payload.length ≤ 400 ∧ p.ty < 2 ^ 8 ∧ p.dpkg < 2 ^ 16) ∧
    (admitted (arrival 1 0 0 0x1000 (fillUnits [0, 255])) Acc.read 256 && admitted (arrival 2 0 0 0x1000 (fillUnits [252, 4, 1, 2, 3, 4])) Acc.write 256
      && admitted (arrival 3 0 0x2000 0x1000 (fillUnits [0, 1, 9])) Acc.write 256 && admitted (arrival 4 9 0 0x1000 (oneAtomic [4, 0, 0, 0x80, 0x3F])) (Acc.atomic false) 256
      && admitted (arrival 5 0 0 0x1000 (oneAtomic [8, 0, 0, 0, 0, 7, 0, 0, 0])) (Acc.atomic false) 256
      && admitted (arrival 6 0 0 0x2000 (fillUnits [1, 0, 0, 0, 0, 0, 0, 0])) (Acc.atomic false) 8
      && (let p := arrival 3 0 0xC0000000 0x1000 (fillUnits [0, 1, 9])
          admitted p Acc.write 256 && !(remoteAccess (target [p]) 0 (Acc.atomic false) p.aux 8).isOk)
      && (remoteAccess (target []) 0 (Acc.atomic false) 0x2000 8).isOk && !(remoteAccess (target []) 0 Acc.write 0xC0000000 256).isOk
      && decide (targetPart (target []) 6 = none)
      && (let p := arrival 2 0 0 0x1000 (fillUnits [0, 1, 9])
          let s := target [{ p with ta := 0x2000 }, p]
          !loopReady s p && mustWait s p)) = true := by decide +kernel

/-- A collective of the package with four elements: about to start, or started. -/
def collective (kind : EngKind) (started : Bool) : State :=
  { inDomain (mapped false id) with eops := [(0, some { engineOp kind box16 box16 box16 0 false with
      coll := ⟨9, 0, 0, 0, 4, 0x4000, 0x4000, 0, 0⟩, pages := pages16, started := started })], neop := 1 }
/-- Its operation. -/
def collected (kind : EngKind) (started : Bool) : EngOp := ((collective kind started).eop? 0).getD (engineOp kind box16 box16 box16 0 false)
/-- The first packet of its contribution, and of its multicast. -/
def contribution : Packet := mcredOf (collective .mcred false) 0 (collected .mcred false)
def multicast : Packet := mcstOf (collective .mcst false) 0 (collected .mcst false)
/-- A multicast of four bytes, or of so many, from package 2, with a flag. -/
def castTo (total flag : Nat) : Packet := arrival 8 0 9 0x1000 (bytesOf total 4 ++ bytesOf flag 8 ++ bytesOf 0 4 ++ fillUnits [1, 2, 3, 4])
/-- The contribution of another member, and one of so many elements from package 2. -/
def share (pkg : Nat) : Contrib := ⟨pkg, 5, 0, 0, 0, 4, List.replicate 16 1⟩
def shareOf (count : Nat) : Packet := arrival 9 0 9 0 (bytesOf 0 4 ++ bytesOf count 4 ++ bytesOf 0 8 ++ List.replicate 16 1)
/-- A result of four elements. -/
def result : Packet := arrival 0x13 0 9 0 (bytesOf 0 4 ++ bytesOf 4 4 ++ bytesOf 0 8 ++ List.replicate 16 1)
/-- A sequence at the root switch, with the contributions given, at a clock. -/
def gathering (cs : List (Nat × Contrib)) (clock : Nat) : State := { inDomain (mapped false id) with sw := [⟨9, 0, 0, cs⟩], clock := clock }
/-- A message outstanding in entry 3, and its NACK. -/
def refusal (tag : Nat) : Packet := { arrival 0x12 1 0 0 [] with tag := tag }
def messaging : State := { outstanding .message (pieceOf (.write []) .none) true [[]] with fin := [refusal 48] }

theorem test_meets_CollectivesStartAndArrive :
    (let s := collective .mcst false
     decide ((findStart s .mcst (fun n x => mcstOf s n x = multicast)).map (fun x => x.1) = some 0 ∧ (s.part 0).blocks = [] ∧ (s.part 0).migring = 0 ∧ s.ue = []
       ∧ s.links = []) && !rootDown s 9 && (Tab.get none s.gcopy 9).isSome) = true ∧
    (let p := castTo 400 0
     admitted p Acc.write 4 && !lastOf p 400 && decide (p ∉ (target [p]).fout ∧ p.dpkg % 512 ≠ p.spkg)) = true ∧
    ([0, 0x2000].all (fun flag => let p := castTo 4 flag
     let s := target [p]
     admitted p Acc.write 4 && lastOf p 4 && decide (trainData s p 4 = [1, 2, 3, 4]) && (findStart s .mcst (fun n x => mcstOf s n x = p)).isNone
       && decide ((List.range 4).map (fun i => (remoteAccess s 0 Acc.write (p.ta + i) 1).toOption) = (List.range 4).map (fun i => some (0x1000 + i)))
       && (flag = 0 || (remoteAccess s 0 (Acc.atomic false) flag 8).isOk))) = true ∧
    (let s := collective .mcst true
     let p := refusal (collTag 0 0)
     decide ((s.eop? 0).map (fun x => (x.kind, x.started, x.ans)) = some (.mcst, true, []) ∧ Machine.entryOf p.tag = none
       ∧ (collOfTag s p.tag).map (fun x => x.1) = some 0 ∧ p.spkg = nth 0 [1, 2] 1)) = true ∧
    (let s := collective .mcred false
     decide ((findStart s .mcred (fun n x => mcredOf s n x = contribution)).map (fun x => x.1) = some 0 ∧ contribution.djob = 5 ∧ contribution.spkg = 1 ∧ s.sw = [] ∧ s.swClosed = []
       ∧ s.absent = [] ∧ (Tab.get none s.groups 9).map (fun e => e.members) = some [1, 2]) && !rootDown s 9) = true := by decide +kernel

theorem test_meets_CollectivesMissAndDepart :
    (let p := { castTo 4 0 with ta := 0xC0000000 }
     let s := target [p]
     !loopReady s p && !mustWait s p && lastOf p 4 && decide (targetPart s p.djob = some 0) && !(remoteAccess s 0 Acc.write p.ta 1).isOk) = true ∧
    (let p := { multicast with dpkg := 1 }
     let s := (collective .mcst true).setPart 0 { (collective .mcst true).part 0 with wdreset := some 0 }
     decide (p.ty = 8 ∧ p ∉ s.fout ∧ p.spkg = 1 ∧ targetPart s p.djob = none) && !mustWait s p && (findStart s .mcst (fun n x => mcstOf s n x = p)).isNone
       && lastOf p (leAt p.payload 0 4) && ownPkg s p.djob p.spkg && decide ((collOfTag s p.tag).map (fun x => x.1) = some 0)
       && (s.eop? 0).any (fun x => decide ((Tab.get none s.gcopy x.coll.group).map (fun e => e.members) = some [1, 2] ∧ x.ans = []))) = true ∧
    ([castTo 4 0, { result with dpkg := 1, spkg := 1 }].all (fun p => let s := { target [] with fout := [p], agenda := [.depart 0] }
      islandUp s 21 && decide (s.fout.find? (sameLane p) = some p ∧ (p.dpkg % 512 ≠ p.spkg ∨ p.ty = 0x13)))) = true := by decide +kernel

theorem test_meets_CollectivesGatherAndAnswer :
    (let s := gathering [(0, share 1)] 0
     [200, 4].all (fun n => (findStart s .mcred (fun n' x => mcredOf s n' x = shareOf n)).isNone && !ownPkg s 5 2 && decide (s.absent = [])
       && lastOf (shareOf n) (n * collW 0) == decide (n = 4))) = true ∧
    (let s := { gathering [(0, share 1)] 0 with groups := [(9, some ⟨5, [1, 2, 3], 10, 0⟩)] }
     s.sw.all (fun q => !q.late ⟨5, [1, 2, 3], 10, 0⟩ s.clock && q.contribs.all (fun y => y.1 ≠ 1) && decide (q.contribs.length + 1 < 3))) = true ∧
    (let s := { gathering [] 0 with sw := [], swClosed := [(9, 0, 1)] }
     decide (s.swClosed.find? (fun y => y.1 = 9 && y.2.1 = 0) = some (9, 0, 1))) = true ∧
    decide ((gathering [(0, share 1)] 7999).clock < 0 + 800 * 10 ∧ 0 + 800 * 10 ≤ (gathering [(0, share 1)] 8000).clock
      ∧ (share 1).sfmt = (share 2).sfmt ∧ (share 1).count = (share 2).count ∧ (share 1).rop ≠ { share 2 with rop := 1 }.rop) = true ∧
    (let s := { collective .mcred true with fin := [result] }
     decide ((mcredOfResult s result).map (fun x => x.1) = some 0 ∧ result ∉ s.fout ∧ s.ue = [] ∧ (s.part 0).migring = 0
       ∧ (spasIn pages16 [(0x4000, 16)]).length = (trainData s result 16).length) && lastOf result 16 && !mustWait s result
       && decide (spasIn pages16 [(0x4000, 16)]).Nodup) = true ∧
    (decide (Machine.entryOf 48 = some ⟨0, 3, 0⟩ ∧ (refusal 48).dpkg % 512 ≠ (refusal 48).spkg ∧ (genOf messaging 0 3).1 = 0)
      && ((Tab.get none messaging.ott (entKey 0 3)).map (fun e => decide (e.kind = .message) && !e.gone)) == some true && (messaging.stream? 0).isSome) = true ∧
    knownType 0x1F = false ∧ knownType 1 = true := by decide +kernel

-- Persistence and snapshots

/-- A snapshot descriptor of one raw page of SCM: its bytes at 0x2000, and as it is read. -/
def snapBytes : List Byte :=
  [1, 0, 1, 0] ++ List.replicate 14 0 ++ [0x10] ++ List.replicate 7 0 ++ [2] ++ List.replicate 7 0 ++ [0x20] ++ List.replicate 7 0 ++ [2] ++ List.replicate 5 0
    ++ (List.range 10).flatMap (fun i => [BitVec.ofNat 8 i, 0]) ++ List.replicate 60 0 ++ List.replicate 26 0 ++ [1] ++ List.replicate 5 0
def snapDesc : SDesc := sdescOf snapBytes
/-- A local commit record of it at step 5, and its directory entry, each with its CRC. -/
def record5 : List Byte := [5] ++ List.replicate 13 0 ++ [1, 0, 2, 0, 0, 0, 0x59, 0xD5, 0x0F, 0x01] ++ List.replicate 36 0 ++ [0xD5, 0x5B, 0xC7, 0x89]
def dirEntry : List Byte := [1] ++ List.replicate 9 0 ++ [0x10] ++ List.replicate 7 0 ++ [2] ++ List.replicate 41 0 ++ [0x85, 0x3F, 0x36, 0xE1]
/-- The nonzero bytes of a list as cells from an address. -/
def cells (a : Nat) (bs : List Byte) : List Host.Cell := (bs.zipIdx.map (fun b => (a + b.2, b.1))).filter (fun c => c.2 ≠ 0)
/-- A course with that descriptor, at the step in s12, the snapshot state g makes, and in SCM an image's header, a commit record
of step 5 and the directory's entry. -/
def snapping (step : Nat) (f : Stream → Stream) (g : Snap → Snap) : State :=
  let s := mapped false (fun t => f { t with s := [(8, 0x2000), (12, BitVec.ofNat 32 step)] })
  { s.setPart 0 { s.part 0 with snap := g (s.part 0).snap } with
    mem := cells 0x2000 snapBytes ++ table ++ cells (scmSpa 0x100000) snapBytes ++ cells (scmSpa 0x140000) record5
      ++ cells (scmSpa dirOff) dirEntry }
/-- The descriptor is read and legal. -/
def descRead (c : Ctx) : Bool := free c && (readSnapDesc c).isOk
/-- The course waits for the hub. -/
def waits (t : Stream) : Stream := onPath (fun p => { p with wait := some .hub }) t
/-- A request of class P of course 0, or of the hub. -/
def preq (sid : Option Nat) (tag : Option Tag) (cluster : Nat) (step : Option Word) : PReq :=
  ⟨tag, sid, cluster, 0, 0, 0, step, scmSpa 0x300, none, [(scmSpa 0x300, 7)], none, none, true, 0⟩
/-- A stripe record of a step on every member of the group. -/
def onAll (step : Nat) (n : Snap) : Snap := { n with str := [(0, some step)], peers := (List.range 10).map (fun q => (q, step)) }
/-- Such a record stands. -/
def isStriped (n : Snap) (m : Nat) : Bool := [0, 1].any (fun k => Tab.get none n.str k = some m) && decide (9 ≤ ((List.range 10).filter (fun q => (q, m) ∈ n.peers)).length)
/-- A course before PBAR.STRIPE with its tag and step, and the stripe records g makes. -/
def striped (tag : Option Word) (step : Word) (g : Snap → Snap) : State := snapping 0 (fun t => { t with ptag := tag, step := step }) g
/-- A course before PST at SCM, one lane of it active. -/
def persisting : State := mapped false (fun t => onPath (fun p => { p with em := 1 }) { t with s := [(8, 0x40000000)] })
/-- PST's lanes pass their checks. -/
def pstReady (c : Ctx) : Bool := sends Acc.persist (typeSize c.ty) (fun c => if isVec c.o.d then laneVas c else oneVa c) c
/-- A persist queue entry. -/
def pent (seq : Nat) : PEnt := ⟨seq, 0, some 0, some 9, scmSpa 0x300, [(scmSpa 0x300, 7)], 0⟩

theorem test_meets_PersistInstructions :
    Met ([⟨persisting, 0xD8, w2 0 (.v 1) (.s 8) (.v 3) (.disp 0), pstReady⟩, ⟨persisting, 0xD8, w2 9 (.s 4) (.s 8) (.s 12) (.disp 0), pstReady⟩,
        plain 0xD9 (w2 0 .none .none .none .none), ⟨course, 0xD9, w2 1 .none .none .none .none, fun c => free c && !persistOut c.s c.sid && !copyOut c.s c.sid⟩,
        ⟨{ course with pwait := [preq (some 0) none 0 (some 0)] }, 0xD9, w2 1 .none .none .none .none, fun c => free c && persistOut c.s c.sid⟩,
        ⟨striped none 3 id, 0xD9, w2 3 .none .none .none .none, fun c => free c && c.t.ptag.isNone⟩,
        ⟨striped (some 3) 3 id, 0xD9, w2 3 .none .none .none .none, fun c => free c && decide (c.t.ptag = some 3 ∧ c.t.step = 3)⟩,
        ⟨striped (some 3) 4 (onAll 3), 0xD9, w2 3 .none .none .none .none, fun c => free c && isStriped (c.s.part 0).snap 3 && decide (c.t.step = 4)⟩,
        ⟨striped (some 3) 4 (onAll 2), 0xD9, w2 3 .none .none .none .none, fun c => free c && isStriped (c.s.part 0).snap 2 && decide ((c.s.part 0).snap.str = [(0, some 2)])⟩,
        plain 0xDA (w1 .none .none .none), ⟨{ course with pq := [pent 4], pseq := 4 }, 0xDA, w2 0 .none .none .none .none, fun c => free c && c.p.wait.isNone && decide (c.s.pseq = 4)⟩,
        ⟨{ alone false (onPath (fun p => { p with wait := some (.flush 3) })) with pq := [pent 4], pseq := 4 }, 0xDA, w2 0 .none .none .none .none,
          fun c => free c && decide (c.p.wait = some (.flush 3)) && c.s.pq.all (fun e => decide (3 < e.seq))⟩,
        plain 0xDB (w2 0 (.s 4) .none .none .none), plain 0xDC (w2 0 .none (.s 8) .none .none),
        ⟨alone false (fun t => { t with step := 1 }), 0xDC, w2 0 .none (.s 8) .none .none, fun c => free c && decide ((c.uni c.o.a).toNat < c.t.step.toNat)⟩,
        plain 0xDD (w2 0 (.s 4) .none .none .none)]
      ++ [⟨snapping 6 id id, 0xDE, w2 0 .none (.s 8) (.s 12) (.disp 0), fun c => descRead c && decide ((c.s.part 0).snap.st = 0 ∧ (c.s.part 0).pstepmax.toNat ≤ 6)⟩,
        ⟨snapping 6 id (fun n => { n with loc := [(0, some 6)] }), 0xDE, w2 0 .none (.s 8) (.s 12) (.disp 0), fun c => descRead c && decide ((c.s.part 0).snap.cur = some (6, 0))⟩,
        ⟨(let s := snapping 6 id (fun n => { n with loc := [(0, some 5)] })
          s.setPart 0 { s.part 0 with domctl := 512 }), 0xDE, w2 0 .none (.s 8) (.s 12) (.disp 0), fun c => descRead c
            && decide ((c.s.part 0).snap.cur = some (5, 0) ∧ (c.s.part 0).domctl.getLsbD 9 = true) && !isStriped (c.s.part 0).snap 5⟩,
        ⟨(let s := snapping 6 id (fun n => onAll 5 { n with loc := [(0, some 5)] })
          s.setPart 0 { s.part 0 with domctl := 512 }), 0xDE, w2 0 .none (.s 8) (.s 12) (.disp 0), fun c => descRead c
            && decide ((c.s.part 0).snap.st = 0 ∧ (c.s.part 0).snap.frz = false ∧ snapDesc.img % 256 = 0 ∧ snapDesc.z % 256 = 0) && isStriped (c.s.part 0).snap 5⟩,
        ⟨snapping 6 id (fun n => { n with st := 2 }), 0xDE, w2 0 .none (.s 8) (.s 12) (.disp 0), fun c => descRead c && decide ((c.s.part 0).snap.st = 2)⟩]
      ++ [(1, Opnd.s 8, Opnd.disp 0), (2, .none, .none), (3, .none, .none), (4, .s 8, .disp 0), (5, .s 8, .disp 0)].map (fun e => (⟨alone false (fun t => { t with sys := false }),
        0xDE, w2 e.1 .none e.2.1 (.s 12) e.2.2, fun c => free c && !c.t.sys⟩ : Case))
      ++ [⟨snapping 5 id id, 0xDE, w2 2 .none .none (.s 12) .none, fun c => free c && c.t.sys && ((c.s.part 0).snap.slotOf 5).isNone⟩,
        ⟨snapping 5 id (fun n => { n with loc := [(0, some 5)] }), 0xDE, w2 2 .none .none (.s 12) .none, fun c => free c && decide ((c.s.part 0).snap.slotOf 5 = some 0)⟩,
        ⟨{ snapping 5 waits id with pwait := [preq none none hubPort none] }, 0xDE, w2 1 .none (.s 8) (.s 12) (.disp 0), fun c => decide (c.p.wait = some .hub) && hubOut c.s 0⟩,
        ⟨snapping 5 waits id, 0xDE, w2 4 .none (.s 8) (.s 12) (.disp 0), fun c => decide (c.p.wait = some .hub) && !hubOut c.s 0⟩,
        ⟨snapping 5 id id, 0xDE, w2 4 .none (.s 8) (.s 12) (.disp 0), fun c => c.p.wait.isNone && descRead c && decide (c.s.absent = [] ∧ (c.s.part 0).migring = 0)⟩,
        ⟨{ snapping 5 id id with absent := [1, 2, 3] }, 0xDE, w2 4 .none (.s 8) (.s 12) (.disp 0), fun c => c.p.wait.isNone && descRead c
          && decide (2 < ((List.range 10).filter (fun q => nth 0 snapDesc.memb q ∈ c.s.absent)).length)⟩,
        ⟨snapping 5 id (fun n => { n with loc := [(0, some 5)] }), 0xDE, w2 1 .none (.s 8) (.s 12) (.disp 0), fun c => c.p.wait.isNone && descRead c && !otherCourses c
          && decide ((c.s.part 0).snap.slotOf 5 = some 0) && decide (recordAt c.s snapDesc.img snapDesc.z 0 0 = some (5, 0x010FD559))
          && decide (snapDesc.regs.map (fun r => r.kind) = [0]) && snapDesc.regs.all (fun r => !slotBad c.s (snapDesc.img + 65536) r.len)⟩,
        ⟨snapping 5 id id, 0xDE, w2 1 .none (.s 8) (.s 12) (.disp 0), fun c => c.p.wait.isNone && descRead c && !otherCourses c && ((c.s.part 0).snap.slotOf 5).isNone⟩,
        ⟨(snapping 5 id id).setStream 1 (placedStream Lanes.all []), 0xDE, w2 1 .none (.s 8) (.s 12) (.disp 0), fun c => descRead c && otherCourses c⟩,
        ⟨snapping 5 id id, 0xDE, w2 5 .none (.s 8) (.s 12) (.disp 0), fun c => free c && decide (deltaBytes c.s 0 = [])⟩,
        ⟨snapping 5 id (fun n => { n with loc := [(0, some 5)], dirty := [0] }), 0xDE, w2 5 .none (.s 8) (.s 12) (.disp 0), fun c => free c
          && (access c.s c.who Acc.write 0x2000 (deltaBytes c.s 0).length 1).isOk && decide ((c.s.part 0).blocks = [] ∧ c.s.gated = [] ∧ 0 < (deltaBytes c.s 0).length)⟩,
        ⟨{ snapping 5 id (fun n => { n with loc := [(0, some 5)] }) with ue := [scmSpa 0x110000 / 256] }, 0xDE, w2 1 .none (.s 8) (.s 12) (.disp 0), fun c => c.p.wait.isNone
          && descRead c && !otherCourses c && decide ((c.s.part 0).snap.slotOf 5 = some 0) && decide (recordAt c.s snapDesc.img snapDesc.z 0 0 = some (5, 0x010FD559))
          && snapDesc.regs.all (fun r => slotBad c.s (snapDesc.img + 65536) r.len)⟩]
      ++ (List.range 4).map (fun m => plain 0xDF (w2 m (.s 4) .none .none .none))) := met (by decide +kernel)

/-- The sum over the bytes of a list, from a value. -/
def crcFrom (c : Word) (bs : List Byte) : Word := bs.foldl (fun c b => crcBit 0x82F63B78 8 (c ^^^ b.setWidth 32)) c

theorem test_meets_crc_of_descriptor : crc32c snapDesc.raw = 0x010FD559 := by
  have h (c : Word) (a b : List Byte) : crcFrom c (a ++ b) = crcFrom (crcFrom c a) b := List.foldl_append
  have e : snapDesc.raw = ((snapBytes.take 40 ++ (snapBytes.drop 40).take 40) ++ (snapBytes.drop 80).take 40) ++ snapBytes.drop 120 := by decide +kernel
  have h1 : crcFrom (BitVec.allOnes 32) (snapBytes.take 40) = 0xC616075D := by decide +kernel
  have h2 : crcFrom 0xC616075D ((snapBytes.drop 40).take 40) = 0xE6CB4E32 := by decide +kernel
  have h3 : crcFrom 0xE6CB4E32 ((snapBytes.drop 80).take 40) = 0xC08FA41F := by decide +kernel
  have h4 : ~~~(crcFrom 0xC08FA41F (snapBytes.drop 120)) = 0x010FD559 := by decide +kernel
  calc crc32c snapDesc.raw = ~~~(crcFrom (BitVec.allOnes 32) snapDesc.raw) := rfl
    _ = 0x010FD559 := by rw [e, h, h, h, h1, h2, h3, h4]

/-- A machine with persist requests, entries and a snapshot. -/
def windlass (g : Snap → Snap) (f : State → State) : State := f (snapping 5 id g)
/-- A snapshot of that descriptor which captures, with pages left. -/
def capturing (left : List (Nat × Nat)) (n : Snap) : Snap := { n with st := 1, step := 5, desc := some snapDesc, left := left }
/-- It encodes its stripes, with parity units complete. -/
def encoding (n : Snap) : Snap := { capturing [] n with st := 2, contrib := [(0, List.range 8, []), (9, List.range 8, [])], acked := owedUnits snapDesc }
/-- A persist store of course 0 that waits in entry 3. -/
def stored : State := windlass id (fun s => { s with
  power := true, huok := true, pwait := [preq (some 0) (some ⟨0, 3, 0⟩) 0 (some 9)], ott := [(entKey 0 3, some (entryOf .persist (pieceOf (.write [7]) .none)))] })

theorem test_meets_PersistQueueOrder :
    (let s := { windlass id id with huok := true, pwait := [{ preq (some 0) none 0 (some 9) with epoch := 1 }],
                                    eops := [(0, some (engineOp (.copy 1 none) box16 box16 box16 0 false))] }
     s.pwait.any (fun r => r.sid = some 0 && r.epoch = 1) && (s.eop? 0).any (fun y => y.handing && y.sid = some 0 && y.epoch < 1)) = true ∧
    (let s := { windlass id id with huok := true, pwait := [preq (some 0) none 0 (some 9), { preq (some 0) none 0 (some 9) with epoch := 1 }] }
     s.pwait[0]?.any (fun x => x.live && x.cluster = 0 && x.epoch = 0) && s.pwait[1]?.any (fun r => r.cluster = 0 && r.epoch = 1)) = true ∧
    (let s := { windlass id id with huok := false, clock := 60 * 800000000 }
     !s.huok && s.power && decide (s.lowClk + 60 * 800000000 ≤ s.clock)) = true ∧ islandUp { windlass id id with gated := [22] } 22 = false := by decide +kernel

/-- That machine's partition serves job 5, and its Windlass has this message. -/
def hears (m : PeerMsg) (g : Snap → Snap) : State := { inDomain (windlass g id) with agenda := [.peer 5 m] }
/-- An uncorrectable error meets the first data unit of the snapshot's slot 0. -/
def struckUnit (s : State) : State := { s with ue := [scmSpa snapDesc.img / 256] }

theorem test_meets_WindlassAndItsGroup :
    ([false, true].all (fun bad => let s := { windlass (fun n => { encoding n with acked := [] }) (if bad then struckUnit else id) with agenda := [.unit 0] }
      decide (s.agenda = [.unit 0] ∧ (s.part 0).snap.st = 2 ∧ (s.part 0).snap.desc = some snapDesc)
        && ((owedUnits snapDesc).find? (fun u => !(s.part 0).snap.sent.contains u)).any (fun u => decide (dataUnit u.1 snapDesc.pos < snapDesc.z / 65536)
          && slotBad s (snapDesc.img + (s.part 0).snap.slot * snapDesc.z + 65536 * dataUnit u.1 snapDesc.pos) 65536 == bad))) = true ∧
    (let s := hears (.ack 1 0 5) (fun n => { encoding n with sent := [(1, 0)] })
     decide (targetPart s 5 = some 0 ∧ (1, 0) ∈ (s.part 0).snap.sent ∧ (s.part 0).snap.step = 5 ∧ (s.part 0).snap.st = 2 ∧ s.agenda = [.peer 5 (.ack 1 0 (s.part 0).snap.step)])) = true ∧
    ([PeerMsg.record 3 5, .noJob 3, .read 2 5 0 false].all (fun m => let s := hears m encoding
      decide (targetPart s 5 = some 0 ∧ s.agenda = [.peer 5 m] ∧ (s.part 0).snap.st = 2))) = true ∧
    (let s := { windlass encoding id with agenda := [.peer 6 (.read 2 5 0 false)] }
     decide (targetPart s 6 = none)) = true ∧
    (let s := windlass (fun n => { encoding n with acked := [] }) id
     (owedUnits snapDesc).any (fun u => u ∉ (s.part 0).snap.acked)) = true ∧
    (let s := windlass (fun n => { encoding n with contrib := [] }) id
     decide (parityDone (s.part 0).snap < stripes snapDesc / 5)) = true := by decide +kernel

theorem test_meets_PersistQueueAndWindlass :
    (mayAccept stored 0 && (Tab.get none stored.ott (entKey 0 3)).any (fun e => decide (e.kind = .persist) && !e.gone)
      && stored.pwait.all (fun r => r.mark.isNone && r.op.isNone && r.live && decide (r.tag = some ⟨0, 3, 0⟩)
        && r.bytes.all (fun b => (Tag.mk 0 3 0).sender.crosses b.1)) && decide ((genOf stored 0 3).1 = 0) && (stored.stream? 0).isSome) = true ∧
    (let s := windlass (capturing [(0, 0)]) (fun s => { s with power := true, pq := [pent 1] })
     decide (islandUp s 22 = true ∧ (s.part 0).snap.st = 1 ∧ (s.part 0).snap.step < 9 ∧ ((pent 1).bytes.map (fun b => b.1)).Nodup) && (unitAt snapDesc (scmOff (scmSpa 0x300))).isSome) = true ∧
    (let s := windlass (capturing [(0, 0)]) id
     decide ((s.part 0).snap.left[0]? = some (0, 0) ∧ (s.part 0).halted = false ∧ (s.part 0).pre = 0 ∧ (snapDesc.regs[0]?).isSome = true ∧ s.ue = [])) = true ∧
    (let s := windlass (capturing [(0, 0)]) (fun s => { s with ue := [scmSpa ((snapDesc.regs.map (fun r => r.base)).headD 0) / 256] })
     decide ((s.part 0).snap.left[0]? = some (0, 0) ∧ (s.part 0).halted = false ∧ (s.part 0).pre = 0) && snapDesc.regs.all (fun r => r.kind = 0 && ueAt s (scmSpa r.base) 65536)) = true ∧
    (let s := windlass (capturing [(0, 0)]) id
     decide ((s.part 0).snap.left ≠ [])) = true ∧
    (let s := windlass (capturing []) (fun s => (s.setPart 0 { s.part 0 with pstepmax := 6 }).setStream 0 { placedStream Lanes.all [] with step := 6 })
     mayCommit s 0) = true ∧
    (let s := inDomain (windlass (fun n => { encoding n with contrib := [] }) id)
     decide (targetPart s 5 = some 0 ∧ targetPart s 6 = none ∧ (s.part 0).snap.st = 2 ∧ (s.part 0).snap.alone = false ∧ parityOf 9 snapDesc.pos = some 1 ∧ 9 < stripes snapDesc)) = true ∧
    (List.replicate 65536 (0 : Byte)).length = 65536 ∧
    (let s := windlass encoding id
     (owedUnits snapDesc).all (fun u => u ∈ (s.part 0).snap.acked) && decide (stripes snapDesc / 5 ≤ parityDone (s.part 0).snap ∧ hubOut s 0 = false ∧ (s.part 0).snap.st = 2) && snapDesc.memb.all (fun m => m ∉ s.absent)) = true ∧
    (snapDesc.memb.any (fun m => m ∈ ({ windlass encoding id with absent := [9] } : State).absent)) = true :=
  ⟨by decide +kernel, by decide +kernel, by decide +kernel, by decide +kernel, by decide +kernel, by decide +kernel, by decide +kernel, List.length_replicate,
    by decide +kernel, by decide +kernel⟩

-- Scheduling

/-- A course with the table, the given bytes at 0x2000, counter 7 allocated with a value, and the partition as g makes it. -/
def sched (bs : List Host.Cell) (done : Bool) (f : Stream → Stream) (g : Part → Part) : State :=
  let s := mapped false (fun t => f { t with s := [(8, 0x2000), (12, 1)] })
  { (s.setPart 0 (g { s.part 0 with tabbase := 0x3000, tabn := 4, tabcfg := 1 })).setCnt 7 ⟨true, done, false, 0, 0, false, 0, 0, 1⟩ with mem := bs ++ table }
/-- Nothing of the course is outstanding. -/
def settled0 (c : Ctx) : Bool := free c && decide (c.t.acq = [] ∧ c.t.outst = 0 ∧ c.part.migring = 0) && !loadsOut c.s c.sid && !c.othersOut
/-- A launch descriptor of one team of one course with 8 registers, under counter 7. -/
def launchDesc : List Host.Cell := [(0x2010, 1), (0x2012, 1), (0x2014, 1), (0x2016, 1), (0x2018, 8), (0x2028, 7)]
/-- The descriptor is read and valid, or not. -/
def launchRead (ok : Bool) (c : Ctx) : Bool := match readAtIssue c (c.pair (Ctx.sn c.o.a) + dispOf c.o.c).toNat 64 64 with
  | .ok bs => free c && decide (c.part.migring = 0) && descOk c.s 0 bs == ok && (!ok || decide (deviceHeld c.s 0 (descOf bs).pri < 256))
  | .error _ => false
/-- An instruction on a number in s8. -/
def onNumber (n op mod : Nat) (d b : Opnd) (bs : List Host.Cell) (done : Bool) (f : Stream → Stream) (g : Part → Part) (P : Ctx → Bool) : Case :=
  ⟨sched bs done (fun t => f { t with s := [(8, BitVec.ofNat 32 n), (12, 1)] }) g, op, w2 mod d (.s 8) b .none, fun c => free c && decide (c.part.migring = 0) && P c⟩
/-- A tab's record at the address of record 1 in a table at 0x2000, waiting for two, or created so. -/
def tabRecord (join state : Byte) : List Host.Cell := [(0x2038, join), (0x203B, state)].filter (fun c => c.2 ≠ 0)
def atTable (x : Part) : Part := { x with tabbase := 0x2000 }
/-- TABNEW's record lies in the table and is legal, or not. -/
def tabRead (inside legal : Bool) (c : Ctx) : Bool :=
  let va := (c.pair (Ctx.sn c.o.a) + dispOf c.o.c).toNat
  match readAtIssue c va 32 32 with
  | .ok bs => free c && decide (c.part.tabbase.toNat ≤ va ∧ (va - c.part.tabbase.toNat) % 32 = 0 ∧ (va - c.part.tabbase.toNat) / 32 < c.part.tabn) == inside
      && decide (tabNin bs ≤ 4 ∧ tabParent bs = none ∧ tabState bs ∈ [0, 4, 5] ∧ bits c.part.tabcfg.toNat 0 8 ≠ 0) == legal
  | .error _ => false
/-- The STATUS word of a tab may be written. -/
def statusOk (i : Nat) (c : Ctx) : Bool := (tabFault c.s 0 i).isNone && (access c.s (ringWho 0) tabAcc (tabAddr c.s 0 i + 24) 4 1).isOk
/-- A table that maps the second GiB to the cistern; an armed launch's record with its buffer there. -/
def cisternTable : List Host.Cell := table.take 5 ++ [(0x40001008, 0x81), (0x4000100D, 4), (0x4000100F, 0x70)]
def armRecord : List Host.Cell := [(0x2000, 5), (0x2003, 1), (0x2013, 0x40)]
/-- The record is read and may be armed, or not. -/
def armRead (ok : Bool) (c : Ctx) : Bool := match readAtIssue c (c.pair (Ctx.sn c.o.a) + dispOf c.o.c).toNat 64 64 with
  | .ok bs => free c && armTakes c.s 0 bs == ok && decide (c.part.migring = 0)
  | .error _ => false
/-- An arm of tag 5. -/
def armed (x : Part) : Part := { x with arms := [(0, some ⟨5, false, 0, 1, 0x40000000, 0, []⟩)] }

/-- CANCEL of counter 7 in a partition that takes work, while launch 5 of it runs as team 1 with the course of slot 16. -/
def counted : Case :=
  let s := sched [] false (fun t => { t with s := [(8, 7), (12, 1)] }) id
  let l : Launch := ⟨⟨0x1000, 0, 1, 1, 1, 1, 1, 8, 0, 0, false, false, 1, 0, 7⟩, 0, .device 1, 0, 1, [], false, false⟩
  ⟨{ (s.setTeam 1 (some { placedTeam false with launch := 5, courses := [16] })).setStream 16 { placedStream Lanes.all [] with team := 1, launch := 5 } with launches := [(5, some l)] },
    0xE5, w2 0 .none (.s 8) .none .none, fun c => free c && decide (c.part.migring = 0) && ownCnt c.s 0 7 && !(c.s.cnt 7).done && admits c.s 0
      && decide (c.s.eops = [] ∧ c.part.owner = []) && (c.s.launch? 5).any (fun l => inCounter c.s 7 l.desc.cnt) && (c.s.team? 1).isSome⟩

theorem test_meets_SchedulingInstructions :
    Met ([⟨sched launchDesc false id id, 0xE4, w2 0 .none (.s 8) .none (.disp 0), fun c => launchRead true c && settled0 c⟩,
        ⟨sched launchDesc false (fun t => { t with outst := 1 }) id, 0xE4, w2 0 .none (.s 8) .none (.disp 0), fun c => launchRead true c && decide (c.t.outst ≠ 0)⟩,
        ⟨sched [] false id id, 0xE4, w2 0 .none (.s 8) .none (.disp 0), launchRead false⟩,
        ⟨sched (launchDesc.take 5 ++ [(0x201E, 2), (0x2028, 7)]) false (fun t => { t with sys := false }) id, 0xE4, w2 0 .none (.s 8) .none (.disp 0), fun c => launchRead true c && !c.t.sys⟩]
      ++ [onNumber 7 0xE5 0 .none .none [] false id (fun x => { x with halted := true }) (fun c => ownCnt c.s 0 7 && !(c.s.cnt 7).done && !admits c.s 0
          && decide (c.s.eops = [] ∧ c.part.owner = [])), counted,
        onNumber 7 0xE5 0 .none .none [] true id id (fun c => ownCnt c.s 0 7 && (c.s.cnt 7).done),
        onNumber 4096 0xE5 0 .none .none [] false id id (fun c => decide (4096 ≤ (c.uni c.o.a).toNat)), onNumber 8 0xE5 0 .none .none [] false id id (fun c => !(c.s.cnt 8).v),
        onNumber 7 0xE6 0 (.s 4) .none [] false id id (fun c => ownCnt c.s 0 7), onNumber 4096 0xE6 0 (.s 4) .none [] false id id (fun c => !ownCnt c.s 0 4096)]
      ++ [⟨sched [] false id atTable, 0xE7, w2 3 (.s 4) (.s 8) .none (.disp 0), fun c => tabRead true true c && settled0 c && statusOk 0 c⟩,
        ⟨sched [(0x2018, 2)] false id atTable, 0xE7, w2 0 (.s 4) (.s 8) .none (.disp 0), fun c => tabRead true true c && settled0 c && statusOk 0 c⟩,
        ⟨sched [(0x201B, 0x20)] false id atTable, 0xE7, w2 0 (.s 4) (.s 8) .none (.disp 0), tabRead true false⟩,
        ⟨sched [] false id id, 0xE7, w2 0 (.s 4) (.s 8) .none (.disp 0), tabRead false true⟩,
        ⟨sched [] false (fun t => { t with outst := 1 }) atTable, 0xE7, w2 0 (.s 4) (.s 8) .none (.disp 0), fun c => tabRead true true c && decide (c.t.outst ≠ 0)⟩]
      ++ [onNumber 1 0xE8 0 .none (.s 12) (tabRecord 2 0x20) false id atTable (fun c => decide (tabState (tabBytes c.s 0 1) = 1 ∧ 1 ≤ tabJoin (tabBytes c.s 0 1)) && statusOk 1 c && settled0 c),
        onNumber 1 0xE8 1 .none (.s 12) (tabRecord 1 0x20) false id atTable (fun c => decide (tabState (tabBytes c.s 0 1) = 1 ∧ tabJoin (tabBytes c.s 0 1) = 1) && statusOk 1 c && settled0 c),
        onNumber 1 0xE8 0 .none (.s 12) (tabRecord 2 0x40) false id atTable (fun c => decide (tabState (tabBytes c.s 0 1) ≠ 1) && settled0 c),
        onNumber 1 0xE8 0 .none (.s 20) [] false id atTable (fun c => decide ((c.uni c.o.b).toNat = 0) && settled0 c),
        onNumber 4 0xE8 0 .none (.s 12) [] false id atTable (fun c => decide (c.part.tabn = (c.uni c.o.a).toNat)),
        onNumber 3 0xE8 0 .none (.s 12) [] false id (fun x => { x with tabbase := BitVec.ofNat 64 nowhere }) (fun c => decide ((c.uni c.o.a).toNat < c.part.tabn) && (tabFault c.s 0 3).isSome),
        onNumber 3 0xE8 0 .none (.s 12) [] false (fun t => { t with outst := 1 }) atTable (fun c => decide ((c.uni c.o.a).toNat < c.part.tabn ∧ c.t.outst ≠ 0))]
      ++ [plain 0xE9 (w2 0 (.s 4) .none .none .none), ⟨alone false (fun t => { t with tab := some 3 }), 0xE9, w2 0 (.s 4) .none .none .none, fun c => free c && decide (c.t.tab = some 3)⟩,
        ⟨{ sched [] false id id with mem := armRecord ++ cisternTable }, 0xEA, w2 0 .none (.s 8) .none (.disp 0), fun c => armRead true c && settled0 c⟩,
        ⟨{ sched [] false (fun t => { t with outst := 1 }) id with mem := armRecord ++ cisternTable }, 0xEA, w2 0 .none (.s 8) .none (.disp 0), fun c => armRead true c && decide (c.t.outst ≠ 0)⟩,
        ⟨sched armRecord false id id, 0xEA, w2 0 .none (.s 8) .none (.disp 0), armRead false⟩,
        onNumber 5 0xEB 0 .none .none [] false id armed (fun c => (armWith c.s 0 5).isSome), onNumber 6 0xEB 0 .none .none [] false id armed (fun c => (armWith c.s 0 6).isNone)]) :=
  met (by decide +kernel)

-- Host packets and the dispatcher

/-- Queue 2 of partition 0 runs with its ring at 0x2000, whose first packet is as given; the bytes after it are descriptors; counter 7 is allocated. -/
def ringed (b : List Byte) (done : Bool) (more : List Host.Cell) : State :=
  { (sched [] done id (fun x => { x with quads := 1 })).setQueue 2 ⟨0x2000, 4, 0, 0, 1, 0, true, 0, none, [], 0, true⟩ with mem := cells 0x2000 ([1, 0, 0, 0] ++ b) ++ more ++ table }
/-- The queue runs, and its packet is published and of the kind given, or with its error. -/
def packetReady (s : State) (k err : Nat) : Bool :=
  let h := s.queue 2
  h.en && islandUp s 20 && s.gated.isEmpty && (err ≠ 0 || ((laneKind s 2).isSome && decide (s.psteps = [] ∧ (stepOf s 2).head? = some 2)))
    && decide (h.st = 1 ∧ (s.part 0).wdreset = none ∧ (s.part 0).blocks = [] ∧ (s.part 0).migring = 0 ∧ s.ue = []) && match ringGet s 0 h.slot 64 1 with
    | .ok b => decide (leAt b 0 4 = (h.head + 1) % 2 ^ 32 ∧ packetKind b = some k ∧ packetError s 0 k b = err) && (access s (ringWho 0) Acc.write (h.ctl 8) 8 1).isOk
    | .error _ => false
/-- A counter may be decremented, without a parent. -/
def cntOpen (s : State) : Bool := decide ((s.cnt 7).done = false ∧ (s.cnt 7).pv = false)
/-- The bytes of two shapes of 16 words at 0x4000. -/
def twoShapes : List Host.Cell := cells 0x4000 (bytesOf (shapeWord 0x5000 0 1 16 0 0).toNat 64 ++ bytesOf (shapeWord 0x6000 0 1 16 0 0).toNat 64)
/-- An armed launch's record at 0x4000 with its buffer in the cistern. -/
def ringArm : List Host.Cell := [(0x4000, 5), (0x4003, 1), (0x4013, 0x40)]

/-- Queues 2 and 3 of one core both stand before a NOP, and their parse step has these lanes left. -/
def stepping (l : List Nat) : State :=
  let s := ringed [] false []
  { s.setQueue 3 (s.queue 2) with psteps := [(0, l)] }

theorem test_meets_HostPacketsRunInOrder_inAParseStep :
    (let s := stepping [3, 2]
     (laneKind s 2).isSome && decide (stepOf s 2 = [3, 2] ∧ (stepOf s 2).head? ≠ some 2 ∧ (stepOf s 3).head? = some 3)) = true ∧
    (let s := stepping [5]
     decide ((Tab.get [] s.psteps 0).filter (fun x => (laneKind s x).isSome) = []) && (laneKind s 2).isSome) = true := by decide +kernel

theorem test_meets_HostPacketsRunInOrder :
    packetReady (ringed [] false []) 0 0 = true ∧ packetReady (ringed [0, 0, 0, 0, 1] false []) 0 1 = true ∧
    (let s := ringed [1, 0, 0, 0, 0, 0x40] false (cells 0x4000 ([0, 0, 0, 0, 0, 0, 0, 0, 0, 0, 0, 0, 0, 0, 0, 0, 1, 0, 1, 0, 1, 0, 1, 0, 8] ++ List.replicate 15 0 ++ [7]))
     packetReady s 1 0 && match ringGet s 0 0x4000 64 64 with
       | .ok bs => descOk s 0 bs
       | .error _ => false) = true ∧
    packetReady (ringed [1, 0, 0, 0, 0, 0x40] false []) 1 0 = true ∧
    (let s := ringed [2, 0, 0, 0, 0, 0x40, 0, 0, 0, 0, 0, 0, 0x40, 0x40, 0, 0, 0, 0, 0, 0, 7] false twoShapes
     packetReady s 2 0 && decide (dieOps s (lowestDie (s.part 0)) < 1024) && match ringGet s 0 0x4000 64 1 with
       | .ok bs => shapeOk (BitVec.ofNat 512 (ofBytes bs))
       | .error _ => false) = true ∧
    packetReady (ringed [3, 0, 0, 0, 7, 0, 0, 0, 4] false []) 3 0 = true ∧
    (let s := ringed [3, 0, 0, 0, 7, 0, 1] false []
     packetReady s 4 0 && cntOpen s) = true ∧
    (let s := ringed [3, 0, 0, 0, 7, 0, 2] false []
     packetReady s 5 0 && cntOpen s) = true ∧
    (let s := ringed [4, 0, 0, 0, 7] true []
     packetReady s 6 0 && (s.cnt 7).done) = true ∧
    (let s := ringed [4, 0, 0, 0, 7] false []
     packetReady s 6 0 && !(s.cnt 7).done) = true ∧
    (let s := ringed [5, 0, 0, 0, 7] false []
     packetReady s 7 0 && decide (s.eops = [] ∧ (s.part 0).owner = [] ∧ s.launches = [])) = true ∧
    packetReady (ringed [4, 0, 0, 0, 8] false []) 6 3 = true ∧
    (let s := ringed [6, 0, 0, 0, 0, 0x40] false (ringArm ++ cisternTable)
     packetReady s 8 0 && match ringGet s 0 0x4000 64 64 with
       | .ok bs => armTakes s 0 bs
       | .error _ => false) = true ∧
    packetReady (ringed [6, 0, 0, 0, 0, 0, 0, 0, 0, 0, 0, 0, 1, 0, 5] false []) 9 0 = true ∧
    (match ringGet (ringed [7] false []) 0 0x2000 64 1 with
       | .ok b => (packetKind b).isNone
       | .error _ => false) = true := by decide +kernel

/-- A launch of one team of one course with 8 registers under counter 7, by progress class. -/
def launchOf (prog : Nat) (left : Nat) : Launch :=
  ⟨⟨0x1000, 0, left, 1, 1, 1, prog, 8, 0, 0, false, false, 1, 0, 7⟩, 0, .host 2, 0, 0, [], false, false⟩
/-- The package with launch 5 alone, partition 0 owning quadrant 0. -/
def launched (l : Launch) (f : State → State) : State :=
  f { (State.reset.setPart 0 { State.reset.part 0 with quads := 1, tabbase := 0x3000, tabn := 4, tabcfg := 0x801 }).setCnt 7 ⟨true, false, false, 0, 0, false, 0, 0, 1⟩ with
    launches := [(5, some l)], mem := table }
/-- Its queue runs. -/
def served (s : State) : State := s.setQueue 2 ⟨0x2000, 4, 0, 0, 1, 0, true, 0, none, [], 0, true⟩
/-- A team of that launch with one course in stream 0, and another. -/
def resident (prog : Nat) : State := launched { launchOf prog 2 with running := 2, next := 2 } (fun s =>
  (((s.setStream 0 { placedStream Lanes.all (placedWords 32 0) with team := 1, launch := 5 }).setTeam 1 (some { placedTeam false with launch := 5 })).setStream 16
    { placedStream Lanes.all (placedWords 32 0) with team := 2, launch := 5 }).setTeam 2 (some { placedTeam false with launch := 5, courses := [16] }))
/-- Team 1 is displaced. -/
def moved : State :=
  let t : Team := { placedTeam false with launch := 5, courses := [], displaced := some ⟨[{ placedStream Lanes.all (placedWords 32 0) with team := 1, launch := 5 }], none, []⟩ }
  let s := (resident 2).setTeam 1 (some t)
  { s with streams := Tab.set none s.streams 0 none }
/-- Tab 0 is ready, its record in the table, with no inputs or with tile 9 not resident. -/
def tabReady (ins : List Host.Cell) : State := launched (launchOf 1 0) (fun s =>
  { s.setPart 0 { s.part 0 with ptroot := 0x40000000, ready := [(0, [0])], owner := [(0, 8)] } with mem := ins ++ table, launches := [] })
/-- A message for arm 5 of the package. -/
def messageFor (tag : Nat) : Packet := arrival 7 0 tag 0 (List.replicate 384 1)
/-- The package with an arm of tag 5, its buffer at 0x6000 and its descriptor at 0x8000. -/
def waitingArm : State :=
  let s := { sched [] false id id with mem := cells 0x8000 ([0, 0, 0, 0, 0, 0, 0, 0, 0, 0, 0, 0, 0, 0, 0, 0, 1, 0, 1, 0, 1, 0, 1, 0, 8] ++ List.replicate 15 0 ++ [7]) ++ table }
  inDomain (s.setPart 0 { s.part 0 with arms := [(0, some ⟨5, false, 0, 1, 0x8000, 0x6000, []⟩)] })

theorem test_meets_DispatcherStartsAndEndsLaunches :
    (let s := launched (launchOf 0 1) served
     admits s 0 && isHead s 5 (launchOf 0 1) && mayServe s 2 && !chainCan s 7 && decide ((launchOf 0 1).left = 1) && (launchOf 0 1).fresh
       && decide (placeAll (freeNow s (clustersOf s 0)) (launchOf 0 1) = some [⟨0, [0], 0⟩]) && (placeAll (freeAll (clustersOf s 0)) (launchOf 0 1)).isSome
       && (s.stream? 0).isNone && !slotHeld s 0) = true ∧
    (let s := launched (launchOf 1 1) served
     admits s 0 && isHead s 5 (launchOf 1 1) && mayServe s 2 && decide (batchOn s (launchOf 1 1) 0 = [⟨0, [0], 0⟩])) = true ∧
    (let s := launched (launchOf 0 1) (fun s => { served s with aging := [(3, 4096)], raised := [] })
     admits s 0 && isHead s 5 (launchOf 0 1) && agingDue { s with queues := [(3, { s.queue 2 with pri := 1 })] } 3) = true ∧
    (let s := tabReady []
     admits s 0 && decide (frontTab s 0 0 = some 0 ∧ frontTab s 0 1 = none) && tabResident s 0 0 && !chainCan s (tabOwner s 0 0) && mayServe s 160 && (tabSpot s 0 0 0).isSome
       && decide (s.ue = []) && (access s (ringWho 0) tabAcc (tabAddr s 0 0) 32 1).isOk) = true ∧
    (let s := tabReady [(0x3010, 9), (0x301F, 0x10)]
     admits s 0 && decide (frontTab s 0 0 = some 0) && !tabResident s 0 0) = true ∧
    (let s := resident 2
     admits s 0 && movable s 1 [0] && ((s.team? 1).map (fun t => decide (t.courses = [0]) && t.displaced.isNone && !t.seq)) == some true
       && ((s.team? 2).map (fun t => decide (t.courses = [16] ∧ t.launch = 5))) == some true && decide ((s.launch? 5).map (fun l => l.desc.prog) = some 2)) = true ∧
    (let s := moved
     admits s 0 && ((s.team? 1).map (fun t => t.displaced.isSome && decide (t.wsize = 0))) == some true
       && decide ((placeOne (freeNow s ((clustersOf s 0).filter (fun c => dieOf c = 0))) ⟨1, 168, false, 0⟩).map (fun x => x.1.cores) = some [0])) = true ∧
    (let s := launched { launchOf 1 0 with next := 0 } id
     launchQuiet s 5 0 && cntOpen s && decide ({ launchOf 1 0 with next := 0 }.left = 0)) = true ∧
    (let s := launched { launchOf 1 1 with cancelled := true } id
     launchQuiet s 5 0 && cntOpen s) = true ∧
    (let s := waitingArm
     decide (targetPart s 5 = some 0 ∧ (s.part 0).blocks = [] ∧ (s.part 0).migring = 0 ∧ s.ue = []) && (armWith s 0 5).isSome && (armWith s 0 6).isNone
       && (access s (ringWho 0) Acc.write 0x6000 384 1).isOk && (access s (ringWho 0) Acc.read 0x8000 64 64).isOk && descOk s 0 (readVa s (ringWho 0) Acc.read 0x8000 64)
       && !loopReady s (messageFor 5) && !mustWait s (messageFor 5)) = true := by decide +kernel

-- Traps, handlers and stops

/-- The package after course 0 has taken a trap. -/
def trapped : State := takeTrap course 0 0 0x3E 0 7
/-- A course that handles an event of its own path, which stands at 0x1008, or of no instruction. -/
def handling (who : Option (Nat × Nat)) (pc : Addr) (f : Stream → Stream) : State :=
  alone false (fun t => f { t with hnd := some ⟨⟨t.p0, none, [], [], [], []⟩, [], [], 0, 0, pc, who, none⟩ })
/-- The course handles an event, with nothing outstanding. -/
def inHandler (c : Ctx) : Bool := free c && c.t.hnd.isSome && !handlerLoadsOut c.s c.sid && decide (c.t.outst = 0)
/-- What a handler that ends saved: course 0's path as it was placed, changed by f, an event of it at pc, or a late one of the path and header given. -/
def saved (f : Path → Path) (who : Option (Nat × Nat)) (pc : Addr) (back : Option (Nat × Addr)) : Saved :=
  ⟨⟨(placedStream Lanes.all (placedWords 32 0)).p0.map f, none, [], [], [], []⟩, [], [], 0, 0, pc, who, back⟩
/-- The path it restores, and what a clause asks of it. -/
def savedPath (h : Saved) (P : Path → Bool) : Bool := h.ctl.p0.any P
/-- A block opens at an address for course 0. -/
def opensTo' (s : State) (va : Addr) : Bool := (openBlock s asker true 168 0x05 va).isOk
/-- The first event of partition 0, with its stream, meets P. -/
def eventIs (s : State) (P : Event → Stream → Bool) : Bool :=
  ((nextEvent (s.part 0)).bind (fun e => e.sid.bind (fun c => (s.stream? c).map (fun t => P e t)))) == some true
/-- Course 0 has trapped where the page table maps a header of length 3 at TVEC, and live lanes are as given. -/
def vectored (live : Lanes) : State :=
  let s := { mapped false (fun t => { t with live := live }) with mem := cells 0x1010 (bytesOf 0xC0300000 4) ++ table }
  takeTrap (s.setPart 0 { s.part 0 with tvec := 0x1010 }) 0 0 0x3E 0 7

theorem test_meets_TrapIsTakenByArbiter :
    Met [plain 0xF0 (w2 0 .none (.s 8) .none .none), plainSeq 0xF0 (w1 .none (.s 8) .none), plain 0xF2 (w1 .none .none .none), plain 0xF5 (w2 0 .none (.s 8) .none .none)] ∧
    (let q (s : State) (sid : Nat) (P : Stream → Bool) : Bool := ((s.stream? sid).map (fun t => (t.path? 0).isSome && (s.part t.part).wdreset.isNone && P t)) == some true
     q course 0 (fun t => t.hnd.isNone && !t.inTry) && q sequencer seqBase (fun t => t.hnd.isNone) && q (handling none 0 id) 0 (fun t => t.hnd.isSome)
       && q (inTry 1 id) 0 (fun t => t.hnd.isNone && t.inTry)) = true ∧ seqBase + 191 < 12480 := ⟨met (by decide +kernel), by decide +kernel, by decide +kernel⟩

theorem test_meets_HandlersStartAndReturn :
    Met [plain 0xF1 (w1 .none .none .none), ⟨handling none 0 (fun t => { t with outst := 1 }), 0xF1, w2 0 .none .none .none .none, fun c => free c && c.t.hnd.isSome && decide (c.t.outst ≠ 0)⟩,
      ⟨handling none 0 id, 0xF1, w2 1 .none .none .none .none, inHandler⟩, ⟨handling (some (0, 0)) 0x1008 id, 0xF1, w2 1 .none .none .none .none, fun c => inHandler c
        && decide ((c.p.rest.headD 0).extractLsb' 30 2 ≠ 3)⟩, ⟨handling (some (0, 0)) 0x2000 id, 0xF1, w2 1 .none .none .none .none, inHandler⟩,
      ⟨handling none 0 id, 0xF1, w2 2 .none .none .none .none, inHandler⟩, ⟨handling none 0 id, 0xF1, w2 3 .none .none .none .none, inHandler⟩] ∧
    (let x := trapped.part 0
     x.halted && !x.perm && x.handler.isNone && decide (x.pre = 0) && allStopped trapped 0 && ((nextEvent x).map (fun e => decide (e.sid = some 0 ∧ e.who = some (0, 0)))) == some true
       && (nextEvent (course.part 0)).isNone) = true ∧
    (let s := takeTrap sequencer seqBase 0 0x3E 0 7
     allStopped s 0 && ((nextEvent (s.part 0)).map (fun e => e.sid)) == some none) = true ∧
    ((openBlock trapped ⟨0, 0, 0, 0⟩ true 168 0x05 (trapped.part 0).tvec).isOk = false) := ⟨met (by decide +kernel), by decide +kernel, by decide +kernel, by decide +kernel⟩

theorem test_meets_HandlersStartAndReturn_entry :
    (let s := vectored Lanes.all
     (s.part 0).wdreset.isNone && allStopped s 0 && eventIs s (fun e t => !e.bySeq && decide (t.live ≠ 0 ∧ e.em &&& ~~~t.live = 0)
       && (match openBlock (stageRecord s 0 e) (whoOf (stageRecord s 0 e) t 0) true t.alloc 0x05 (s.part 0).tvec with
         | .ok _ => true
         | .error _ => false))) = true ∧
    eventIs (vectored 0) (fun _ t => decide (t.live = 0)) = true ∧
    (let s := takeTrap (handling none 0 (fun t => { t with hnd := none })) 0 0 0x3E 0 7
     ((nextEvent ({ s with streams := [] }.part 0)).bind (fun e => e.sid)) == some 0 && (({ s with streams := [] } : State).stream? 0).isNone) = true ∧
    (let s := (vectored Lanes.all).setPart 0 { (vectored Lanes.all).part 0 with tvec := 0x1020 }
     eventIs s (fun e t => match openBlock (stageRecord s 0 e) (whoOf (stageRecord s 0 e) t 0) true t.alloc 0x05 (s.part 0).tvec with
       | .ok _ => false
       | .error x => decide (x = 0x05))) = true := by decide +kernel

theorem test_meets_HandlersStartAndReturn_resume :
    savedPath (saved id (some (0, 0)) 0x2000 none) (fun q => q.pc ≠ 0x2000) = true ∧
    savedPath (saved (fun p => { p with pc := 0x2000, entry := true }) (some (0, 0)) 0x2000 none) (fun q => decide (q.pc = 0x2000) && q.entry) = true ∧
    savedPath (saved id (some (0, 0)) 0x1008 none) (fun q => decide (q.pc = 0x1008 ∧ q.blk ≠ []) && !q.entry && decide ((nth 0 q.rest 0).extractLsb' 30 2 ≠ 3)) = true ∧
    (let h := saved id none 0x1008 (some (0, 0x1000))
     decide (h.idx = 0 ∧ h.who = none) && course.stream? 0 != none && savedPath h (fun q => decide (q.id = 0 ∧ q.hdr = 0x1000))) = true ∧
    (let h := saved id none 0x1014 (some (0, 0x1010))
     decide (h.idx = 0 ∧ h.who = none) && savedPath h (fun q => decide (q.id = 0 ∧ q.hdr ≠ 0x1010)) && opensTo' (vectored Lanes.all) 0x1010) = true ∧
    (let s := outstanding .load (pieceOf (.read 4) (.v 90 0 0)) false []
     let s := { s with ott := [(entKey 0 3, some { entryOf .load (pieceOf (.read 4) (.v 90 0 0)) with inHnd := true })] }
     handlerLoadsOut s 0) = true := by decide +kernel

/-- Course 0 in a partition that halts for another stream's trap, that is pre-empted, or that a watchdog resets. -/
def halting (f : Part → Part) (g : Stream → Stream) : State :=
  let s := alone false g
  s.setPart 0 (f { s.part 0 with quads := 1 })
/-- What stops a party. -/
def partyReady (s : State) (P : Part → Stream → Bool) : Bool := ((s.stream? 0).map (fun t => P (s.part t.part) t)) == some true
/-- The partition is halted, pre-empted, or reset. -/
def halted (x : Part) : Part := { x with halted := true }
def preempted (x : Part) : Part := { x with pre := 1 }
/-- All has stopped in it. -/
def still (t : Stream) : Stream := { t with stopped := true }

theorem test_meets_StopsPreemptionAndWatchdog :
    (partyReady (halting id id) (fun x t => !x.halted && decide (x.pre = 0) && !t.stopped) && partyReady (halting preempted id) (fun x t => decide (x.pre = 1) && !x.halted && !t.stopped)
      && partyReady (halting halted id) (fun x t => x.halted && !t.stopped && x.wdreset.isNone && t.hnd.isNone && !x.stoppedAt.contains 0 && t.p0.isSome)
      && partyReady (halting (fun x => { x with halted := true, stoppedAt := [0] }) id) (fun x t => x.halted && !t.stopped && x.stoppedAt.contains 0)) = true ∧
    (let s := running (tiled (fun c => { c with cq := [⟨.szero, 0, 0, 0, false, 0, [], []⟩] }))
     let s := s.setPart 0 { s.part 0 with halted := true }
     decide (ownerOf s 0 = some 0 ∧ (s.cluster 0).stopped = false ∧ (s.part 0).wdreset = none) && (s.cluster 0).cq.all (fun h => !h.begun)) = true ∧
    (let s := engined (.copy 0 none) (shapeAt 2) (shapeAt 2) (shapeAt 4) 2 false
     let s := s.setPart 0 { s.part 0 with halted := true }
     decide (s.eops.map (fun e => e.2.map (fun x => (eopIndex e.1 x, x.stopped, x.done, x.started))) = [some (12480, false, false, false)])) = true ∧
    (let s := halting preempted still
     decide ((s.part 0).pre = 1) && unitsStopped s 0 && !requestsOut s 0 && (eopsOf s 0).all (fun e => !e.2.started)) = true ∧
    (let s := (ringed [] false []).setQueue 2 ⟨0x2000, 4, 0, 0, 1, 0, true, 1, none, [7], 1, true⟩
     (s.queue 2).busy && decide ((s.queue 2).timer ≠ 0 ∧ (s.part 0).wdreset = none) && decide ((s.queue 2).timer ≤ { s with clock := 1 }.clock)) = true ∧
    (let s := (headed (drain1 none (some 16)) (fun x => { x with begun := true, qpush := [[1], [2]] }) (fun c => { c with hq := [(16, List.replicate 4 entry96)] }))
     let s := s.setPart 0 { s.part 0 with halted := true }
     decide (ownerOf s 0 = some 0 ∧ (s.cluster 0).stopped = false ∧ (s.part 0).wdreset = none) && (s.cluster 0).cq.all (fun h => h.begun && drainWaits (s.cluster 0) h)) = true ∧
    (let s := (headed (drain1 none (some 16)) (fun x => { x with begun := true, qpush := [[1], [2]] }) id)
     (s.cluster 0).cq.all (fun h => h.begun && !drainWaits (s.cluster 0) h)) = true ∧
    (let s := engined (.copy 0 none) (shapeAt 2) (shapeAt 2) (shapeAt 4) 2 false
     let s := s.setPart 0 { s.part 0 with halted := true }
     s.eops.all (fun e => e.2.any (fun x => !x.atUnit)) && (({ engineOp (.copy 0 none) (shapeAt 2) (shapeAt 2) (shapeAt 4) 2 false with atUnit := true } : EngOp).atUnit)) = true ∧
    (let s := halting halted id
     let s := s.setPart 0 { s.part 0 with snap := { (s.part 0).snap with st := 1, left := [(0, 0)] } }
     decide ((s.part 0).halted = true ∧ (s.part 0).wdreset = none ∧ (s.part 0).snap.st = 1 ∧ (s.part 0).snap.left ≠ [])) = true ∧
    (let s := halting preempted still
     !drainsOut s 0 && !persistsOut s 0 && !tilesOut s 0 && requestsOut { s with ott := [(entKey 0 3, some (entryOf .load (pieceOf (.read 4) (.v 2 0 0))))] } 0) = true ∧
    (partyReady (halting halted (onPath (fun q => { q with held := true }))) (fun x t => x.halted && !t.stopped && t.p0.any (fun q => q.held))) = true ∧
    (let x := { course.part 0 with awd := 1, awopen := [7] }
     decide (x.awd ≠ 0 ∧ x.awopen ≠ [] ∧ x.wdreset = none)) = true ∧
    (let s := halting (fun x => { x with wdreset := some 2 }) still
     decide ((s.part 0).wdreset = some 2) && unitsStopped s 0 && (eopsOf s 0).all (fun e => !e.2.started)) = true ∧ (State.reset.cluster 191).fenced = false := by
  decide +kernel

theorem test_meets_StopsPreemptionAndWatchdog_boundaries :
    (partyReady (halting (fun x => { x with halted := true, stoppedAt := [0] }) still) (fun x t => t.stopped && x.stoppedAt.contains 0)
      && partyReady (halting preempted id) (fun x t => decide (x.pre = 1) && !x.halted && !t.stopped && !x.stoppedAt.contains 0)
      && partyReady (halting (fun x => { x with pre := 1, stoppedAt := [0] }) id) (fun x t => decide (x.pre = 1) && !x.halted && !t.stopped && x.stoppedAt.contains 0)) = true ∧
    (let s := halting (fun x => { x with halted := true, owing := [(12480, 0x1000), (12563, 0x1000)] }) id
     decide (s.eops = [] ∧ (12480, 0x1000) ∈ (s.part 0).owing ∧ (12563, 0x1000) ∈ (s.part 0).owing ∧ (s.part 0).halted = true ∧ (s.part 0).wdreset = none)) = true ∧
    (let x := engineOp (.copy 0 none) (shapeAt 2) (shapeAt 2) (shapeAt 4) 2 false
     decide (eopIndex 0 { x with started := true } = 12480 ∧ ({ x with started := true } : EngOp).stopped = false)
       && decide (({ x with atUnit := false, done := true } : EngOp).done = true ∧ ({ x with atUnit := false } : EngOp).done = false)) = true ∧
    (let s := (ringed [] false []).setPart 0 { (ringed [] false []).part 0 with wdreset := some 2, quads := 1 }
     let s := { s with streams := (halting halted still).streams }
     decide ((s.part 0).wdreset = some 2 ∧ (s.queue 2).part = 0 ∧ (s.queue 2).en = true ∧ (s.cnt 7).v = true ∧ (s.cnt 7).part = 0 ∧ (s.cnt 7).done = false) && unitsStopped s 0
       && partyReady s (fun _ t => t.p0.isSome)) = true ∧
    (let s := { (ringed [] true []).setPart 0 { (ringed [] true []).part 0 with wdreset := some 0x100, quads := 1 } with streams := [] }
     decide ((s.part 0).wdreset = some 0x100 ∧ (s.queue 2).en = true ∧ (s.cnt 7).done = true) && unitsStopped s 0) = true := by decide +kernel

-- The host and the package

/-- The package after reset with one command in slot 0 of the management ring. -/
def commanded (b : List Byte) : State := { State.reset with bar0 := cells 0x10000 b, mrtail := 1, mem := table }
/-- A command: its code, SUB, IDX and ARG0. -/
def cmd (code sub idx arg : Byte) (more : List Byte) : List Byte := [code, 0, sub, 0, idx, 0, 0, 0] ++ bytesOf arg.toNat 2 ++ more
/-- The kernel serves that command, and it is of the kind given, with the fields it may use. -/
def cmdReady (k : Nat) (clean : Bool) (b : List Byte) : Bool :=
  let s := commanded b
  s.up && decide (s.mrhead < s.mrtail ∧ s.nvme = [] ∧ commandKind s.command = some k) && commandClean k s.command == clean && !hasWork s 0

theorem test_meets_ManagementCommandsExecuteInOrder :
    ((List.range 11).all (fun k => cmdReady k true (cmd 1 0 (BitVec.ofNat 8 k) 0 [])) && (List.range 3).all (fun k => cmdReady (11 + k) true (cmd 2 0 (BitVec.ofNat 8 k) 31 []))
      && cmdReady 14 true (cmd 3 0 127 1 [0x40, 0, 0, 0, 0, 0, 0, 0x20]) && cmdReady 15 true (cmd 4 0 9 2 []) && cmdReady 16 true (cmd 4 1 9 2 []) && cmdReady 17 true (cmd 5 0 255 0 [])
      && cmdReady 18 true (cmd 6 0 9 0 []) && cmdReady 19 true (cmd 7 0 0 0 []) && cmdReady 20 true (cmd 7 1 0 0 []) && cmdReady 21 true (cmd 7 2 0 0 []) && cmdReady 22 true (cmd 8 0 0 5 [])
      && cmdReady 23 true (cmd 9 0 1 0 []) && cmdReady 24 true (cmd 10 0 0 0 []) && cmdReady 25 true (cmd 11 0 0 0 []) && cmdReady 26 true (cmd 12 1 0 0 []) && cmdReady 27 true (cmd 12 0 0 0 [])
      && cmdReady 19 false (cmd 7 0 0 1 [])) = true ∧
    (commandKind (commanded (cmd 1 0 11 0 [])).command = none) ∧ commandKind (commanded (cmd 13 0 0 0 [])).command = none ∧
    (let s := { commanded (cmd 1 0 0 1 []) with streams := course.streams }
     hasWork s 0 && decide ((s.part 1).quads = 0)) = true ∧
    (let s := (commanded (cmd 4 1 7 1 [])).setCnt 7 ⟨true, true, false, 0, 0, false, 0, 0, 0⟩
     ownCnt s 0 7 && (s.cnt 7).done) = true ∧
    (let b := cells 0x2000 ([0, 0, 2, 0, 1] ++ List.replicate 13 0 ++ [1])
     let s := { commanded (cmd 6 0 9 0 []) with mem := b }
     decide (leAt (s.readMem 0x2000 16) 2 2 = 2 ∧ leAt (s.readMem 0x2000 64) 18 2 = 1)) = true ∧
    (let x := { State.reset.part 0 with mboxst := 2 }
     x.mboxst.getLsbD 1) = true ∧
    (let s := { commanded (cmd 10 0 0 0 []) with huok := true }
     islandUp s 22 && decide (s.huok = true ∧ s.pq.length < pqSize) && !islandUp { s with gated := [22] } 22 && ({ s with gated := [22] } : State).up) = true := by decide +kernel

/-- A command with its second argument. -/
def cmd2 (code idx : Byte) (v w : Nat) : List Byte := [code, 0, 0, 0, idx, 0, 0, 0] ++ bytesOf v 8 ++ bytesOf w 8
/-- Queue 2 belongs to partition p, which has quadrants, and is as f makes it; one command waits. -/
def queueOf (b : List Byte) (p : Nat) (f : HQ → HQ) : State :=
  let s := commanded b
  let s := s.setPart p { s.part p with quads := 1, ptroot := 0x40000000 }
  s.setQueue 2 (f ⟨0x2000, 4, 0, p, 1, 0, false, 0, none, [], 0, true⟩)
/-- What QUEUE_CFG asks of queue 2 for partition 0. -/
def queueAsked (s : State) : HQ :=
  let v := cmdArg0 s.command
  { s.queue 2 with ring := BitVec.ofNat 64 (cmdArg1 s.command), log2 := bits v 12 4, pri := bits v 10 2, part := bits v 7 3, owned := true }

theorem test_meets_ManagementCommandsExecuteInOrder_queuesAndCounters :
    (let s := queueOf (cmd2 3 2 0x4001 0x2000) 1 id
     commandKind s.command = some 14 ∧ (s.queue 2).owned = true ∧ (s.part (s.queue 2).part).quads ≠ 0 ∧ (s.queue 2).part ≠ (queueAsked s).part) ∧
    (let s := queueOf (cmd2 3 2 0x4000 0x3000) 0 (fun h => { h with en := true })
     commandKind s.command = some 14 ∧ (s.queue 2).en = true ∧ queueAsked s ≠ s.queue 2 ∧ (s.queue 2).part = (queueAsked s).part) ∧
    (let s := queueOf (cmd2 3 2 0x4000 0x2000) 0 (fun h => { h with en := true, open_ := [7] })
     queueAsked s = s.queue 2 ∧ cmdArg0 s.command % 2 = 0 ∧ (s.queue 2).open_ ≠ []) ∧
    (let s := queueOf (cmd2 3 2 0x4000 0x2000) 0 id
     cmdArg0 s.command % 2 = 0 ∧ (s.queue 2).open_ = [] ∧ (s.queue 2).en = false) ∧
    (let s := queueOf (cmd2 3 2 0x4001 0x2000) 0 id
     let n := queueAsked s
     (decide (cmdArg0 s.command % 2 = 1 ∧ 2 ≤ n.log2 ∧ n.ring.toNat % 64 = 0 ∧ (s.part 0).blocks = [] ∧ (s.part 0).migring = 0 ∧ s.ue = []) && (ringGet s 0 (n.ctl 8) 8 1).isOk
       && (access s (ringWho 0) Acc.write (n.ctl 16) 16 1).isOk) = true) ∧
    (let s := commanded ([4, 0, 0, 0, 0xFF, 0x0F, 0, 0, 1])
     commandKind s.command = some 15 ∧ cmdIdx s.command = 4095 ∧ cmdIdx s.command + cmdArg0 s.command ≤ 4096) ∧
    (let s := commanded ([4, 0, 0, 0, 0, 0x10, 0, 0, 0])
     commandKind s.command = some 15 ∧ cmdIdx s.command = 4096) ∧
    (let s := (commanded (cmd 4 1 7 1 [])).setCnt 7 ⟨true, true, false, 1, 0, false, 0, 0, 0⟩
     (s.cnt 7).v = true ∧ (s.cnt 7).part ≠ 0) ∧
    (let s := (commanded (cmd 4 1 7 1 [])).setCnt 7 ⟨true, false, false, 0, 0, false, 0, 0, 1⟩
     (s.cnt 7).done = false ∧ (s.cnt 7).part = 0) := by decide +kernel

theorem test_meets_ManagementCommandsExecuteInOrder_other :
    (let s := { commanded (cmd2 6 9 0x2000 0) with mem := cells 0x2000 ([0, 0, 2, 0, 1] ++ List.replicate 13 0 ++ [1]) }
     let s := s.setPart 0 { s.part 0 with domctl := 2 ^ 32 }
     let bs := s.readMem 0x2000 64
     commandKind s.command = some 18 ∧ commandClean 18 s.command = true ∧ s.gated = [] ∧ leAt bs 0 2 = (s.part 0).djob ∧ leAt bs 2 2 = 2 ∧ leAt bs 4 1 = 1 ∧ leAt bs 5 1 = 0 ∧
       leAt bs 8 8 = 0 ∧ leAt bs 20 44 = 0 ∧ (∀ m ∈ [leAt bs 16 2, leAt bs 18 2], m ≤ Part.dlast (s.part 0) ∧ m ∉ s.absent) ∧ 1 ∈ { s with absent := [1] }.absent) ∧
    (let s := (commanded (cmd 7 1 0 0 [])).setPart 0 { State.reset.part 0 with pre := 2, quads := 1 }
     let s := { s with streams := (halting preempted still).streams }
     commandKind s.command = some 20 ∧ (s.part 0).pre ≠ 0 ∧ (s.part 0).halted = false ∧ partyReady s (fun _ t => decide (t.live ≠ 0) && !t.ended) = true) ∧
    (let s := (commanded (cmd 9 0 1 0 [])).setPart 0 { State.reset.part 0 with nvmeports := 2 }
     homesUp s 0 64 = true ∧ (s.part 0).nvmeports.testBit 1 = true ∧ homesUp { s with gated := [16, 17, 18, 19] } 0 64 = false ∧ { s with gated := [16, 17, 18, 19] }.up = true) ∧
    (let s := { commanded (cmd2 10 0 0x2000 0x3000 ++ bytesOf 0x4000 8) with huok := true }
     s.gated = [] ∧ s.huok = true ∧ s.pq.length < pqSize ∧ cmdArg2 s.command = 0x4000 ∧ 32 + 68 + 32 * s.images.length + 4 + 192 + 1 + 4 + 32 * (1 + 67 + 20) ≤ 0x4000) ∧
    (let s := { State.reset with agenda := [.group 9 (some ⟨0, [1, 2], 1, 0⟩)] }
     s.up = true ∧ (∀ m ∈ [1, 2], m ∉ s.absent) ∧ [1, 2].Nodup ∧ 2 ∈ { s with absent := [2] }.absent) := by decide +kernel

theorem test_meets_HostAndPowerEventsTakeEffect_hostAccesses :
    islandUp State.reset 21 = true ∧ islandUp { State.reset with gated := [21] } 21 = false ∧ 65536 * (12582911 + 1) = 0xC000000000 ∧ (∃ g ∈ { State.reset with ue := [256] }.ue, g / 256 = 1) ∧
    (let s := { State.reset with nvme := [⟨1, 0, 0, []⟩], grants := [(0, 1)] }
     s.up = true ∧ s.gated = [] ∧ (0, 0x1FFFF / 65536) ∈ s.grants ∧ (0, 0x20000 / 65536) ∉ s.grants) ∧
    homesUp State.reset 0xBFFFFFFFFF 1 = true ∧ homesUp { State.reset with gated := [16, 17, 18, 19] } 0 256 = false ∧ { State.reset with gated := [16, 17, 18, 19] }.up = true ∧
    (State.reset.up = true ∧ homesUp State.reset 0xBFFFFFFFF8 8 = true) := by decide +kernel

/-- Boot stands at a step. -/
def booting (n : Nat) : State := { State.reset with booted := false, bstat := n, gated := List.range 23 }

theorem test_meets_HostAndPowerEventsTakeEffect_bootAndPower :
    (let s := booting 1
     s.power = true ∧ s.booted = false ∧ s.bstat = 1 ∧ s.flash[0]?.map (fun y => decide (y.sigOk = true ∧ y.key = s.fuseKey ∧ s.fuseVer ≤ y.version)) = some true ∧
       { s with fuseVer := 1 }.flash[0]?.map (fun y => decide ({ s with fuseVer := 1 }.fuseVer ≤ y.version)) = some false) ∧
    ((booting 5).bstat = 5 ∧ 3 ≤ (booting 3).bstat) ∧
    (let s := booting 3
     upOrder[1]? = some 20 ∧ 20 ∈ s.gated ∧ 23 ∉ s.gated ∧ { s with gated := [] }.gated = [] ∧ upOrder[23]? = some 15 ∧ (∀ n ∈ upOrder, n ∉ { s with gated := [] }.gated)) ∧
    ((booting 4).bstat = 4 ∧ (∃ c ∈ [3, 500], c < 192 ∧ ((booting 4).cluster c).fenced = false)) ∧
    (let s := { State.reset with agenda := [.island 0 false], pq := [pent 1] }
     s.power = true ∧ s.booted = true ∧ 0 ∉ s.gated ∧ (∀ p < 8, (s.part p).quads.getLsbD 0 = false) ∧ s.pq ≠ []) ∧
    (let s := { State.reset with agenda := [.island 22 true], gated := [22] }
     s.power = true ∧ s.booted = true ∧ 22 ∈ s.gated) ∧
    ({ State.reset with evst := .req, clock := 30 * 800000000 }.evStart + 30 * 800000000 ≤ { State.reset with evst := .req, clock := 30 * 800000000 }.clock) ∧
    (let s := { State.reset with evst := .drain }
     s.evst = .drain ∧ (∀ p < 8, (s.part p).quads = 0) ∧ s.routes = true) ∧
    (let s := { State.reset with evst := .drain, routes := false }
     s.pq = [] ∧ s.pwait = [] ∧ s.fout = [] ∧ s.fin = [] ∧ upOrder[23]? = some 15 ∧ 15 ∉ s.gated ∧ ∀ n ∈ upOrder, n ≠ 23 → n ∈ { s with gated := List.range 23 }.gated) := by
  decide +kernel

theorem test_meets_HostAndPowerEventsTakeEffect :
    State.reset.up = true ∧ ([(0x10000, 1), (0x13FFF, 2)] : List (Nat × Byte)).map (fun e => e.1) = [0x10000, 0x13FFF] ∧ (0x10000 ≤ 0x13FFF ∧ 0x13FFF < 0x14000) ∧
    (let s := { State.reset with nvme := [⟨1, 0, 0, []⟩] }
     s.up && decide (s.nvme ≠ [])) = true ∧ (8 % 8 = 0 ∧ 0xBFFFFFFFF8 + 8 ≤ 0xC000000000) ∧ State.reset.ue = [] ∧ ({ State.reset with power := false } : State).power = false ∧
    State.reset.evst = .run ∧ State.reset.power = true ∧ State.reset.gated = [] := by
  decide +kernel

theorem test_meets_EveryStepKeepsMemoryCanonical :
    State.reset.memWf = true ∧ paged.memWf = true ∧ ∃ s', step { State.reset with agenda := [.tick 3] } = .next s' := ⟨by decide +kernel, by decide +kernel, _, rfl⟩

-- Encoding, fetch and issue

/-- The words decode to something. -/
def decodes (u : IssueUnit) (ws : List Word) : Bool := (Decode.coded u ws).isOk
/-- A refusal by name. -/
def refuses (u : IssueUnit) (ws : List Word) (e : DecodeErr) : Bool := match Decode.coded u ws with
  | .error x => decide (x = e)
  | .ok _ => false

theorem test_meets_EncodedInstructionDecodesToItself :
    WellFormed.instr .course (.iadd ⟨3, 7, .v 255, .v 0, .lit 0xFFFFFFFF, .none, 0⟩) = true ∧ WellFormed.instr .seq (.cycle32 ⟨1, 3, .s 62, .none, .none, .none, 0⟩) = true ∧
    WellFormed.instr .seq (.mma ⟨2, 0, .f 15, .f 15, .f 0, .s 62, 1⟩) = true := by decide +kernel

theorem test_meets_DecodedAndUndecodableWords :
    (decodes .course [0x4B000800, 0x42000020] && decide ((issuePt 0x2C).isSome)) = true ∧
    (refuses .course [0xC0300000] .header && refuses .course [0x4B000800] .truncated && refuses .course [0x6C000000, 0] .wrongUnit && refuses .seq [0x4C000000, 0] .wrongUnit) = true ∧
    (issuePt 0x18).isNone = true ∧ decodes .course [0x46000000, 0] = true := by decide +kernel

/-- The package whose next move is the turn of the placed instruction of a word list. -/
def turnOf (ws : List Word) : State := { alone false (onPath (fun p => { p with blk := [0xC0600000, 0] ++ ws })) with agenda := [.run 0 0] }
/-- That move is the path's, which stands inside its block. -/
def turnReady (s : State) : Bool := match s.stream? 0 with
  | some t => match t.path? 0 with
    | some p => (preIssue { begin_ s with cur := (0, 0) } 0 0 t).isNone && clusterUp s 0 && !p.entry && !p.atEnd && decide (s.agenda = [.run 0 0])
    | none => false
  | none => false
/-- The error that its word gives. -/
def turnError (s : State) (e : DecodeErr) : Bool := turnReady s && (match s.stream? 0 with
  | some t => match t.path? 0 with
    | some p => refuses .course p.rest e
    | none => false
  | none => false)

theorem test_meets_StepRunsAndTrapsOnWords :
    (turnReady (turnOf [0x4B000800, 0x42000020, 0, 0]) && turnError (turnOf [0xC0300000, 0, 0, 0]) .header && turnError (turnOf [0x4B000800]) .truncated
      && turnError (turnOf [0x6C000000, 0, 0, 0]) .wrongUnit && turnError (turnOf [0x4B000801, 0x42000020, 0, 0]) .illegalField && turnReady (turnOf [0x46000000, 0, 0, 0])) = true := by
  decide +kernel

/-- The words name targets that are all headers (LOOP's with LOOPF), or not. -/
def turnTargets (ws : List Word) (b : Bool) : Bool :=
  let s := { (turnOf ws).setPart 0 { (turnOf ws).part 0 with ptroot := 0x40000000 } with mem := table }
  (s.stream? 0).any (fun t => t.p0.any (fun p => rawTargetsOk s 0 t p == b))

theorem test_meets_UndecodableWordTraps :
    ((preIssue course 0 0 (placedStream Lanes.all (placedWords 32 0))).isNone && turnTargets [0x6C000000, 0, 0, 0] true
      && turnError (turnOf [0b01_00001011_000_00000000_00000000_000, 0b11111111_11111110_00000000_10000000, 0, 0]) .illegalField
      && turnTargets [0b01_00001011_000_00000000_00000000_000, 0b11111111_11111110_00000000_10000000, 0, 0] false) = true := by
  decide +kernel

/-- A header at 0x1010 of the table's first page, by its two words; a course about to enter it. -/
def entering (w0 w1 : Nat) (f : Path → Path) : State := { mapped false (onPath f) with mem := cells 0x1010 (bytesOf w0 4 ++ bytesOf w1 4) ++ table }
/-- Its words can be fetched. -/
def fetchable (s : State) (n : Nat) : Bool := (access s asker Acc.fetch 0x1010 4 1).isOk && (access s asker Acc.fetch 0x1014 4 1).isOk && (access s asker Acc.fetch 0x1010 n 1).isOk
/-- What the header says. -/
def headerIs (s : State) (P : Hdr → Bool) : Bool := match codeWord s asker 0x1010, codeWord s asker 0x1014 with
  | some w0, some w1 => decide (w0.extractLsb' 30 2 = 3) && P (hdrOf w0 w1)
  | _, _ => false
/-- The block opens, or is refused. -/
def opensTo (s : State) (b : Bool) : Bool := (openBlock s asker true 168 0x05 0x1010).isOk == b

theorem test_meets_BlockEntryChecksHeaderAndMovesPath :
    (let s := entering 0x40000000 0 id
     fetchable s 4 && opensTo s false) = true ∧
    (let s := entering 0xC0200000 0 id
     fetchable s 8 && headerIs s (fun h => h.blen < 3)) = true ∧
    (let s := entering (0xC0300000 + 168 * 1024) 0 id
     fetchable s 12 && headerIs s (fun h => 3 ≤ h.blen && h.livev = 168)) = true ∧
    (let s := entering 0xC0300000 1 id
     fetchable s 12 && headerIs s (fun h => h.resv ≠ 0)) = true ∧
    (let s := entering (0xC0300000 + 167 * 1024) 0 id
     fetchable s 12 && headerIs s (fun h => 3 ≤ h.blen && h.livev < 168 && h.resv = 0) && opensTo s true) = true ∧
    (let s := entering 0xC0300000 0 id
     opensTo s true && !fetchBlocked s asker 0x1010 && (((s.stream? 0).bind (fun t => t.path? 0)).map (fun p => p.owe.isNone)) == some true) = true ∧
    (let s := entering 0xC0300000 0 id
     fetchBlocked (s.setPart 0 { s.part 0 with blocks := [pageOf s 0 0x1010] }) asker 0x1010) = true := by decide +kernel

/-- A course about to enter the header at 0x1010, whose path owes record 1; that record and record 2. -/
def owes (j1 j2 : Join) : State :=
  { mapped false (fun t => ((onPath (fun p => { p with owe := some 1 }) t).setJoin 1 j1).setJoin 2 j2) with mem := cells 0x1010 (bytesOf 0xC0300000 4) ++ table }
/-- Its block opens there, and its records meet P. -/
def entersOwing (j1 j2 : Join) (P : Join → Join → Bool) : Bool :=
  let s := owes j1 j2
  (s.stream? 0).any (fun t => t.p0.any (fun p => decide (p.owe = some 1) && !t.inTry && P (t.join 1) (t.join 2) && !fetchBlocked s (whoOf s t 0) 0x1010
    && (openBlock s (whoOf s t 0) true t.alloc 0x05 0x1010).isOk))

theorem test_meets_BlockEntryReleasesRecords :
    (entersOwing ⟨1, true, 0, 0x1010, none, none, 0⟩ Join.zero (fun j _ => j.jv && decide (0x1010 ≤ j.jh.toNat))
      && entersOwing Join.zero Join.zero (fun j _ => !j.jv && j.jp.isNone)
      && entersOwing ⟨1, false, 0, 0, none, some 2, 0⟩ ⟨1, true, 0, 0x1010, none, none, 0⟩ (fun j k => !j.jv && decide (j.jp = some 2) && k.jv && decide (0x1010 ≤ k.jh.toNat))
      && entersOwing ⟨3, true, 1, 0x100C, some (0x1008, 0x1000, []), none, 0⟩ Join.zero
        (fun j _ => j.jv && decide (j.jh.toNat < 0x1010 ∧ j.ja ≠ 0) && j.jr.isSome && j.jp.isNone)
      && entersOwing ⟨3, true, 0, 0x100C, none, none, 0⟩ Join.zero (fun j _ => j.jv && decide (j.jh.toNat < 0x1010 ∧ j.ja = 0) && j.jp.isNone)
      && entersOwing ⟨3, true, 0, 0x100C, none, some 2, 0⟩ ⟨3, true, 0, 0x100C, none, none, 0⟩
        (fun j k => j.jv && decide (j.jh.toNat < 0x1010 ∧ j.ja = 0 ∧ j.jp = some 2 ∧ k.jh.toNat < 0x1010 ∧ k.ja = 0) && k.jv && k.jp.isNone)) = true := by
  decide +kernel

/-- A course alone that meets every hypothesis on its state, for an instruction with its row. -/
def passing (s : State) (op : Nat) (o : Opnds) : Bool := match s.stream? s.cur.1 with
  | some t => match t.path? s.cur.2, row (unitOf s.cur.1) op o.mod with
    | some p, some _ => (t.path? (1 - s.cur.2)).isNone && !t.stopped && !t.ended && t.hnd.isNone && t.hold.isNone && t.abort.isNone && t.tr.isNone && (s.launch? t.launch).isNone
        && decide (p.pend = [] ∧ t.q = [] ∧ t.vp = [] ∧ t.sp = [] ∧ t.hwue = [] ∧ (s.cluster (clusterOf s.cur.1)).tue = [] ∧ s.ott = []) && rangeOk (t.withMask p.em) op o
    | _, _ => false
  | none => false
/-- The instruction does not pass in the state, which its checks stop. -/
def stops (s : State) (op : Nat) (o : Opnds) : Bool := match gate op o s with
  | .stay _ => WellFormed.opnds (unitOf s.cur.1) op o && WellFormed.unitOk (unitOf s.cur.1) op o
  | _ => false
/-- An addition of v2 and v3 into v1. -/
def add123 : Opnds := w2 0 (.v 1) (.v 2) (.v 3) .none
/-- v2 is due at slot 4. -/
def pending2 (schk : Bool) : State := alone false (fun t => onPath (fun p => { p with pend := [⟨.v 2, 4, [], false, 0, false⟩] }) { t with mode := if schk then 0x100 else 0 })

theorem test_meets_ChecksPassOrTrapInTheirOrder :
    passing course 0x20 add123 = true ∧ stops { mapped false id with mem := table } 0x01 (w2 0 .none .none (.toff 4) .none) = true ∧
    stops course 0x20 (w2 0 (.v 168) (.v 2) (.v 3) .none) = true ∧ stops (pending2 true) 0x20 add123 = true ∧
    stops (handling none 0 id) 0xE4 (w2 0 .none (.s 8) .none (.disp 0)) = true ∧ stops (alone false (fun t => { t with vp := [(96 * 2, true)] })) 0x20 add123 = true := by
  decide +kernel

theorem test_meets_RegisterWritesAndAdvance :
    Met [⟨course, 0x20, add123, fun c => free c && decide (c.lost c.written = [])⟩, ⟨alone false (onPath (fun p => { p with blk := [0xC0400000, 0, 0, 0] })), 0x20, add123,
      fun c => decide (c.t.q = []) && decide (c.nextPc.toNat = c.p.hdr.toNat + 4 * c.p.blk.length) && decide (c.lost c.written = [])⟩,
    ⟨alone false (onPath (fun p => { p with blk := [0xC0400000, 0, 0, 0] })), 0x0D, w2 0 (.s 61) (.s 8) (.s 12) .none,
      fun c => decide (c.t.q = []) && decide (c.nextPc.toNat = c.p.hdr.toNat + 4 * c.p.blk.length) && decide (c.lost c.written = []) && !c.seq && !c.t.inTry⟩] := met (by decide +kernel)

/-- A course whose 16-bit modes of add and pack instructions are used too. -/
theorem test_meets_RegisterInstructionsCompleteAndKeepTheRest :
    Met [⟨course, 0x20, w2 0 (.v 1) (.v 2) (.v 3) .none, free⟩, ⟨course, 0x28, w2 0 (.s 4) (.v 2) (.v 3) .none, free⟩, ⟨course, 0x35, w2 0 (.v 1) (.v 2) .none .none, free⟩,
      ⟨sequencer, 0x20, w2 0 (.s 4) (.s 8) (.s 12) .none, free⟩, ⟨course, 0x0D, w2 0 (.s 4) (.s 8) (.s 12) .none, free⟩, ⟨course, 0x40, w2 0 (.v 1) (.v 2) (.v 3) .none, free⟩,
      ⟨course, 0x64, w2 0 (.v 1) (.v 2) .none .none, free⟩, ⟨course, 0x60, w2 0 (.v 1) (.v 2) (.v 3) .none, free⟩, ⟨course, 0x6B, w2 0 (.v 1) (.s 8) (.s 12) .none, free⟩] :=
  met (by decide +kernel)

-- Ill-formed terms, one for each check (R73 to R79, R91, R92)

theorem test_illFormed_operands :
    -- a vector register past v63 in a 32-bit word
    WellFormed.opnds .course 0x20 (w1 (.v 64) (.v 2) (.v 3)) = false ∧
    -- an odd pair of scalars
    WellFormed.opnds .course 0x20 (w2 3 (.s 5) (.s 8) (.s 12) .none) = false ∧
    -- scalar 64, vector 256
    WellFormed.opnds .course 0x20 (w2 0 (.v 1) (.s 64) (.v 3) .none) = false ∧ WellFormed.opnds .course 0x20 (w2 0 (.v 256) (.v 2) (.v 3) .none) = false ∧
    -- an immediate destination, an immediate in a 32-bit word
    WellFormed.opnds .course 0x20 (w2 0 (.imm 1) (.v 2) (.v 3) .none) = false ∧ WellFormed.opnds .course 0x20 (w1 (.v 1) (.v 2) (.imm 3)) = false ∧
    -- an offset without the literal word, an index past v63, an offset of 1024
    WellFormed.opnds .course 0x20 (w2 0 (.v 1) (.vi 2 1) (.v 3) .none) = false ∧ WellFormed.opnds .course 0x20 (w3 0 (.v 1) (.vi 64 0) (.v 3) .none) = false ∧
    WellFormed.opnds .course 0x20 (w3 0 (.v 1) (.vi 2 1024) (.v 3) .none) = false ∧
    -- an operand where the field must be zero, and none where one is needed
    WellFormed.opnds .course 0x20 (w2 0 (.v 1) (.v 2) (.v 3) (.s 4)) = false ∧ WellFormed.opnds .course 0x20 (w2 0 (.v 1) (.v 2) .none .none) = false ∧
    -- a displacement in a 32-bit word, one past 255
    WellFormed.opnds .course 0x72 (w1 (.s 4) (.s 8) (.s 12)) = false ∧ WellFormed.opnds .course 0x70 (w2 0 (.v 1) (.s 8) (.v 3) (.disp 256)) = false := by decide +kernel

theorem test_illFormed_fileIndices :
    WellFormed.opnds .course 0x05 (w2 0 .none (.f 8) .none .none) = false ∧ WellFormed.opnds .course 0x9B (w2 0 (.f 16) (.f 2) (.f 3) .none) = false ∧
    WellFormed.opnds .course 0x9B (w2 0 (.f 1) (.f 16) (.f 3) .none) = false ∧ WellFormed.opnds .course 0x9E (w2 0 (.f 8) .none .none .none) = false ∧
    WellFormed.opnds .seq 0xB0 (w2 0 (.f 16) (.f 2) (.f 3) (.s 16)) = false ∧ WellFormed.opnds .seq 0xB0 (w2 0 (.f 1) (.f 16) (.f 3) (.s 16)) = false ∧
    WellFormed.opnds .seq 0xA9 (w2 0 (.s 4) (.f 16) .none .none) = false ∧ WellFormed.opnds .seq 0xC5 (w2 0 (.f 16) (.f 2) .none .none) = false := by decide +kernel

theorem test_illFormed_forms :
    -- a modifier in a 32-bit word, a stall count past its field, a KIND the form does not allow, no such form, no such length
    WellFormed.opnds .course 0x20 ⟨1, 0, .v 1, .v 2, .v 3, .none, 1⟩ = false ∧ WellFormed.opnds .course 0x20 ⟨1, 4, .v 1, .v 2, .v 3, .none, 0⟩ = false ∧
    WellFormed.opnds .course 0x20 ⟨2, 8, .v 1, .v 2, .v 3, .none, 0⟩ = false ∧ WellFormed.opnds .course 0x20 (w1 (.v 1) (.s 2) (.v 3)) = false ∧
    WellFormed.opnds .course 0x23 (w1 (.v 1) (.v 2) (.v 3)) = false ∧ WellFormed.opnds .course 0x20 ⟨4, 0, .v 1, .v 2, .v 3, .none, 0⟩ = false ∧
    -- a literal in a 64-bit word, none in a 96-bit word, two of them, one beside an indirect operand
    WellFormed.opnds .course 0x20 (w2 0 (.v 1) (.v 2) (.lit 3) .none) = false ∧ WellFormed.opnds .course 0x20 (w3 0 (.v 1) (.v 2) (.v 3) .none) = false ∧
    WellFormed.opnds .course 0x20 (w3 0 (.v 1) (.lit 2) (.lit 3) .none) = false ∧ WellFormed.opnds .course 0x20 (w3 0 (.v 1) (.vi 2 0) (.lit 3) .none) = false ∧
    -- undefined modifiers, a reserved opcode
    WellFormed.opnds .course 0x20 (w2 4 (.v 1) (.v 2) (.v 3) .none) = false ∧ WellFormed.opnds .course 0x14 (w2 7 (.s 4) (.s 8) .none .none) = false ∧
    WellFormed.opnds .course 0x1F (w2 0 .none .none .none .none) = false ∧
    -- rules across the operands: LOOP on s0, a scalar sum of vectors
    WellFormed.opnds .course 0x0B (w2 0 (.s 0) .none (.toff 4) .none) = false ∧ WellFormed.opnds .course 0x20 (w2 0 (.s 4) (.v 2) (.v 3) .none) = false := by decide +kernel

theorem test_illFormed_units :
    WellFormed.unitOk .seq 0x70 (w2 0 (.v 1) (.s 8) (.v 3) (.disp 0)) = false ∧ WellFormed.unitOk .course 0xB0 (w2 0 (.f 1) (.f 2) (.f 3) (.s 16)) = false ∧
    WellFormed.unitOk .seq 0x20 (w2 0 (.v 1) (.s 8) (.s 12) .none) = false ∧ WellFormed.unitOk .seq 0x20 (w2 0 (.s 4) (.s 8) (.s 12) .none) = true := by decide +kernel

/-- The constructor is not the one the form has. -/
theorem test_illFormed_constructor (u : IssueUnit) : WellFormed.instr u (.iadd (w1 (.v 1) (.v 2) (.v 3))) = false := by
  have h : wordOf (.iadd (w1 (.v 1) (.v 2) (.v 3))) = some (0x20, w1 (.v 1) (.v 2) (.v 3)) := rfl
  have k : instrOf 0x20 (w1 (.v 1) (.v 2) (.v 3)) = .iadd32 (w1 (.v 1) (.v 2) (.v 3)) := rfl
  simp only [WellFormed.instr, h, k, Bool.and_eq_false_iff, decide_eq_false_iff_not]
  exact .inr (fun e => by injection e)

-- Words written out from the encodings: Table 4.2 (00 OP STALL KIND D A B), Table 4.4 (01 OP STALL D A 000, B C MOD and the kind and
-- indirect bits), and the literal word of the 96-bit form (prefix 10)

theorem test_decode_ret32 : Decode.words .course [0b00_00001001_10_00_000000_000000_000000] = .ok (.ret32 ⟨1, 2, .none, .none, .none, .none, 0⟩) := rfl
theorem test_decode_loop : Decode.words .course [0b01_00001011_000_00000100_00000000_000, 0b11111111_11111110_00000000_10000000]
    = .ok (.loop ⟨2, 0, .s 4, .none, .toff 0xFFFE, .none, 0⟩) := rfl
theorem test_decode_brd : Decode.words .course [0b10_00000011_000_00000001_00001000_000, 0b10000000_00000000_00000000_01100000, 0x00090003]
    = .ok (.brd ⟨3, 0, .f 1, .s 8, .lit 0x00090003, .none, 0⟩) := rfl
theorem test_decode_vote32 : Decode.words .course [0b00_00010100_00_10_000100_001000_000000] = .ok (.vote32 ⟨1, 0, .s 4, .s 8, .none, .none, 0⟩) := rfl
theorem test_decode_vote : Decode.words .course [0b01_00010100_000_00000100_00001000_000, 0b00000000_00000000_00000001_11000000]
    = .ok (.vote ⟨2, 0, .s 4, .s 8, .none, .none, 1⟩) := rfl
theorem test_decode_iadd32 : Decode.words .course [0b00_00100000_01_01_000001_000010_000011] = .ok (.iadd32 ⟨1, 1, .v 1, .v 2, .s 3, .none, 0⟩) := rfl
theorem test_decode_iadd : Decode.words .course [0b01_00100000_000_00000001_11001000_000, 0b01111111_00000000_00000001_00100000]
    = .ok (.iadd ⟨2, 0, .v 1, .v 200, .imm 63, .none, 1⟩) := rfl
theorem test_decode_iaddIndirect : Decode.words .course [0b10_00100000_101_00000001_00000010_000, 0b00000011_00000000_00000000_00001100,
    0b00_0000000000_0000001001_0000000111] = .ok (.iadd ⟨3, 5, .vi 1 7, .vi 2 9, .v 3, .none, 0⟩) := rfl
theorem test_decode_fadd : Decode.words .seq [0b10_01000000_000_00000100_00001000_000, 0b10000000_00000000_00000000_11100000, 0x3F800000]
    = .ok (.fadd ⟨3, 0, .s 4, .s 8, .lit 0x3F800000, .none, 0⟩) := rfl
theorem test_decode_ffma : Decode.words .course [0b01_01000011_111_10000001_00000010_000, 0b00000011_00001001_00000000_00010000]
    = .ok (.ffma ⟨2, 7, .v 129, .v 2, .v 3, .s 9, 0⟩) := rfl
theorem test_decode_shfl32 : Decode.words .course [0b00_01100010_00_01_000001_000010_001100] = .ok (.shfl32 ⟨1, 0, .v 1, .v 2, .s 12, .none, 0⟩) := rfl
theorem test_decode_ld : Decode.words .course [0b01_01110000_000_00000001_00001000_000, 0b00000011_00010000_00000000_01000000]
    = .ok (.ld ⟨2, 0, .v 1, .s 8, .v 3, .disp 16, 0⟩) := rfl
theorem test_decode_lds32 : Decode.words .course [0b00_01110010_00_10_000100_001000_001100] = .ok (.lds32 ⟨1, 0, .s 4, .s 8, .s 12, .disp 0, 0⟩) := rfl
theorem test_decode_atom : Decode.words .course [0b01_01110111_000_00000001_00001000_000, 0b00000011_00000100_00000000_01000000]
    = .ok (.atom ⟨2, 0, .v 1, .s 8, .v 3, .v 4, 0⟩) := rfl
theorem test_decode_bar32 : Decode.words .course [0b00_10000011_00_10_000000_001000_000000] = .ok (.bar32 ⟨1, 0, .none, .s 8, .none, .none, 0⟩) := rfl
theorem test_decode_tryst32 : Decode.words .course [0b00_10010011_00_10_000100_000000_000000] = .ok (.tryst32 ⟨1, 0, .s 4, .none, .none, .none, 0⟩) := rfl
theorem test_decode_copy : Decode.words .course [0b01_10011011_000_00000001_00000010_000, 0b00000011_00000000_00000000_00000000]
    = .ok (.copy ⟨2, 0, .f 1, .f 2, .f 3, .none, 0⟩) := rfl
theorem test_decode_rdtc32 : Decode.words .seq [0b00_10101001_00_11_000100_000010_000000] = .ok (.rdtc32 ⟨1, 0, .s 4, .f 2, .none, .none, 0⟩) := rfl
theorem test_decode_mma : Decode.words .seq [0b01_10110000_000_00000001_00000010_000, 0b00000011_00010000_00000000_00010000]
    = .ok (.mma ⟨2, 0, .f 1, .f 2, .f 3, .s 16, 0⟩) := rfl
theorem test_decode_sload32 : Decode.words .seq [0b00_11000010_00_00_000000_000010_000000] = .ok (.sload32 ⟨1, 0, .none, .f 2, .none, .none, 0⟩) := rfl
theorem test_decode_msg : Decode.words .course [0b01_11010001_000_00000001_00001000_000, 0b00001100_00000000_00000000_01100000]
    = .ok (.msg ⟨2, 0, .v 1, .s 8, .s 12, .none, 0⟩) := rfl
theorem test_decode_pst : Decode.words .course [0b01_11011000_000_00000001_00001000_000, 0b00000011_11111111_00000000_01000000]
    = .ok (.pst ⟨2, 0, .v 1, .s 8, .v 3, .disp 255, 0⟩) := rfl
theorem test_decode_launch : Decode.words .course [0b01_11100100_000_00000000_00001000_000, 0b00000000_00000000_00000000_01000000]
    = .ok (.launch ⟨2, 0, .none, .s 8, .none, .disp 0, 0⟩) := rfl
theorem test_decode_cycle32 : Decode.words .course [0b00_11111000_00_10_000100_000000_000000] = .ok (.cycle32 ⟨1, 0, .s 4, .none, .none, .none, 0⟩) := rfl

theorem test_refuses_words :
    -- a block header; a word short of its length; a reserved opcode is ILLEGAL_OP; the sequencer's and the course's own instructions
    Decode.words .course [0b11_000000000000000000000000000000] = .error .header ∧ Decode.words .course [0b01_00100000_000_00000001_00000010_000] = .error .truncated ∧
    Decode.words .course [0b01_00011111_000_00000000_00000000_000, 0] = .ok (.illegalOp (Decode.noOpnds 2)) ∧
    Decode.words .course [0b00_11000010_00_00_000000_000010_000000] = .error .wrongUnit ∧
    Decode.words .seq [0b01_01110000_000_00000001_00001000_000, 0b00000011_00010000_00000000_01000000] = .error .wrongUnit ∧
    -- a vector kind on the sequencer; an undefined modifier; bit 0 of the first word and of the second; a register in a zero field
    Decode.words .seq [0b01_00100000_000_00000001_00001000_000, 0b00001100_00000000_00000000_01100000] = .error .wrongUnit ∧
    Decode.words .course [0b01_00100000_000_00000001_00000010_000, 0b00000011_00000000_00000100_00000000] = .error .illegalField ∧
    Decode.words .course [0b01_00100000_000_00000001_00000010_001, 0b00000011_00000000_00000000_00000000] = .error .illegalField ∧
    Decode.words .course [0b01_00100000_000_00000001_00000010_000, 0b00000011_00000000_00000000_00000001] = .error .illegalField ∧
    Decode.words .course [0b01_00100000_000_00000001_00000010_000, 0b00000011_00000001_00000000_00000000] = .error .illegalField := by
  refine ⟨rfl, rfl, rfl, rfl, rfl, rfl, rfl, rfl, rfl, rfl⟩

-- Single steps, with the results the worked examples of the spec give

/-- The stream after one instruction. -/
noncomputable def after (i : Instr) (s : State) : Option Stream := match exec i s with
  | .next s' => s'.stream? s.cur.1
  | _ => none
/-- s4 of a sequencer after an instruction on a, b and c in s8, s12 and s16, with s4 = d before. -/
noncomputable def scalarOf (f : Opnds → Instr) (mod : Nat) (d a b c : Word) (x y z : Opnd) : Option Word :=
  (after (f (w2 mod (.s 4) x y z)) (alone true (fun t => { t with s := [(4, d), (8, a), (12, b), (16, c)] }))).map (fun t => t.sAt 4)
/-- Of two sources. -/
noncomputable def ofTwo (f : Opnds → Instr) (mod : Nat) (a b : Word) : Option Word := scalarOf f mod 7 a b 9 (.s 8) (.s 12) .none
/-- Of three sources. -/
noncomputable def ofThree (f : Opnds → Instr) (mod : Nat) (d a b c : Word) : Option Word := scalarOf f mod d a b c (.s 8) (.s 12) (.s 16)
/-- Of one source. -/
noncomputable def ofOne (f : Opnds → Instr) (mod : Nat) (a : Word) : Option Word := scalarOf f mod 7 a 9 9 (.s 8) .none .none

-- Table 6.3
theorem test_iadd_saturates : ofTwo .iadd 1 0x7FFFFFF0 0x20 = some 0x7FFFFFFF ∧ ofTwo .iadd 2 0xFFFFFFF0 0x20 = some 0xFFFFFFFF := by decide +kernel
theorem test_isub_usat : ofTwo .isub 2 5 7 = some 0 := by decide +kernel
theorem test_imul24_signed : ofTwo .imul24 0 0x800000 2 = some 0xFF000000 := by decide +kernel
theorem test_imad24_ignoresTopByte : ofThree .imad24 1 7 0xFF000003 5 1 = some 16 := by decide +kernel
theorem test_imul32 : ofTwo .imul32 0 0x10001 0x10001 = some 0x20001 := by decide +kernel
theorem test_imulh32 : ofTwo .imulh32 1 0xFFFFFFFF 0xFFFFFFFF = some 0xFFFFFFFE ∧ ofTwo .imulh32 0 0xFFFFFFFF 0xFFFFFFFF = some 0 := by decide +kernel
theorem test_shiftsPastWidth : ofTwo .sar 0 0x80000000 40 = some 0xFFFFFFFF ∧ ofTwo .shr 0 0x80000000 40 = some 0 := by decide +kernel
theorem test_bfx : ofThree .bfx 1 7 0xF00 8 4 = some 0xFFFFFFFF ∧ ofThree .bfx 0 7 0xF00 8 4 = some 0xF := by decide +kernel
theorem test_bfi_dropsTop : ofThree .bfi 0 0xFFFFFFFF 0 28 8 = some 0x0FFFFFFF := by decide +kernel
theorem test_clz : ofOne .clz 0 0x100 = some 23 := by decide +kernel
theorem test_cvti : ofOne .cvti 0x10 300 = some 0x7F ∧ ofOne .cvti 0x10 (-300) = some 0xFFFFFF80 ∧ ofOne .cvti 0x53 300 = some 0x2C := by decide +kernel
-- the CRC-32C of "123456789" after R144
theorem test_crc : ((ofTwo .crc 4 0xFFFFFFFF 0x34333231).bind (fun c => ofTwo .crc 4 c 0x38373635)).bind (fun c => ofTwo .crc 0 c 0x39)
    = some (0xE3069283 ^^^ 0xFFFFFFFF) := by decide +kernel
-- the example of R142
theorem test_addr : (after (.addr (w2 2 (.s 8) (.s 4) (.s 10) (.imm 16))) (alone true (fun t => { t with s := [(4, 0x00040000), (5, 0x80), (10, 5)] }))).map
    (fun t => t.pairAt 8) = some 0x0000008000040024 := by decide +kernel
-- the examples of R158, R161 and R162
theorem test_fcvt : ofOne .fcvt 0x05 16777217 = some 0x4B800000 := by decide +kernel
/-- v1 of a course after an instruction on v2, in the lanes that v2 gives. -/
noncomputable def lanes (f : Opnds → Instr) (mod : Nat) (y : Opnd) (s : Tab Word) (n : Nat) (v2 : Tab Word) : Option (List Word) :=
  (after (f (w2 mod (.v 1) (.v 2) y .none)) (alone false (fun t => { t with p0 := t.p0.map (fun p => { p with em := Lanes.all >>> (96 - n) }), s := s, v := v2 }))).map
    (fun t => (List.range n).map (fun l => t.vAt 1 l))
theorem test_bxunpk : lanes .bxunpk 0 (.s 12) [(12, 0x8582)] 3 [(192, 0x72), (193, 0x14), (194, 0x81)] = some [0x42C80000, 0x40A00000, 0xBE800000] := by decide +kernel
theorem test_csplit_cjoin : lanes .csplit 0 .none [] 1 [(192, 0x3F802000)] = some [0x3F803A80] ∧ lanes .cjoin 0 .none [] 1 [(192, 0x3F803A80)] = some [0x3F802000] := by
  decide +kernel
-- the examples of R175 and R177
theorem test_red_fadd : lanes .red 8 .none [] 3 [(192, 0x4B800000), (193, 0x3F800000), (194, 0x3F800000)] = some [0x4B800000, 0x4B800000, 0x4B800000] := by decide +kernel
theorem test_match :
    let bins : Tab Word := [(192, 2), (194, 2), (195, 2), (196, 1)]
    lanes .matchLanes 0 .none [] 5 bins = some [0, 1, 0, 0, 4] ∧ lanes .matchLanes 1 .none [] 5 bins = some [0, 0, 1, 2, 0] ∧
    lanes .matchLanes 2 .none [] 5 bins = some [3, 1, 3, 3, 1] := by decide +kernel
-- the words of N10 and of SHFL.XOR after Table 8.1
theorem test_decode_vidx32 : Decode.words .course [0x1A400000] = .ok (.vidx32 ⟨1, 0, .v 0, .none, .none, .none, 0⟩) := rfl
theorem test_decode_shfl : Decode.words .course [0x58802820, 0x50000220] = .ok (.shfl ⟨2, 0, .v 5, .v 4, .imm 16, .none, 2⟩) := rfl

end Sys2Proof.Tests
end

section
/-! PROOF. The floating-point sum and product are exact and rounded once, and a format's own values round to themselves (R48, R49, R150, R152). -/
namespace Sys2Proof.Machine

-- Exact values

theorem Num.eq_fin_of_isFin {x : Num} (h : x.isFin = true) : ∃ n m e, x = .fin n m e := by
  cases x with
  | fin n m e => exact ⟨n, m, e, rfl⟩
  | inf n => cases h
  | nan b => cases h

theorem Num.eq_nan_of_isNan {x : Num} (h : x.isNan = true) : ∃ b, x = .nan b := by
  cases x with
  | nan b => exact ⟨b, rfl⟩
  | fin n m e => cases h
  | inf n => cases h

@[simp] theorem Num.isFin_neg (x : Num) : x.neg.isFin = x.isFin := by
  cases x <;> rfl

@[simp] theorem Num.isZero_inf (n : Bool) : (Num.inf n).isZero = false := rfl

/-- A finer unit multiplies the count of units. -/
theorem Num.units_finer (x : Num) {e e' : Int} (hx : e ≤ x.ex) (he : e' ≤ e) :
    x.units e' = x.units e * ((2 ^ (e - e').toNat : Nat) : Int) := by
  cases x with
  | fin n m ex =>
    have hx : e ≤ ex := hx
    have hexp : (ex - e').toNat = (ex - e).toNat + (e - e').toNat := by omega
    have hmag : m * 2 ^ (ex - e').toNat = m * 2 ^ (ex - e).toNat * 2 ^ (e - e').toNat := by
      rw [hexp, Nat.pow_add, Nat.mul_assoc]
    simp only [Num.units]
    rw [hmag, Int.natCast_mul, Int.mul_assoc]
  | inf n => exact (Int.zero_mul _).symm
  | nan b => exact (Int.zero_mul _).symm

/-- A whole number of 2^e, held as sign and magnitude. -/
theorem Num.units_ofSignMagnitude (t e e' : Int) :
    (Num.fin (decide (t < 0)) t.natAbs e).units e' = t * ((2 ^ (e - e').toNat : Nat) : Int) := by
  simp only [Num.units, decide_eq_true_eq, Int.natCast_mul]
  split
  case isTrue h => rw [Int.ofNat_natAbs_of_nonpos (Int.le_of_lt h), Int.neg_mul, Int.neg_mul, Int.one_mul, Int.neg_neg]
  case isFalse h => rw [Int.natAbs_of_nonneg (Int.not_lt.1 h), Int.one_mul]

-- Sums

theorem sumNum_nan (rdn : Bool) {x y : Num} (h : x.isNan = true ∨ y.isNan = true) :
    sumNum rdn [x, y] = .nan (decide (x = .nan true ∨ y = .nan true)) := by
  simp [sumNum, h]

theorem sumNum_inf_opposite (rdn n : Bool) : sumNum rdn [.inf n, .inf (!n)] = .nan true := by
  cases n <;> rfl

theorem sumNum_inf_left (rdn n : Bool) {y : Num} (h : y = .inf n ∨ y.isFin = true) : sumNum rdn [.inf n, y] = .inf n := by
  rcases h with rfl | h
  · cases n <;> rfl
  · obtain ⟨ny, my, ey, rfl⟩ := Num.eq_fin_of_isFin h
    cases n <;> rfl

theorem sumNum_inf_right (rdn n : Bool) {x : Num} (h : x.isFin = true) : sumNum rdn [x, .inf n] = .inf n := by
  obtain ⟨nx, mx, ex, rfl⟩ := Num.eq_fin_of_isFin h
  cases n <;> rfl

/-- The sum of two finite values is counted in a unit that divides both and 1. -/
theorem sumNum_fin (rdn : Bool) {x y : Num} (hx : x.isFin = true) (hy : y.isFin = true) :
    ∃ e, e ≤ 0 ∧ e ≤ x.ex ∧ e ≤ y.ex ∧ sumNum rdn [x, y] =
      if x.units e + y.units e = 0 then
        .fin ((x.isNeg && x.isZero && (y.isNeg && y.isZero)) || (rdn && !(!x.isNeg && x.isZero && (!y.isNeg && y.isZero)))) 0 0
      else .fin (decide (x.units e + y.units e < 0)) (x.units e + y.units e).natAbs e := by
  obtain ⟨nx, mx, ex, rfl⟩ := Num.eq_fin_of_isFin hx
  obtain ⟨ny, my, ey, rfl⟩ := Num.eq_fin_of_isFin hy
  refine ⟨min (min 0 ex) ey, by omega, by show _ ≤ ex; omega, by show _ ≤ ey; omega, ?_⟩
  simp [sumNum, Num.isNan, Num.ex]

/-- A zero has no units, whatever the unit. -/
theorem Num.units_eq_zero_iff {x : Num} (e : Int) (hx : x.isFin = true) : x.units e = 0 ↔ x.isZero = true := by
  obtain ⟨n, m, ex, rfl⟩ := Num.eq_fin_of_isFin hx
  have hmag : m * 2 ^ (ex - e).toNat = 0 ↔ m = 0 :=
    ⟨fun h => (Nat.mul_eq_zero.1 h).resolve_right (Nat.ne_of_gt (Nat.two_pow_pos _)), fun h => by rw [h, Nat.zero_mul]⟩
  have hsign : (if n = true then -1 else 1 : Int) ≠ 0 := by split <;> decide
  simp only [Num.units, Num.isZero, decide_eq_true_eq, Int.mul_eq_zero, hsign, false_or, Int.natCast_eq_zero, hmag]

theorem Num.units_nonpos_of_isNeg {x : Num} (e : Int) (h : x.isNeg = true) : x.units e ≤ 0 := by
  cases x with
  | fin n m ex =>
    obtain rfl : n = true := h
    simp only [Num.units, if_true]
    omega
  | inf n => exact Int.le_refl _
  | nan b => exact Int.le_refl _

theorem Num.units_nonneg_of_not_isNeg {x : Num} (e : Int) (h : x.isNeg = false) : 0 ≤ x.units e := by
  cases x with
  | fin n m ex =>
    obtain rfl : n = false := h
    simp only [Num.units, Bool.false_eq_true, if_false]
    omega
  | inf n => exact Int.le_refl _
  | nan b => exact Int.le_refl _

/-- Two finite values that cancel are both zero, or have opposite signs and neither is. -/
theorem Num.zero_or_opposite_of_cancel {x y : Num} {e : Int} (hx : x.isFin = true) (hy : y.isFin = true)
    (h : x.units e + y.units e = 0) :
    (x.isZero = true ∧ y.isZero = true) ∨ (x.isZero = false ∧ y.isZero = false ∧ y.isNeg = !x.isNeg) := by
  have hx0 := Num.units_eq_zero_iff e hx
  have hy0 := Num.units_eq_zero_iff e hy
  cases hzx : x.isZero with
  | true => exact .inl ⟨rfl, hy0.1 (by have := hx0.2 hzx; omega)⟩
  | false =>
    have hux : x.units e ≠ 0 := fun hu => by rw [hx0.1 hu] at hzx; cases hzx
    have hzy : y.isZero = false := Bool.eq_false_iff.2 fun hz => hux (by have := hy0.2 hz; omega)
    refine .inr ⟨rfl, hzy, Bool.eq_not.2 fun hsame => hux ?_⟩
    cases hnx : x.isNeg with
    | true =>
      have := Num.units_nonpos_of_isNeg e hnx
      have := Num.units_nonpos_of_isNeg e (hsame.trans hnx)
      omega
    | false =>
      have := Num.units_nonneg_of_not_isNeg e hnx
      have := Num.units_nonneg_of_not_isNeg e (hsame.trans hnx)
      omega

/-- The sign that the model gives the sum of two zeros is that of R152. -/
theorem zeroSum_sign (rdn nx ny : Bool) : ((nx && ny || (rdn && !(!nx && !ny))) = true) ↔ (nx = true ∧ ny = true) ∨ (nx ≠ ny ∧ rdn = true) := by
  revert rdn nx ny
  decide

/-- The model's sum of finite values is the exact one, a zero with the sign of R152. -/
theorem exactSum_sumNum (rdn : Bool) {x y : Num} (hx : x.isFin = true) (hy : y.isFin = true) :
    exactSum rdn x y (sumNum rdn [x, y]) := by
  obtain ⟨e, he0, hex, hey, hsum⟩ := sumNum_fin rdn hx hy
  have hfiner (e' : Int) (he' : e' ≤ e) : x.units e' + y.units e' =
      (x.units e + y.units e) * ((2 ^ (e - e').toNat : Nat) : Int) := by
    rw [Num.units_finer x hex he', Num.units_finer y hey he', Int.add_mul]
  rw [hsum]
  split
  case isTrue hzero =>
    refine ⟨rfl, fun e' hx' hy' he' => ?_, fun _ => ?_⟩
    · have hcancel : x.units e' + y.units e' = 0 := by
        rcases Int.le_total e' e with hle | hle
        · rw [hfiner e' hle, hzero, Int.zero_mul]
        · rw [Num.units_finer x hx' hle, Num.units_finer y hy' hle, ← Int.add_mul] at hzero
          exact (Int.mul_eq_zero.1 hzero).resolve_right (Int.natCast_ne_zero.2 (Nat.ne_of_gt (Nat.two_pow_pos _)))
      rw [hcancel]
      simp [Num.units]
    · rcases Num.zero_or_opposite_of_cancel hx hy hzero with ⟨hzx, hzy⟩ | ⟨hzx, hzy, hneg⟩
      · simpa [hzx, hzy, Num.isNeg] using zeroSum_sign rdn x.isNeg y.isNeg
      · rw [hzx, hzy, hneg]
        cases rdn <;> simp [Num.isNeg]
  case isFalse hnz =>
    refine ⟨rfl, fun e' _ _ he' => ?_, fun hz => ?_⟩
    · rw [Num.units_ofSignMagnitude, hfiner e' he']
    · exact absurd (Int.natAbs_eq_zero.1 (of_decide_eq_true hz)) hnz

-- Products

theorem mulNum_fin (nx ny : Bool) (mx my : Nat) (ex ey : Int) :
    mulNum (.fin nx mx ex) (.fin ny my ey) = .fin (nx != ny) (mx * my) (ex + ey) := rfl

theorem mulNum_nan {x y : Num} (h : x.isNan = true ∨ y.isNan = true) :
    mulNum x y = .nan (decide (x = .nan true ∨ y = .nan true)) := by
  rcases h with hx | hy
  · obtain ⟨b, rfl⟩ := Num.eq_nan_of_isNan hx
    cases y <;> simp [mulNum]
  · obtain ⟨b, rfl⟩ := Num.eq_nan_of_isNan hy
    cases x <;> simp [mulNum]

/-- 0 × ∞ in either order is invalid. -/
theorem mulNum_invalid {x y : Num} {n : Bool} (h : x = .inf n ∧ y.isZero = true ∨ y = .inf n ∧ x.isZero = true) :
    mulNum x y = .nan true := by
  rcases h with ⟨rfl, hz⟩ | ⟨rfl, hz⟩
  · cases y with
    | fin ny my ey => exact if_pos (by simp [hz])
    | inf ny => cases hz
    | nan b => cases hz
  · cases x with
    | fin nx mx ex => exact if_pos (by simp [hz])
    | inf nx => cases hz
    | nan b => cases hz

theorem mulNum_inf_left (n : Bool) {y : Num} (hn : y.isNan = false) (hz : y.isZero = false) :
    mulNum (.inf n) y = .inf (n != y.isNeg) := by
  cases y with
  | fin ny my ey => exact if_neg (by simp [hz])
  | inf ny => rfl
  | nan b => cases hn

theorem mulNum_inf_right (n : Bool) {x : Num} (hn : x.isNan = false) (hz : x.isZero = false) :
    mulNum x (.inf n) = .inf (x.isNeg != n) := by
  cases x with
  | fin nx mx ex => exact if_neg (by simp [hz])
  | inf nx => rfl
  | nan b => cases hn

/-- The sign of a product is the product of the signs. -/
theorem productSign (nx ny : Bool) : (if nx != ny then -1 else 1 : Int) = (if nx then -1 else 1) * (if ny then -1 else 1) := by
  revert nx ny
  decide

/-- The model's product of finite values is the exact one. -/
theorem exactProduct_mulNum {x y : Num} (hx : x.isFin = true) (hy : y.isFin = true) : exactProduct x y (mulNum x y) := by
  obtain ⟨nx, mx, ex, rfl⟩ := Num.eq_fin_of_isFin hx
  obtain ⟨ny, my, ey, rfl⟩ := Num.eq_fin_of_isFin hy
  rw [mulNum_fin]
  refine ⟨rfl, rfl, fun e (he : e ≤ ex) e' (he' : e' ≤ ey) _ => ?_⟩
  have hexp : (ex + ey - (e + e')).toNat = (ex - e).toNat + (ey - e').toNat := by omega
  have hmag : mx * my * 2 ^ ((ex - e).toNat + (ey - e').toNat) = mx * 2 ^ (ex - e).toNat * (my * 2 ^ (ey - e').toNat) := by
    rw [Nat.pow_add, Nat.mul_mul_mul_comm]
  simp only [Num.units]
  rw [hexp, hmag, Int.natCast_mul, productSign]
  ac_rfl

/-- The model's product is exact, with the specials of IEEE 754. -/
theorem isProduct_mulNum (x y : Num) : isProduct x y (mulNum x y) := by
  refine ⟨exactProduct_mulNum, mulNum_nan, fun n => mulNum_invalid, ?_, ?_⟩
  · rintro n rfl
    exact mulNum_inf_left n
  · rintro n rfl
    exact mulNum_inf_right n

-- Rounding

/-- The specials of a sum come out of the rounding as R48 and R150 have them. -/
theorem sumSpecials_round (f : Fmt) (rm : Nat) (ftz rdn : Bool) (x y : Num) :
    sumSpecials f x y (wd (f.round rm ftz (sumNum rdn [x, y])).1) (f.round rm ftz (sumNum rdn [x, y])).2 := by
  refine ⟨fun h => ?_, ?_, ?_, ?_⟩
  · rw [sumNum_nan rdn h]
    exact ⟨rfl, by simp only [Fmt.round, decide_eq_true_eq]⟩
  · rintro n rfl rfl
    rw [sumNum_inf_opposite]
    exact ⟨rfl, rfl⟩
  · rintro n rfl h
    rw [sumNum_inf_left rdn n h]
    exact ⟨rfl, rfl⟩
  · rintro n rfl h
    rw [sumNum_inf_right rdn n h]
    exact ⟨rfl, rfl⟩

/-- A whole number of the unit needs no rounding to it. -/
theorem quant_exact (rm : Nat) (neg : Bool) (m : Nat) (e : Int) : quant rm neg m e e false = (m, false) := by
  simp [quant]

/-- The fields of a word make up the word. -/
theorem Fmt.fields (f : Fmt) {w : Nat} (h : w < 2 ^ (f.sb + 1)) :
    f.sign (bits w f.sb 1 = 1) + (bits w f.fb f.eb * 2 ^ f.fb + bits w 0 f.fb) = w := by
  have hlow : w % 2 ^ f.sb = bits w f.fb f.eb * 2 ^ f.fb + bits w 0 f.fb := by
    rw [Fmt.sb, Nat.add_comm f.eb, Nat.pow_add, Nat.mod_mul, bits, bits, Nat.pow_zero, Nat.div_one, Nat.add_comm, Nat.mul_comm]
  have hsign : f.sign (bits w f.sb 1 = 1) = 2 ^ f.sb * (w / 2 ^ f.sb) := by
    have hlt : w / 2 ^ f.sb < 2 := Nat.div_lt_of_lt_mul (by rwa [← Nat.pow_succ])
    have hbit : w / 2 ^ f.sb = 0 ∨ w / 2 ^ f.sb = 1 := Nat.le_one_iff_eq_zero_or_eq_one.1 (Nat.le_of_lt_succ hlt)
    rcases hbit with h | h <;> simp [bits, Fmt.sign, h]
  rw [← hlow, hsign, Nat.div_add_mod]

/-- A significand that already stands at the unit of its result is itself after rounding. -/
theorem Fmt.roundFin_exact (f : Fmt) (rm : Nat) (neg : Bool) {m : Nat} {e : Int} (h0 : m ≠ 0) (hm : m < 2 ^ (f.fb + 1))
    (hunit : max (e + m.log2) (1 - f.bias) - f.fb = e) (hmax : 2 ^ f.fb ≤ m → ¬ (2 ^ f.eb : Int) - 2 < e + f.fb + f.bias) :
    f.roundFin rm false neg m e false =
      (f.sign neg + if m < 2 ^ f.fb then m else (e + f.fb + f.bias).toNat * 2 ^ f.fb + (m - 2 ^ f.fb), 0) := by
  have hcarry : ¬ 2 ^ (f.fb + 1) ≤ m := Nat.not_le.2 hm
  unfold Fmt.roundFin
  simp only [if_neg h0, hunit, quant_exact, if_neg hcarry]
  by_cases hsub : m < 2 ^ f.fb
  · simp [hsub]
  · simp only [if_neg hsub, if_neg (hmax (Nat.not_lt.1 hsub))]
    simp

/-- A subnormal significand is the fraction field of its word. -/
theorem Fmt.roundFin_subnormal (f : Fmt) (rm : Nat) (neg : Bool) {fr : Nat} (hfr : fr < 2 ^ f.fb) :
    f.roundFin rm false neg fr (1 - f.bias - f.fb) false = (f.sign neg + fr, 0) := by
  by_cases h0 : fr = 0
  · simp [Fmt.roundFin, h0]
  · have hlog : fr.log2 < f.fb := (Nat.log2_lt h0).2 hfr
    rw [f.roundFin_exact rm neg h0 (by rw [Nat.pow_succ]; omega) (by omega) (fun h => absurd hfr (Nat.not_lt.2 h)), if_pos hfr]

/-- A significand with its leading bit, at a normal exponent, gives the two fields of its word. -/
theorem Fmt.roundFin_normal (f : Fmt) (rm : Nat) (neg : Bool) {ex fr : Nat} (hlo : 0 < ex) (hhi : ex < 2 ^ f.eb - 1) (hfr : fr < 2 ^ f.fb) :
    f.roundFin rm false neg (fr + 2 ^ f.fb) (ex - f.bias - f.fb) false = (f.sign neg + (ex * 2 ^ f.fb + fr), 0) := by
  have h0 : fr + 2 ^ f.fb ≠ 0 := by have := Nat.two_pow_pos f.fb; omega
  have hlt : fr + 2 ^ f.fb < 2 ^ (f.fb + 1) := by rw [Nat.pow_succ]; omega
  have hlog : (fr + 2 ^ f.fb).log2 = f.fb := (Nat.log2_eq_iff h0).2 ⟨by omega, hlt⟩
  have hbiased : (ex - f.bias - f.fb + f.fb + f.bias : Int) = ex := by omega
  have hmax : ¬ (2 ^ f.eb : Int) - 2 < ex := by
    have : ((2 ^ f.eb : Nat) : Int) = 2 ^ f.eb := Int.natCast_pow 2 f.eb
    omega
  rw [f.roundFin_exact rm neg h0 hlt (by rw [hlog]; omega) (fun _ => by rwa [hbiased]), hbiased, if_neg (by omega)]
  simp

/-- A word that is no NaN is its own value's rounding (R49). -/
theorem Fmt.round_num (f : Fmt) (rm : Nat) {w : Nat} (hw : w < 2 ^ (f.sb + 1)) (hn : (f.num false w).isNan = false) :
    f.round rm false (f.num false w) = (w, 0) := by
  have hfields := f.fields hw
  have hfr : bits w 0 f.fb < 2 ^ f.fb := Nat.mod_lt _ (Nat.two_pow_pos _)
  have hex : bits w f.fb f.eb < 2 ^ f.eb := Nat.mod_lt _ (Nat.two_pow_pos _)
  unfold Fmt.num at hn ⊢
  dsimp only at hn ⊢
  generalize decide (bits w f.sb 1 = 1) = neg at *
  generalize bits w f.fb f.eb = ex at *
  generalize bits w 0 f.fb = fr at *
  by_cases htop : ex = 2 ^ f.eb - 1
  · rw [if_pos htop] at hn ⊢
    by_cases hz : fr = 0
    · rw [if_pos hz, Fmt.round, ← hfields, htop, hz]
      rfl
    · rw [if_neg hz] at hn
      cases hn
  · rw [if_neg htop]
    by_cases hlo : ex = 0
    · rw [if_pos hlo, if_neg Bool.false_ne_true, Fmt.round, f.roundFin_subnormal rm _ hfr, ← hfields, hlo]
      simp
    · rw [if_neg hlo, Fmt.round, f.roundFin_normal rm _ (by omega) (by omega) hfr, hfields]

-- Instructions

/-- The two forms of an instruction have one meaning. -/
theorem exec_of_mem_pair {i j k : Instr} {s : State} {x : Host.Outcome State Fault Refusal} (hi : i ∈ [j, k]) (hj : exec j s = x)
    (hk : exec k s = x) : exec i s = x := by
  simp only [List.mem_cons, List.not_mem_nil, or_false] at hi
  rcases hi with rfl | rfl
  · exact hj
  · exact hk

/-- An instruction whose meaning gives each lane a word and flags writes D and raises the flags (R146, R150). -/
theorem writesF_of_resF {op : Nat} {o : Opnds} {s : State} {c : Ctx} {i : Instr} {F : Ctx → Nat → Word × Word} {R : Nat → Word → Word → Prop}
    (hgate : gate op o s = .go c) (hexec : exec i s = issue op o s (fun c => c.resF (F c))) (hR : ∀ l, R l (F c l).1 (F c l).2) :
    WritesF i s c R :=
  ⟨F c, fun l _ => hR l, by rw [hexec, issue_ok hgate rfl]⟩

/-- r holds the word and the flags of z rounded once into a format under a captured mode: O24's `rounded`. -/
def RoundedOnce (mode : Word) (f : Fmt) (z : Num) (r : Word × Word) : Prop :=
  r.1 = wd (f.round (rmOf mode) (ftzOf mode) z).1 ∧ r.2 = (f.round (rmOf mode) (ftzOf mode) z).2

/-- r is the sum of x and y: a special, or the exact sum rounded once. -/
def RoundedSum (mode : Word) (f : Fmt) (x y : Num) (r : Word × Word) : Prop :=
  sumSpecials f x y r.1 r.2 ∧ (x.isFin = true → y.isFin = true → ∃ z, exactSum (rmOf mode = 2) x y z ∧ RoundedOnce mode f z r)

/-- FADD (R152). -/
theorem roundedSum_faddOf (mode : Word) (f : Fmt) (x y : Num) : RoundedSum mode f x y (faddOf mode f x y) :=
  ⟨sumSpecials_round .., fun hx hy => ⟨_, exactSum_sumNum _ hx hy, rfl, rfl⟩⟩

/-- FSUB adds the negated subtrahend, which is finite where the subtrahend is (R152). -/
theorem faddOf_neg_rounds (mode : Word) (f : Fmt) (x y : Num) :
    sumSpecials f x y.neg (faddOf mode f x y.neg).1 (faddOf mode f x y.neg).2 ∧ (x.isFin = true → y.isFin = true →
      ∃ z, exactSum (rmOf mode = 2) x y.neg z ∧ RoundedOnce mode f z (faddOf mode f x y.neg)) := by
  simpa only [RoundedSum, Num.isFin_neg] using roundedSum_faddOf mode f x y.neg

/-- FMUL (R152). -/
theorem fmulOf_rounds (mode : Word) (f : Fmt) (x y : Num) :
    ∃ p, isProduct x y p ∧ (p.isFin = true → RoundedOnce mode f p (fmulOf mode f x y)) ∧
      (∀ b, p = .nan b → (fmulOf mode f x y).1 = wd f.qnan ∧ (fmulOf mode f x y).2 = if b then flNV else 0) ∧
      (∀ n, p = .inf n → (fmulOf mode f x y).1 = wd (f.sign n + f.infBits) ∧ (fmulOf mode f x y).2 = 0) := by
  refine ⟨mulNum x y, isProduct_mulNum x y, fun _ => ⟨rfl, rfl⟩, fun b hb => ?_, fun n hn => ?_⟩
  · rw [fmulOf, hb]
    exact ⟨rfl, rfl⟩
  · rw [fmulOf, hn]
    exact ⟨rfl, rfl⟩

/-- The invalid product that FFMA lets stand is what the sum would give in any case. -/
theorem ffmaOf_eq_faddOf (mode : Word) (f : Fmt) (x y z : Num) : ffmaOf mode f x y z = faddOf mode f (mulNum x y) z := by
  by_cases hp : mulNum x y = .nan true
  · rw [ffmaOf, faddOf, hp, sumNum_nan _ (.inl rfl)]
    simp
  · rw [ffmaOf, faddOf]
    exact congrArg (fun v => toWord (f.round _ _ v)) (if_neg hp)

/-- FFMA rounds the sum of the unrounded product and C (R152). -/
theorem ffmaOf_rounds (mode : Word) (f : Fmt) (x y z : Num) :
    ∃ p, isProduct x y p ∧ RoundedSum mode f p z (ffmaOf mode f x y z) := by
  rw [ffmaOf_eq_faddOf]
  exact ⟨mulNum x y, isProduct_mulNum x y, roundedSum_faddOf ..⟩

/-- FFMA of 0 × ∞ is invalid whatever C is (R152). -/
theorem ffmaOf_invalid (mode : Word) (f : Fmt) {x y : Num} (z : Num) (h : mulNum x y = .nan true) :
    (ffmaOf mode f x y z).1 = wd f.qnan ∧ (ffmaOf mode f x y z).2 = flNV := by
  rw [ffmaOf, h]
  exact ⟨rfl, rfl⟩

/-- Settles O24: each lane's result is the model's exact sum or product rounded by one call of `Fmt.round`, and a format's own values are
fixed by that rounding. -/
theorem floatArithmeticRoundsExactResultOnce : Obligations.FloatArithmeticRoundsExactResultOnce := by
  refine ⟨fun o s c => ⟨?_, ?_, ?_, ?_⟩, fun f _ rm w hw hn => f.round_num rm hw hn⟩
  · rintro ⟨hgate, -, -⟩ i hi
    exact writesF_of_resF hgate (exec_of_mem_pair hi rfl rfl) fun l => roundedSum_faddOf ..
  · rintro ⟨hgate, -, -⟩ i hi
    exact writesF_of_resF hgate (exec_of_mem_pair hi rfl rfl) fun l => faddOf_neg_rounds ..
  · rintro ⟨hgate, -, -⟩ i hi
    exact writesF_of_resF hgate (exec_of_mem_pair hi rfl rfl) fun l => fmulOf_rounds ..
  · rintro ⟨hgate, -, -⟩
    exact writesF_of_resF hgate rfl fun l => ⟨ffmaOf_rounds .., fun n h => ffmaOf_invalid _ _ _ (mulNum_invalid h)⟩

end Sys2Proof.Machine
end
